-- ==== Sys2Proof/Word.lean ====
section
/-!
DEFINITION. The word types of the station and its fixed-size tables: octets and tick values, the five lanes, the
two loops of a lane, the six sign channels, the eight closure positions and the six steps of the ladder.
-/
namespace Sys2Proof

/-- One octet of a frame body, a sign line message, the configuration image or a retention slot (Chapter 13). -/
abbrev Octet := BitVec 8

/-- A value of the free-running 32-bit tick counter, 100 µs a tick (Conventions, Time). -/
abbrev Tick := BitVec 32

/-- The lanes a station can have, 1 (nearside) to 5 (offside). -/
inductive Lane where
  | l1 | l2 | l3 | l4 | l5
deriving DecidableEq, Repr

/-- The lane's number, 1 to 5. -/
def Lane.num (k : Lane) : Nat :=
  match k with
  | .l1 => 1
  | .l2 => 2
  | .l3 => 3
  | .l4 => 4
  | .l5 => 5

/-- The five lanes in ascending order. -/
def Lane.all : List Lane := [.l1, .l2, .l3, .l4, .l5]

/-- The lane with a given number, if there is one. -/
def Lane.ofNum (n : Nat) : Option Lane :=
  match n with
  | 1 => some .l1
  | 2 => some .l2
  | 3 => some .l3
  | 4 => some .l4
  | 5 => some .l5
  | _ => none

/-- One value for each lane. -/
structure Lanes (α : Type) where
  l1 : α
  l2 : α
  l3 : α
  l4 : α
  l5 : α
deriving DecidableEq, Repr

/-- The value of one lane. -/
def Lanes.get {α : Type} (t : Lanes α) (k : Lane) : α :=
  match k with
  | .l1 => t.l1
  | .l2 => t.l2
  | .l3 => t.l3
  | .l4 => t.l4
  | .l5 => t.l5

/-- The table with one lane's value replaced. -/
def Lanes.set {α : Type} (t : Lanes α) (k : Lane) (v : α) : Lanes α :=
  match k with
  | .l1 => { t with l1 := v }
  | .l2 => { t with l2 := v }
  | .l3 => { t with l3 := v }
  | .l4 => { t with l4 := v }
  | .l5 => { t with l5 := v }

/-- The table with the same value in every lane. -/
def Lanes.const {α : Type} (v : α) : Lanes α := ⟨v, v, v, v, v⟩

/-- The table of a function of the lane. -/
def Lanes.build {α : Type} (f : Lane → α) : Lanes α := ⟨f .l1, f .l2, f .l3, f .l4, f .l5⟩

/-- Which of a lane's two loops: the leading loop A or the trailing loop B (section 1.1). -/
inductive Side where
  | a | b
deriving DecidableEq, Repr

/-- One of the ten loop detector inputs (R1). -/
structure Loop where
  lane : Lane
  side : Side
deriving DecidableEq, Repr

/-- One of the six sign channels: a lane channel 1 to 5, or the legend channel 6 (section 10.1). -/
inductive Chan where
  | lane (k : Lane)
  | legend
deriving DecidableEq, Repr

/-- The channel number, 1 to 6. -/
def Chan.num (c : Chan) : Nat :=
  match c with
  | .lane k => k.num
  | .legend => 6

/-- The six channels in ascending order. -/
def Chan.all : List Chan := [.lane .l1, .lane .l2, .lane .l3, .lane .l4, .lane .l5, .legend]

/-- A position of the closure table, which is also the number of a retention slot, 1 to 8 (R106). -/
inductive Pos where
  | p1 | p2 | p3 | p4 | p5 | p6 | p7 | p8
deriving DecidableEq, Repr

/-- The position's number, 1 to 8. -/
def Pos.num (p : Pos) : Nat :=
  match p with
  | .p1 => 1
  | .p2 => 2
  | .p3 => 3
  | .p4 => 4
  | .p5 => 5
  | .p6 => 6
  | .p7 => 7
  | .p8 => 8

/-- The eight positions in ascending order. -/
def Pos.all : List Pos := [.p1, .p2, .p3, .p4, .p5, .p6, .p7, .p8]

/-- One value for each position. -/
structure Slots (α : Type) where
  p1 : α
  p2 : α
  p3 : α
  p4 : α
  p5 : α
  p6 : α
  p7 : α
  p8 : α
deriving DecidableEq, Repr

/-- The value at one position. -/
def Slots.get {α : Type} (t : Slots α) (p : Pos) : α :=
  match p with
  | .p1 => t.p1
  | .p2 => t.p2
  | .p3 => t.p3
  | .p4 => t.p4
  | .p5 => t.p5
  | .p6 => t.p6
  | .p7 => t.p7
  | .p8 => t.p8

/-- The table with one position's value replaced. -/
def Slots.set {α : Type} (t : Slots α) (p : Pos) (v : α) : Slots α :=
  match p with
  | .p1 => { t with p1 := v }
  | .p2 => { t with p2 := v }
  | .p3 => { t with p3 := v }
  | .p4 => { t with p4 := v }
  | .p5 => { t with p5 := v }
  | .p6 => { t with p6 := v }
  | .p7 => { t with p7 := v }
  | .p8 => { t with p8 := v }

/-- The table with the same value at every position. -/
def Slots.const {α : Type} (v : α) : Slots α := ⟨v, v, v, v, v, v, v, v⟩

/-- The values in position order. -/
def Slots.toList {α : Type} (t : Slots α) : List α :=
  [t.p1, t.p2, t.p3, t.p4, t.p5, t.p6, t.p7, t.p8]

/-- One value for each step of the ladder, 1 to 6 (section 5.1). -/
structure Steps where
  k1 : Nat
  k2 : Nat
  k3 : Nat
  k4 : Nat
  k5 : Nat
  k6 : Nat
deriving DecidableEq, Repr

/-- The value of one step; 0 for a number that is no step of the ladder. -/
def Steps.get (t : Steps) (k : Nat) : Nat :=
  match k with
  | 1 => t.k1
  | 2 => t.k2
  | 3 => t.k3
  | 4 => t.k4
  | 5 => t.k5
  | 6 => t.k6
  | _ => 0

end Sys2Proof
end

