-- ==== Sys2Proof/Syntax.lean ====
section
/-!
DEFINITION. The commands of the station, one constructor for each row of spec/opcode_table.json, with the operands
that the rules give the event. Every command but a reset carries `dt`, the time in µs that has passed since the
command before it (log 1).
-/
namespace Sys2Proof

/-- The level of a strap pin as it is read (R164): low reads as 0, high as 1, and an open pin gives no digit. -/
inductive PinLevel where
  | low | high | floating
deriving DecidableEq, Repr

/-- The six station-number strap pins, pin 1 most significant (section 11.2). -/
structure Straps where
  pin1 : PinLevel
  pin2 : PinLevel
  pin3 : PinLevel
  pin4 : PinLevel
  pin5 : PinLevel
  pin6 : PinLevel
deriving DecidableEq, Repr

/-- A block that takes a report and acts on it. Several reports may fall together, and the manual lets the readers take
them in either order (R104, R117, R142, R163). The composer takes every report made to it as `composer`; as `plan` it
takes all but the queue monitor's (R104). -/
inductive Reader where
  | queue | speed | plan | composer | shoulder
deriving DecidableEq, Repr

/-- The order in which the blocks act within one step (log 3). `early` names readers served after a frame's arrival and
before its delivery. Where two blocks take one frame or one evaluation in either order (R38, R62), `swapped` says that
the second of them goes first, and `between` names readers served between the two. `late` names readers served first
after the owners have acted. Every reader that these leave out is served afterwards, so the empty order is complete. -/
structure Order where
  early : List Reader
  swapped : Bool
  between : List Reader
  late : List Reader
deriving DecidableEq, Repr

/-- What a transmitter read back that disagreed with what it sent (R50, R51): `held` is how long the line was held, in µs
from the start of the mark, and `holds` are those of the marks before it, from the first of the header or, outside the
header, from the first after it. -/
inductive AbortCause where
  /-- The start hold read released at the sample, or the line was still held at the end of its slot. -/
  | startHold (held : Nat)
  /-- A header mark sent long read released (R50). -/
  | headerLong (holds : List Nat) (held : Nat)
  /-- Outside the header: the sample at 1.5 units did not match the mark. -/
  | sample (holds : List Nat) (held : Nat)
  /-- Outside the header: the line was still held at the end of the mark's slot. -/
  | slotEnd (holds : List Nat) (held : Nat)
  /-- Outside the header: the line was found held when the mark after these was about to begin. -/
  | foundHeld (holds : List Nat)
deriving DecidableEq, Repr

/-- The header mark at which arbitration is lost (R50): `holds` are those of the marks before it, and `held` how long the line
was held, in µs from its start. -/
structure LostMark where
  holds : List Nat
  held : Nat
deriving DecidableEq, Repr

/-- A run of marks that a transmitter has sent to its end: how long the line was held for each, from the start of that mark,
and the time since the command before, up to the end of the run. -/
structure SentMarks where
  dt : Nat
  holds : List Nat
deriving DecidableEq, Repr

/-- The commands: the operations and events of spec/opcode_table.json. -/
inductive Instr where
  | powerOnReset (straps : Straps)
  | resetPin (straps : Straps)
  | startUpCheck (dt : Nat) (image : List Octet)
  | restoreComplete (dt : Nat)
  | warmingEntry (dt : Nat)
  | warmUpTimerExpiry (dt : Nat)
  | warmingExit (dt : Nat) (modeFirst : Bool) (o : Order)
  | loopPresenceStart (dt : Nat) (loop : Loop)
  | qualifiedOnEdge (dt : Nat) (loop : Loop)
  | releaseEdge (dt : Nat) (loop : Loop)
  | presenceTimeout (dt : Nat) (loop : Loop) (endFirst : Bool)
  | pairingDeadline (dt : Nat) (lane : Lane)
  | intervalEnd (dt : Nat) (lanes : List Lane) (loops : List Loop)
  | vehicleRequestCompletion (dt : Nat) (o : Order)
  | intervalRequestCompletion (dt : Nat) (o : Order)
  | traceFramePlaced (dt : Nat)
  | idleGap (dt : Nat)
  | transmitStart (dt : Nat)
  | arbitrationLost (dt : Nat) (mark : LostMark)
  | transmitAbort (dt : Nat) (cause : AbortCause)
  | abortHoldEnd (dt : Nat)
  | transmitComplete (sent : SentMarks)
  | publicationTimerExpiry (dt : Nat)
  | lapse (dt : Nat) (holds : List Nat)
  | frameAborted (dt : Nat) (holds : List Nat)
  | frameRejected (dt : Nat) (cls : BitVec 2) (kind : BitVec 4) (source : BitVec 6) (body : List Octet) (check : BitVec 16)
  | lineStuck (dt : Nat) (holds : List Nat) (o : Order)
  | lineStuckEnd (dt : Nat)
  | statusFrame (dt : Nat) (cls : BitVec 2) (source : BitVec 6) (body : List Octet) (o : Order)
  | reportFrameHeard (dt : Nat) (cls : BitVec 2) (source : BitVec 6) (body : List Octet)
  | neighbourExpiry (dt : Nat) (station : Nat)
  | neighbourRemoval (dt : Nat) (station : Nat) (o : Order)
  | isolationTimerExpiry (dt : Nat) (o : Order)
  | holdExpiry (dt : Nat)
  | override (dt : Nat) (low high step legend : Octet) (minutes : BitVec 16) (o : Order)
  | overrideExpiry (dt : Nat) (o : Order)
  | closeSet (dt : Nat) (origin serial lanes taper extent step : Octet) (o : Order)
  | closeClear (dt : Nat) (origin serial : Octet) (o : Order)
  | shoulderOpen (dt : Nat) (low high : Octet) (o : Order)
  | shoulderClose (dt : Nat) (low high : Octet) (o : Order)
  | checkTimerExpiry (dt : Nat)
  | clearanceTimerExpiry (dt : Nat)
  | faultAck (dt : Nat) (station kind unit : Octet)
  | faultAckAll (dt : Nat) (station unit : Octet)
  | requestFaults (dt : Nat) (station lane count : Octet)
  | requestLanes (dt : Nat) (station lane count : Octet)
  | requestTrace (dt : Nat) (station lane count : Octet)
  | identity (dt : Nat) (chan : Chan) (kind : Octet) (check : BitVec 16) (endFirst : Bool)
  | identificationDeadline (dt : Nat) (chan : Chan)
  | provingReport (dt : Nat) (chan : Chan) (set result : Octet) (check : BitVec 16) (endFirst : Bool)
  | provingDeadline (dt : Nat) (chan : Chan) (endFirst : Bool)
  | retryTimerExpiry (dt : Nat) (chan : Chan)
  | restartNotice (dt : Nat) (chan : Chan) (kind : Octet) (check : BitVec 16) (endFirst : Bool)
  | slotWriteCompletion (dt : Nat)
  | frameLengthRejected (dt : Nat) (holds : List Nat)
  | firstHoldWrongClass (dt : Nat) (held : Nat)
  | arbitrationWon (sent : SentMarks)
  | commandNotAddressed (dt : Nat) (kind : BitVec 4) (body : List Octet)
  | shoulderOtherAction (dt : Nat) (low high action : Octet)
  | requestOtherType (dt : Nat) (station type lane count : Octet)
deriving DecidableEq, Repr

end Sys2Proof
end

