-- ==== Sys2Proof/Config.lean ====
section
/-!
DEFINITION. The values the manual leaves open. Each is a constant with no body: nothing can be proved of the value
it takes, so a claim that mentions one holds whatever the value is.
-/
namespace Sys2Proof.Config

/-- DESIGN CHOICE (log 5): the publication period, in seconds less one, of a station in CONFIG_FAULT whose image
failed its check, so that no configured P exists. The argument is the model's free-value counter. -/
opaque faultPeriod : Nat → Nat

/-- DESIGN CHOICE (log 6): the 32 image digits that stand in a retention slot after a reset has cut short its write.
The argument is the model's free-value counter. -/
opaque interruptedImage : Nat → BitVec 32

/-- DESIGN CHOICE (log 6): the check code that stands in a retention slot after a reset has cut short its write.
The argument is the model's free-value counter. -/
opaque interruptedCheck : Nat → BitVec 16

end Sys2Proof.Config
end

