-- ==== Sys2Proof/Machine/State.lean ====
section
/-!
DEFINITION. The state of the station, block by block (Table 0-2), as plain data, and the state right after reset.
Moments are kept in µs since the end of the last reset (log 2); a timer is the moment it expires, absent while it is
stopped. Raw loop times are values of the 32-bit tick counter.
-/
namespace Sys2Proof.Machine

/-! ### Station control (chapters 11 and 12) -/

/-- The station mode (Table 0-3, R163). -/
inductive Mode where
  | starting | warming | running | isolated | configFault
deriving DecidableEq, Repr

/-- The station straps as they were read at the end of the reset (R164); before the read there is no number. -/
inductive StrapRead where
  | unread
  | bad
  | number (n : Nat)
deriving DecidableEq, Repr

/-- How far the start-up check has come (R167): under way, ended with a usable image, or ended in CONFIG_FAULT. -/
inductive CheckState where
  | underWay | usable | failed
deriving DecidableEq, Repr

/-- The command kinds of the gateway (Table 3-2). -/
inductive CommandKind where
  | closeSet | closeClear | shoulder | override | faultAck | request
deriving DecidableEq, Repr

/-- The result codes of a command (R176). -/
inductive ResultCode where
  | accepted | refusedRange | refusedState | refusedConfig | refusedSerial | busy
deriving DecidableEq, Repr

/-- The last-command record, when present (R176). -/
structure LastCommand where
  kind : CommandKind
  result : ResultCode
deriving DecidableEq, Repr

/-- The configured fields of one lane (Tables 1-1, 2-1 and 10-1). -/
structure LaneConfig where
  loopB : Bool
  spacing : Nat
  loopLength : Nat
  longThreshold : Nat
  sign : Bool
deriving DecidableEq, Repr

/-- The station's copy of the configuration image, each field as clamped (Table 13-9, R166). -/
structure StationConfig where
  laneCount : Nat
  shoulderLane : Bool
  lanes : Lanes LaneConfig
  glitchMin : Nat
  presenceTimeout : Nat
  chatterLimit : Nat
  intervalLength : Nat
  vff : Nat
  w : Nat
  wo : Nat
  limit : Steps
  sEnter : Steps
  oEnter : Steps
  hs : Nat
  ho : Nat
  dwellCount : Nat
  minDisplay : Nat
  isolationStep : Nat
  queueSpeed : Nat
  queueOccupancy : Nat
  confirmCount : Nat
  clearDwell : Nat
  shockSpeed : Nat
  runLength : Nat
  warningDistance : Nat
  queueStep : Nat
  period : Nat
  upWindow : Nat
  downWindow : Nat
  expiryCount : Nat
  staleHold : Nat
  isolationTime : Nat
  checkTime : Nat
  clearanceTime : Nat
  legendPanel : Bool
  provingTimeout : Nat
  retryPeriod : Nat
deriving DecidableEq, Repr

/-- Station control (section 11.1). `restored` says that the restore is complete (R173); `warmUp` is the warm-up
timer and `warmedUp` that it has expired (R169); `markSetAt` is the moment of the evaluation that set the
first-evaluation mark, which R77 compares with the moment of the mode change. -/
structure Station where
  mode : Mode
  straps : StrapRead
  config : Option StationConfig
  check : CheckState
  restored : Bool
  warmUp : Option Nat
  warmedUp : Bool
  firstEvaluation : Bool
  markSetAt : Option Nat
  lastCommand : Option LastCommand
deriving DecidableEq, Repr

/-! ### Detector unit (chapter 1) -/

/-- The levels of the ten loop inputs: one pair for each lane; true is present (section 1.1). -/
structure LoopInputs where
  a : Bool
  b : Bool
deriving DecidableEq, Repr

/-- The loop states (section 1.2). -/
inductive LoopStatus where
  | ok | stuck | chatter
deriving DecidableEq, Repr

/-- A presence in progress on a configured loop: its raw on time, whether it is qualified (R3), and whether its
presence timeout is running (R4). -/
structure Presence where
  on : Tick
  qualified : Bool
  timing : Bool
deriving DecidableEq, Repr

/-- One loop: its state, its presence in progress and its glitch count for the interval. -/
structure LoopRecord where
  status : LoopStatus
  presence : Option Presence
  glitches : Nat
deriving DecidableEq, Repr

/-- The lane measurement modes (Table 1-2). -/
inductive MeasureMode where
  | dual | singleA | singleB | none
deriving DecidableEq, Repr

/-- An entry of a pending-arrival list (section 1.4). -/
structure Arrival where
  on : Tick
  off : Option Tick
  bOn : Option Tick
  resolved : Bool
deriving DecidableEq, Repr

/-- The interval sums of one lane (section 1.7); the measured mark stands with the lane. -/
structure Sums where
  n : Nat
  m : Nat
  sumT : Nat
  sumOn : Nat
  nLong : Nat
  implausible : Nat
deriving DecidableEq, Repr

/-- One lane of the detector unit: its loops, its measurement mode, its measured mark, its pending arrivals oldest
first, its sums, and the occupancy mark of its counting loop. -/
structure LaneDetector where
  a : LoopRecord
  b : LoopRecord
  mode : MeasureMode
  measured : Bool
  arrivals : List Arrival
  sums : Sums
  mark : Option Tick
deriving DecidableEq, Repr

/-- The detector unit: its lanes, the start of the current interval, and the interval timer as the tick at which
the interval ends (absent while it is stopped). -/
structure Detector where
  lanes : Lanes LaneDetector
  intervalStart : Tick
  intervalEnd : Option Tick
deriving DecidableEq, Repr

/-- Why a vehicle record has no speed (Table 1-3). -/
inductive UnmeasuredReason where
  | notPaired | implausible | load | singleLoop
deriving DecidableEq, Repr

/-- The class of a measured vehicle (R27). -/
inductive VehicleClass where
  | short | long
deriving DecidableEq, Repr

/-- What a vehicle record holds beside its lane, times and held time: all of speed, clamped mark, length and class,
or a reason (R14). -/
inductive VehicleResult where
  | measured (speed : Nat) (clamped : Bool) (length : Nat) (cls : VehicleClass)
  | unmeasured (reason : UnmeasuredReason)
deriving DecidableEq, Repr

/-- A vehicle record (Table 1-3). -/
structure VehicleRecord where
  lane : Lane
  seconds : Nat
  tick : Tick
  onA : Nat
  result : VehicleResult
deriving DecidableEq, Repr

/-- The states of the trace buffer (section 1.9). -/
inductive TraceState where
  | idle | capturing | draining
deriving DecidableEq, Repr

/-- The vehicle trace buffer (section 1.9). `cutShort` is the mark its frames carry (R18). -/
structure Trace where
  state : TraceState
  lane : Nat
  requested : Nat
  captured : Nat
  intervals : Nat
  framesSent : Nat
  cutShort : Bool
  records : List VehicleRecord
deriving DecidableEq, Repr

/-! ### Arithmetic unit and lane records (chapter 2) -/

/-- The latched operands of a VEHICLE request, with the record it is to finish (R22). -/
structure VehicleRequest where
  lane : Lane
  spacing : Nat
  transit : Nat
  onA : Nat
  loopLength : Nat
  longThreshold : Nat
  seconds : Nat
  tick : Tick
deriving DecidableEq, Repr

/-- The snapshot of an INTERVAL request (section 2.5). -/
structure Snapshot where
  n : Nat
  m : Nat
  sumT : Nat
  sumOn : Nat
  nLong : Nat
  covered : Nat
  measured : Bool
  merges : Nat
deriving DecidableEq, Repr

/-- A request of the arithmetic unit (section 2.1). -/
inductive Request where
  | vehicle (r : VehicleRequest)
  | interval (lane : Lane) (snap : Snapshot)
deriving DecidableEq, Repr

/-- The lane record (R33); an absent value is `none`. -/
structure LaneRecord where
  q : Option Nat
  o : Option Nat
  v : Option Nat
  empty : Bool
  merged : Bool
  nLong : Nat
  s : Option Nat
  os : Option Nat
deriving DecidableEq, Repr

/-- The station measures, held from one evaluation to the next (R37). -/
structure Measures where
  speed : Option Nat
  occupancy : Option Nat
deriving DecidableEq, Repr

/-! ### Line interface (chapter 3) -/

/-- The receive phases (Table 3-3). -/
inductive Phase where
  | idle | start | header | length | body | check
deriving DecidableEq, Repr

/-- The receive state: the phase, whether an idle gap has been seen, and the digits of the frame in progress in the
order they were received (a digit 1 is true). -/
structure Receiver where
  phase : Phase
  gapSeen : Bool
  digits : List Bool
deriving DecidableEq, Repr

/-- The transmit states (section 3.4). -/
inductive TxState where
  | quiet | waiting | arbitrating | sending
deriving DecidableEq, Repr

/-- A frame of the corridor line (section 3.2); the length is that of the body. -/
structure Frame where
  cls : BitVec 2
  kind : BitVec 4
  source : BitVec 6
  body : List Octet
  check : BitVec 16
deriving DecidableEq, Repr

/-- The line interface. As the commands so far show (log 11), `gapFrom` is the earliest moment of the line's last release
that was not noise (R44), of the next one once an idle gap has been seen, and `heldFrom` the earliest moment from which the
line can be held without a break (R42); `abortHold` is the end of an abort hold in progress (R51); `urgentAgain` records a setting of the urgent flag since the last start
hold (R55); `timerPeriod` is the period in seconds at which the publication timer runs. -/
structure Line where
  rx : Receiver
  gapFrom : Nat
  heldFrom : Nat
  stuck : Bool
  tx : TxState
  txFrame : Option Frame
  abortHold : Option Nat
  pending : Bool
  urgent : Bool
  urgentAgain : Bool
  pubTimer : Option Nat
  timerPeriod : Nat
  replies : List (List Octet)
  rejected : Nat
  aborts : Nat
deriving DecidableEq, Repr

/-! ### Status records and the neighbour table (chapter 4) -/

/-- The aspect classes a status record carries (Table 13-2). -/
inductive AspectClass where
  | blank | limit | ended | mergeNear | mergeOff | closed
deriving DecidableEq, Repr

/-- The shoulder state as a status record carries it (Table 4-1). -/
inductive ShoulderCode where
  | none | closed | checking | opened | closing
deriving DecidableEq, Repr

/-- The per-lane fields of a status record; a class outside the list reads as absent (R184). -/
structure LaneView where
  aspect : Option AspectClass
  displaced : Bool
  takenOver : Bool
deriving DecidableEq, Repr

/-- The closure a station originates, as its record carries it; its origin is the frame's source. -/
structure OwnClosure where
  serial : Nat
  lanes : BitVec 5
  taper : Nat
  extent : Nat
  step : Nat
deriving DecidableEq, Repr

/-- The status record (Table 4-1); a field the record does not carry is absent. -/
structure StatusRecord where
  mode : Mode
  laneCount : Nat
  faults : Nat
  activeFaults : Nat
  overflow : Bool
  planStep : Option Nat
  demandStep : Option Nat
  queueFlag : Option Bool
  shoulder : Option ShoulderCode
  lanes : List LaneView
  rejected : Option Nat
  lastKind : Option CommandKind
  lastResult : Option ResultCode
  displacedStep : Option Nat
  ownClosure : Option OwnClosure
  held : List Nat
deriving DecidableEq, Repr

/-- The states of a neighbour entry (Table 4-3). -/
inductive EntryState where
  | live | stale
deriving DecidableEq, Repr

/-- A neighbour entry (R63). Its hop is its station number less the own number. -/
structure Neighbour where
  station : Nat
  record : StatusRecord
  arrival : Nat
  state : EntryState
  void : Bool
deriving DecidableEq, Repr

/-- The neighbour table with the isolation timer and the isolation condition (R70). -/
structure Neighbours where
  entries : List Neighbour
  isolationTimer : Option Nat
  isolation : Bool
deriving DecidableEq, Repr

/-! ### Speed control and queue monitor (chapters 5 and 6) -/

/-- The legends (Table 9-2). -/
inductive Legend where
  | none | queue | lanesClosed | incident | caution
deriving DecidableEq, Repr

/-- The override record (R89); its remaining time is kept as the moment it expires (R90). -/
structure Override where
  step : Nat
  legend : Legend
  expires : Nat
deriving DecidableEq, Repr

/-- Speed control (section 5.1, Table 5-6). `holdEnded` is the model's: HOLD_EXPIRY has been taken for the present hold (R88,
log 25). -/
structure Speed where
  demand : Nat
  dwell : Nat
  detectionLost : Bool
  bound : Nat
  planStep : Nat
  heldSince : Nat
  holdEnded : Bool
  override : Option Override
  endCondition : Bool
deriving DecidableEq, Repr

/-- The queue states (section 6.1). -/
inductive QueueState where
  | clear | present
deriving DecidableEq, Repr

/-- The queue monitor (section 6.1). `firedAt` is the model's: the moment at which the shock trigger last fired (R101, log 24). -/
structure QueueMonitor where
  state : QueueState
  confirm : Nat
  clearCount : Nat
  firedAt : Option Nat
  runs : Lanes Nat
  term : Bool
deriving DecidableEq, Repr

/-! ### Closures and shoulder (chapters 7 and 8) -/

/-- How a closure entry came to be held (Table 7-1). -/
inductive ClosureSource where
  | command | learned | retained
deriving DecidableEq, Repr

/-- A closure entry (Table 7-1); its position is the place it is kept at. Digit k − 1 of the closed lanes is lane k. -/
structure Closure where
  origin : Nat
  serial : Nat
  lanes : BitVec 5
  taper : Nat
  extent : Nat
  step : Nat
  source : ClosureSource
deriving DecidableEq, Repr

/-- The shoulder states (section 8.1). -/
inductive ShoulderState where
  | closed | checking | opened | closing
deriving DecidableEq, Repr

/-- The shoulder controller (section 8.1). -/
structure Shoulder where
  state : ShoulderState
  checkTimer : Option Nat
  clearanceTimer : Option Nat
deriving DecidableEq, Repr

/-! ### Aspect composer and sign channels (chapters 9 and 10) -/

/-- The lane aspects (Table 9-1); LIMIT carries its step. -/
inductive Aspect where
  | blank
  | limit (step : Nat)
  | ended
  | mergeNear
  | mergeOff
  | closed
deriving DecidableEq, Repr

/-- A plan (R134). Lanes above the lane count hold BLANK with the mark clear, since a plan has no part for them. -/
structure Plan where
  aspects : Lanes Aspect
  taken : Lanes Bool
  legend : Legend
  flashers : Bool
deriving DecidableEq, Repr

/-- The all-BLANK plan (R134). -/
def Plan.allBlank : Plan :=
  { aspects := Lanes.const .blank, taken := Lanes.const false, legend := .none, flashers := false }

/-- The aspect composer (section 9.1). `queueCandidate` says that the queue monitor's last report has made QUEUE a legend
candidate (R104, R139, Table 9-4). -/
structure Composer where
  display : Bool
  queueCandidate : Bool
  next : Plan
  active : Plan
deriving DecidableEq, Repr

/-- The channel states (Table 10-3). -/
inductive ChannelState where
  | absent | identifying | setting | showing | failed | mismatch
deriving DecidableEq, Repr

/-- The failure reasons of a channel (R148). -/
inductive FailureReason where
  | noResponse | failed
deriving DecidableEq, Repr

/-- The attempt in flight (R154): its proving set number and its proving deadline. -/
structure Attempt where
  set : Nat
  deadline : Nat
deriving DecidableEq, Repr

/-- A channel record (R148), with the identification deadline of R152. -/
structure Channel where
  state : ChannelState
  identified : Bool
  reason : Option FailureReason
  nextSet : Nat
  attempt : Option Attempt
  identifyBy : Option Nat
  retryAt : Option Nat
deriving DecidableEq, Repr

/-- A message the station sends on a sign line (R149): IDENTIFY, or ASPECT SET for a lane module (class and limit
value in km/h) or for a legend module. -/
inductive SignMessage where
  | identify
  | laneAspect (set : Nat) (cls : AspectClass) (limit : Nat)
  | legendAspect (set : Nat) (legend : Legend) (flashers : Bool)
deriving DecidableEq, Repr

/-- The sign channel unit. `handedOver` says that the channel configuration has been handed over (R151). `sent` is
the MODEL's own field (log 4): the messages the last command put on the sign lines, in order. -/
structure Signs where
  handedOver : Bool
  lanes : Lanes Channel
  legend : Channel
  sent : List (Chan × SignMessage)
deriving DecidableEq, Repr

/-! ### Retention store and fault list (chapters 11 and 12) -/

/-- The four octets of an entry image (Table 13-3). -/
structure SlotImage where
  origin : Octet
  serial : Octet
  lanes : Octet
  fields : Octet
deriving DecidableEq, Repr

/-- A non-volatile slot (section 11.6): marker octet, entry image and check code. -/
structure RetentionSlot where
  marker : Octet
  image : SlotImage
  check : BitVec 16
deriving DecidableEq, Repr

/-- The slot write in flight, with the position's content it latched (R172). -/
structure SlotWrite where
  slot : Pos
  latched : Option SlotImage
deriving DecidableEq, Repr

/-- The retention store (section 11.6): the slots, the dirty set and the write in flight. -/
structure Retention where
  slots : Slots RetentionSlot
  dirty : Slots Bool
  write : Option SlotWrite
deriving DecidableEq, Repr

/-- The fault kinds (Table 12-2). -/
inductive FaultKind where
  | loopStuck | loopChatter | pairImplausible
  | signFailed | signNoResponse | signDegraded | signMismatch
  | neighbourLost | lineStuck
  | retentionInterrupted | retentionCorrupt
  | shoulderCheckFailed | detectionLost
  | configFault | configClamped
deriving DecidableEq, Repr

/-- A fault entry (section 12.3). -/
structure FaultEntry where
  kind : FaultKind
  unit : Nat
  firstSeen : Nat
  count : Nat
  active : Bool
  acked : Bool
deriving DecidableEq, Repr

/-- The fault list, oldest entry first, with its overflow flag (section 12.3). -/
structure FaultList where
  entries : List FaultEntry
  overflow : Bool
deriving DecidableEq, Repr

/-! ### The whole station -/

/-- The state of the station. `pending` is the queue of commands still to be taken; `clock` is the time in µs since
the end of the last reset, of which the 32-bit tick counter is a view; `inputs` are the levels of the loop inputs;
`free` is the MODEL's own counter, to which the opaque constants of Config are applied (logs 5 and 6). -/
structure State where
  pending : List Instr
  clock : Nat
  inputs : Lanes LoopInputs
  station : Station
  detector : Detector
  trace : Trace
  requests : List Request
  records : Lanes LaneRecord
  measures : Measures
  line : Line
  neighbours : Neighbours
  speed : Speed
  queue : QueueMonitor
  closures : Slots (Option Closure)
  shoulder : Shoulder
  composer : Composer
  signs : Signs
  retention : Retention
  faults : FaultList
  free : Nat
deriving DecidableEq, Repr

/-- No event of the manual stops the station: every command has an effect or finds nothing to act on. The type has
no constructor, so no command can fault. -/
inductive Fault where
deriving DecidableEq, Repr

/-- Why a command is turned away without a meaning. -/
inductive Refusal where
  /-- Raised by `exec` alone, for a command whose meaning has not been written; no arm raises it now. Safe: the run
  stops. -/
  | notModelled (mnemonic : String)
deriving DecidableEq, Repr

/-! ### Updates of one field -/

def State.setPending (s : State) (x : List Instr) : State := { s with pending := x }
def State.setClock (s : State) (x : Nat) : State := { s with clock := x }
def State.setInputs (s : State) (x : Lanes LoopInputs) : State := { s with inputs := x }
def State.setStation (s : State) (x : Station) : State := { s with station := x }
def State.setDetector (s : State) (x : Detector) : State := { s with detector := x }
def State.setTrace (s : State) (x : Trace) : State := { s with trace := x }
def State.setRequests (s : State) (x : List Request) : State := { s with requests := x }
def State.setRecords (s : State) (x : Lanes LaneRecord) : State := { s with records := x }
def State.setMeasures (s : State) (x : Measures) : State := { s with measures := x }
def State.setLine (s : State) (x : Line) : State := { s with line := x }
def State.setNeighbours (s : State) (x : Neighbours) : State := { s with neighbours := x }
def State.setSpeed (s : State) (x : Speed) : State := { s with speed := x }
def State.setQueue (s : State) (x : QueueMonitor) : State := { s with queue := x }
def State.setClosures (s : State) (x : Slots (Option Closure)) : State := { s with closures := x }
def State.setShoulder (s : State) (x : Shoulder) : State := { s with shoulder := x }
def State.setComposer (s : State) (x : Composer) : State := { s with composer := x }
def State.setSigns (s : State) (x : Signs) : State := { s with signs := x }
def State.setRetention (s : State) (x : Retention) : State := { s with retention := x }
def State.setFaults (s : State) (x : FaultList) : State := { s with faults := x }
def State.setFree (s : State) (x : Nat) : State := { s with free := x }

/-! ### The state right after reset -/

/-- A loop after reset: OK, no presence, glitch count 0 (Table 1-5). -/
def LoopRecord.reset : LoopRecord := { status := .ok, presence := none, glitches := 0 }

/-- Interval sums at 0 (Table 1-5). -/
def Sums.zero : Sums := { n := 0, m := 0, sumT := 0, sumOn := 0, nLong := 0, implausible := 0 }

/-- A lane of the detector unit after reset (Table 1-5). -/
def LaneDetector.reset : LaneDetector :=
  { a := LoopRecord.reset, b := LoopRecord.reset, mode := .none, measured := false, arrivals := [], sums := Sums.zero, mark := none }

/-- The detector unit after reset: the interval timer stopped (Table 1-5). The table gives no start of the current interval:
DESIGN CHOICE, tick 0, until the start in WARMING sets it (log 7). -/
def Detector.reset : Detector := { lanes := Lanes.const LaneDetector.reset, intervalStart := 0, intervalEnd := none }

/-- The trace buffer after reset: IDLE and empty (Table 1-5). The table does not name the cut-short mark: DESIGN CHOICE,
clear (log 7). -/
def Trace.reset : Trace :=
  { state := .idle, lane := 0, requested := 0, captured := 0, intervals := 0, framesSent := 0, cutShort := false, records := [] }

/-- A lane record after reset (Table 2-7). -/
def LaneRecord.reset : LaneRecord :=
  { q := none, o := none, v := none, empty := false, merged := false, nLong := 0, s := none, os := none }

/-- The line interface after reset (Table 3-7). The model's own moments start at 0, its timer period at 0 and its record of
an urgent change clear: DESIGN CHOICE (log 7); the moments and the period are set when the interface begins. -/
def Line.reset : Line :=
  { rx := { phase := .idle, gapSeen := false, digits := [] }, gapFrom := 0, heldFrom := 0, stuck := false, tx := .quiet, txFrame := none,
    abortHold := none, pending := false, urgent := false, urgentAgain := false, pubTimer := none, timerPeriod := 0,
    replies := [], rejected := 0, aborts := 0 }

/-- The neighbour table after reset (Table 4-5). -/
def Neighbours.reset : Neighbours := { entries := [], isolationTimer := none, isolation := false }

/-- Speed control after reset (Table 5-6); that no expiry of a hold has been taken is the model's (log 7). -/
def Speed.reset : Speed :=
  { demand := 0, dwell := 0, detectionLost := false, bound := 0, planStep := 0, heldSince := 0
    holdEnded := false, override := none, endCondition := false }

/-- The queue monitor after reset (Table 6-4); that no shock has fired is the model's (log 7). -/
def QueueMonitor.reset : QueueMonitor :=
  { state := .clear, confirm := 0, clearCount := 0, firedAt := none, runs := Lanes.const 0, term := false }

/-- The shoulder controller after reset (Table 8-4). -/
def Shoulder.reset : Shoulder := { state := .closed, checkTimer := none, clearanceTimer := none }

/-- The aspect composer after reset: no legend candidate is raised (Table 9-4). -/
def Composer.reset : Composer := { display := false, queueCandidate := false, next := Plan.allBlank, active := Plan.allBlank }

/-- A sign channel after reset (Table 10-5). -/
def Channel.reset : Channel :=
  { state := .identifying, identified := false, reason := none, nextSet := 1, attempt := none, identifyBy := none, retryAt := none }

/-- The sign channel unit after reset (Table 10-5). -/
def Signs.reset : Signs :=
  { handedOver := false, lanes := Lanes.const Channel.reset, legend := Channel.reset, sent := [] }

/-- A retention slot of the store as delivered: EMPTY (R173). Its image and check code are not given by the manual;
DESIGN CHOICE, all digits 0 (log 7). -/
def RetentionSlot.delivered : RetentionSlot :=
  { marker := 0x3C#8, image := { origin := 0, serial := 0, lanes := 0, fields := 0 }, check := 0 }

/-- Station control after reset, before the straps are read (Table 11-5). -/
def Station.reset : Station :=
  { mode := .starting, straps := .unread, config := none, check := .underWay, restored := false, warmUp := none, warmedUp := false,
    firstEvaluation := false, markSetAt := none, lastCommand := none }

/-- The machine right after reset, with the retention store as delivered (R174) and, DESIGN CHOICE, every loop input
absent (log 7). -/
def State.reset : State :=
  { pending := []
    clock := 0
    inputs := Lanes.const { a := false, b := false }
    station := Station.reset
    detector := Detector.reset
    trace := Trace.reset
    requests := []
    records := Lanes.const LaneRecord.reset
    measures := { speed := none, occupancy := none }
    line := Line.reset
    neighbours := Neighbours.reset
    speed := Speed.reset
    queue := QueueMonitor.reset
    closures := Slots.const none
    shoulder := Shoulder.reset
    composer := Composer.reset
    signs := Signs.reset
    retention := { slots := Slots.const RetentionSlot.delivered, dirty := Slots.const false, write := none }
    faults := { entries := [], overflow := false }
    free := 0 }

end Sys2Proof.Machine
end

