-- ==== Sys2Proof/Machine/Operands.lean ====
section
/-!
DEFINITION. The layouts of chapter 13 and the operand forms they give the commands: digits and octets, the cyclic
check, frames and marks, status bodies, closure records, command bodies, report bodies, sign line messages and the
configuration image.
-/
namespace Sys2Proof.Machine

/-! ### Digits, octets and the cyclic check (R43, section 13.1) -/

/-- The lowest `w` digits of a number, most significant first (section 13.1). -/
def digitsOf (w n : Nat) : List Bool :=
  match w with
  | 0 => []
  | w + 1 => n.testBit w :: digitsOf w n

/-- The number that a string of digits spells, most significant first. -/
def numberOf (ds : List Bool) : Nat :=
  ds.foldl (fun acc d => 2 * acc + d.toNat) 0

/-- The eight digits of an octet, digit 7 first. -/
def octetDigits (o : Octet) : List Bool :=
  digitsOf 8 o.toNat

/-- The digits of a string of octets. -/
def octetsDigits (os : List Octet) : List Bool :=
  os.flatMap octetDigits

/-- The digits packed into octets, the last one filled up with digits 0 (section 13.1: unused digits are sent as 0). -/
def packDigits (ds : List Bool) : List Octet :=
  (List.range ((ds.length + 7) / 8)).map (fun i => BitVec.ofNat 8 (numberOf (((ds ++ List.replicate 7 false).drop (8 * i)).take 8)))

/-- Digits `hi` down to `lo` of an octet, as a number. -/
def octetField (o : Octet) (hi lo : Nat) : Nat :=
  (o.toNat >>> lo) % 2 ^ (hi + 1 - lo)

/-- One digit of an octet. -/
def octetDigit (o : Octet) (i : Nat) : Bool :=
  o.getLsbD i

/-- A two-octet field, most significant octet first (section 13.1). -/
def twoOctets (hi lo : Octet) : Nat :=
  hi.toNat * 256 + lo.toNat

/-- The check register runs over a string of digits (R43): at each one it shifts, and takes the polynomial when its top
digit differs from the incoming one. -/
def checkRun (reg : BitVec 16) (ds : List Bool) : BitVec 16 :=
  match ds with
  | [] => reg
  | d :: rest => if reg.msb != d then checkRun ((reg <<< 1) ^^^ 0x1021#16) rest else checkRun (reg <<< 1) rest

/-- The cyclic check over a string of digits, the register preset to all ones (R43). -/
def checkOf (ds : List Bool) : BitVec 16 :=
  checkRun 0xFFFF#16 ds

/-- The cyclic check over a string of octets. -/
def checkOctets (os : List Octet) : BitVec 16 :=
  checkOf (octetsDigits os)

/-! ### Marks and frames (R40, R41, section 3.2) -/

/-- The marks of the line (R40). -/
inductive Mark where
  | short | long | startHold
deriving DecidableEq, Repr

/-- The held time of a mark in units (R40). -/
def Mark.held (m : Mark) : Nat :=
  match m with
  | .short => 1
  | .long => 2
  | .startHold => 4

/-- The slot of a mark in units (R40). -/
def Mark.slot (m : Mark) : Nat :=
  match m with
  | .short => 3
  | .long => 3
  | .startHold => 6

/-- The mark of a digit: short for 1, long for 0 (R40). -/
def markOfDigit (d : Bool) : Mark :=
  if d then .short else .long

/-- The classes of a held time (Table 3-1). -/
inductive HoldClass where
  | noise | short | long | brk | startHold | stuck
deriving DecidableEq, Repr

/-- The class of a held time in µs, a unit being 10 µs; each window takes in its lower bound (R41). -/
def classifyHold (held : Nat) : HoldClass :=
  if held < 5 then .noise
  else if held < 15 then .short
  else if held < 25 then .long
  else if held < 35 then .brk
  else if held < 45 then .startHold
  else if held < 500 then .brk
  else .stuck

/-- The sample 1.5 units after the start of a mark may read the line held, or released, when the line is held for `held` µs
from that start (R41). At 1.5 units, where the manual leaves the sample open, it may read either (log 11). -/
def sampleMay (readsHeld : Bool) (held : Nat) : Bool :=
  if readsHeld then decide (15 ≤ held) else decide (held ≤ 15)

/-- The sample may match the mark sent for a digit: held for a long mark, released for a short one (R41). -/
def sampleMatches (d : Bool) (held : Nat) : Bool := sampleMay (!d) held

/-- The sample may differ from the mark sent for a digit. -/
def sampleDiffers (d : Bool) (held : Nat) : Bool := sampleMay d held

/-- Outside the header a mark is read back by the sample and by the line's release before its slot of 3 units ends (R51). -/
def markMatches (d : Bool) (held : Nat) : Bool := sampleMatches d held && decide (held ≤ 30)

/-- A run of marks sent for `ds` reads back, from the first mark on, by a test of each mark. -/
def readBack (test : Bool → Nat → Bool) (ds : List Bool) (holds : List Nat) : Bool :=
  decide (holds.length ≤ ds.length) && (ds.zip holds).all (fun x => test x.1 x.2)

/-- The class values (Table 3-2). -/
def classUrgent : BitVec 2 := 0
def classDirective : BitVec 2 := 1
def classRoutine : BitVec 2 := 2
def classBulk : BitVec 2 := 3

/-- The kind codes (Table 3-2). -/
def kindStatus : BitVec 4 := 1
def kindReport : BitVec 4 := 8

/-- The code of a command kind (Table 3-2). -/
def CommandKind.code (k : CommandKind) : Nat :=
  match k with
  | .closeSet => 2
  | .closeClear => 3
  | .shoulder => 4
  | .override => 5
  | .faultAck => 6
  | .request => 7

/-- The command kind of a code, if it is one. -/
def commandKindOf (n : Nat) : Option CommandKind :=
  match n with
  | 2 => some .closeSet
  | 3 => some .closeClear
  | 4 => some .shoulder
  | 5 => some .override
  | 6 => some .faultAck
  | 7 => some .request
  | _ => none

/-- The twelve header digits of a frame: class, kind, source (section 3.2). -/
def Frame.headerDigits (f : Frame) : List Bool :=
  digitsOf 2 f.cls.toNat ++ digitsOf 4 f.kind.toNat ++ digitsOf 6 f.source.toNat

/-- The digits over which a frame's check is computed: header, length and body (R43). -/
def Frame.checkedDigits (f : Frame) : List Bool :=
  f.headerDigits ++ digitsOf 5 f.body.length ++ octetsDigits f.body

/-- The digits of a frame after its header, in the order sent: length, body and check. -/
def Frame.bodyDigits (f : Frame) : List Bool :=
  digitsOf 5 f.body.length ++ octetsDigits f.body ++ digitsOf 16 f.check.toNat

/-- All the digits of a frame in the order sent. -/
def Frame.digits (f : Frame) : List Bool :=
  f.checkedDigits ++ digitsOf 16 f.check.toNat

/-- The marks of a frame in the order sent: the start hold and one mark for each digit (section 3.2). -/
def Frame.marks (f : Frame) : List Mark :=
  .startHold :: f.digits.map markOfDigit

/-- The length of a frame in units, from the start of the start hold to the end of its last slot (section 3.2). -/
def Frame.units (f : Frame) : Nat :=
  (f.marks.map Mark.slot).sum

/-- A frame with its check as the transmitter sends it (R43). -/
def Frame.checked (cls : BitVec 2) (kind : BitVec 4) (source : BitVec 6) (body : List Octet) : Frame :=
  { cls := cls, kind := kind, source := source, body := body
    check := checkOf (Frame.checkedDigits { cls := cls, kind := kind, source := source, body := body, check := 0 }) }

/-- The check passes: the check digits equal the register's value after the last body digit (R43). -/
def Frame.passes (f : Frame) : Bool :=
  f.check == checkOf f.checkedDigits

/-- A frame is rejected when its check fails, its kind is unknown, its source is 0 or the own number, or its kind is
a command kind and its source is not 63 (R46). -/
def Frame.rejected (own : Nat) (f : Frame) : Bool :=
  !f.passes || f.kind == 0 || decide (9 ≤ f.kind.toNat) || f.source == 0 || f.source.toNat == own ||
    ((commandKindOf f.kind.toNat).isSome && f.source != 63)

/-! ### Receiving holds (Table 3-3, R44, R45) -/

/-- What a run of holds brings the receiver to. -/
inductive Heard where
  /-- The receiver is still waiting, in this state. -/
  | waiting (rx : Receiver)
  /-- The first hold after an idle gap was no start hold (R44). -/
  | wrongFirst
  /-- A break or a start hold inside a frame (R45). -/
  | aborted
  /-- A length above 30 at the 5th length digit (R44). -/
  | badLength
  /-- The 16th check digit: the whole frame's digits, ready to be judged (R46). -/
  | complete (digits : List Bool)
deriving DecidableEq, Repr

/-- The length that the five length digits of a frame in progress give. -/
def lengthOf (digits : List Bool) : Nat :=
  numberOf ((digits.drop 12).take 5)

/-- A digit received in a frame in progress moves the phase on when its count of digits is full (Table 3-3). -/
def hearDigit (rx : Receiver) (d : Bool) : Heard :=
  let ds := rx.digits ++ [d]
  match rx.phase with
  | .header => .waiting { rx with digits := ds, phase := if ds.length < 12 then .header else .length }
  | .length =>
      if ds.length < 17 then .waiting { rx with digits := ds }
      else if 30 < lengthOf ds then .badLength
      else .waiting { rx with digits := ds, phase := if lengthOf ds = 0 then .check else .body }
  | .body => .waiting { rx with digits := ds, phase := if ds.length < 17 + 8 * lengthOf ds then .body else .check }
  | .check => if ds.length < 33 + 8 * lengthOf ds then .waiting { rx with digits := ds } else .complete ds
  | .idle => .waiting rx
  | .start => .wrongFirst

/-- A hold of the line, classified at its release, acts by the receive phase (R41, R44, R45). A hold of 50 units or
more has been declared stuck while it lasted (R42) and acts as LINE_STUCK. -/
def hearHold (rx : Receiver) (held : Nat) : Heard :=
  match classifyHold held with
  | .noise => .waiting rx
  | .startHold =>
      match rx.phase with
      | .idle => if rx.gapSeen then .waiting { phase := .header, gapSeen := false, digits := [] } else .waiting rx
      | .start => .waiting { phase := .header, gapSeen := false, digits := [] }
      | _ => .aborted
  | .short =>
      match rx.phase with
      | .idle => if rx.gapSeen then .wrongFirst else .waiting rx
      | _ => hearDigit rx true
  | .long =>
      match rx.phase with
      | .idle => if rx.gapSeen then .wrongFirst else .waiting rx
      | _ => hearDigit rx false
  | .stuck => .waiting rx
  | .brk =>
      match rx.phase with
      | .idle => if rx.gapSeen then .wrongFirst else .waiting rx
      | .start => .wrongFirst
      | _ => .aborted

/-- A run of holds, one after the other; it ends at the first that ends the wait, and holds left over after that
make no single event, so the run is then answered as `none`. -/
def hearHolds (rx : Receiver) (holds : List Nat) : Option Heard :=
  match holds with
  | [] => some (.waiting rx)
  | h :: hs =>
      match hearHold rx h with
      | .waiting rx' => hearHolds rx' hs
      | e => if hs.isEmpty then some e else none

/-- A frame is in progress from the end of its start hold to its last check digit (R44). -/
def Receiver.inProgress (rx : Receiver) : Bool :=
  match rx.phase with
  | .idle => false
  | .start => false
  | _ => true

/-! ### Closure records (Table 13-3) -/

/-- The fields of a closure as a command, a record or a slot carries them. -/
structure ClosureFields where
  serial : Nat
  lanes : BitVec 5
  taper : Nat
  extent : Nat
  step : Nat
deriving DecidableEq, Repr

/-- A taper of 0 is taken as 1 and a taper above 4 as 4 (R111). -/
def clampTaper (t : Nat) : Nat := if t = 0 then 1 else min t 4

/-- An extent above 3 is taken as 3 (R111). -/
def clampExtent (e : Nat) : Nat := min e 3

/-- An imposed step above 6 is taken as 6 (R111). -/
def clampStep (k : Nat) : Nat := min k 6

/-- The closed lanes of an octet: digits 4 to 0, digits 7 to 5 being ignored (R184). -/
def closedLanes (o : Octet) : BitVec 5 := o.setWidth 5

/-- Taper, extent and step in one octet (Table 13-3). -/
def packClosure (taper extent step : Nat) : Octet :=
  BitVec.ofNat 8 (taper * 32 + extent * 8 + step)

/-- The image of an entry (Table 13-3). -/
def Closure.image (c : Closure) : SlotImage :=
  { origin := BitVec.ofNat 8 c.origin, serial := BitVec.ofNat 8 c.serial, lanes := c.lanes.setWidth 8
    fields := packClosure c.taper c.extent c.step }

/-- The octets of an image. -/
def SlotImage.octets (i : SlotImage) : List Octet := [i.origin, i.serial, i.lanes, i.fields]

/-- The check code of an image (section 11.6). -/
def SlotImage.check (i : SlotImage) : BitVec 16 := checkOctets i.octets

/-- The entry that an image holds, when every field lies in the ranges of Table 7-1 and the lane set is not empty
(R173). The source is not kept in a slot; a restored entry is RETAINED. -/
def SlotImage.entry (i : SlotImage) : Option Closure :=
  let taper := octetField i.fields 7 5
  let step := octetField i.fields 2 0
  if 1 ≤ i.origin.toNat ∧ i.origin.toNat ≤ 62 ∧ 1 ≤ i.serial.toNat ∧ closedLanes i.lanes ≠ 0 ∧ 1 ≤ taper ∧ taper ≤ 4 ∧ step ≤ 6 then
    some { origin := i.origin.toNat, serial := i.serial.toNat, lanes := closedLanes i.lanes, taper := taper
           extent := octetField i.fields 4 3, step := step, source := .retained }
  else none

/-- The marker octets of a slot (Table 13-3). -/
def markerEmpty : Octet := 0x3C
def markerValid : Octet := 0xA5
def markerWriting : Octet := 0x5A

/-! ### Codes -/

/-- The mode code of a status record (Table 13-2). -/
def Mode.code (m : Mode) : Nat :=
  match m with
  | .starting => 0
  | .warming => 1
  | .running => 2
  | .isolated => 3
  | .configFault => 4

/-- The result code of Table 13-2. -/
def ResultCode.code (r : ResultCode) : Nat :=
  match r with
  | .accepted => 0
  | .refusedRange => 1
  | .refusedState => 2
  | .refusedConfig => 3
  | .refusedSerial => 4
  | .busy => 5

/-- The result of a code; a code outside the list reads as absent (R184). -/
def resultOf (n : Nat) : Option ResultCode :=
  match n with
  | 0 => some .accepted
  | 1 => some .refusedRange
  | 2 => some .refusedState
  | 3 => some .refusedConfig
  | 4 => some .refusedSerial
  | 5 => some .busy
  | _ => none

/-- The shoulder code of Table 13-2. -/
def ShoulderCode.code (c : ShoulderCode) : Nat :=
  match c with
  | .none => 0
  | .closed => 1
  | .checking => 2
  | .opened => 3
  | .closing => 4

/-- The shoulder state of a code; a code above 4 reads as absent (R184). -/
def shoulderOf (n : Nat) : Option ShoulderCode :=
  match n with
  | 0 => some .none
  | 1 => some .closed
  | 2 => some .checking
  | 3 => some .opened
  | 4 => some .closing
  | _ => none

/-- The aspect class code of Table 13-2. -/
def AspectClass.code (a : AspectClass) : Nat :=
  match a with
  | .blank => 0
  | .limit => 1
  | .ended => 2
  | .mergeNear => 3
  | .mergeOff => 4
  | .closed => 5

/-- The aspect class of a code; a code above 5 reads as absent (R184). -/
def aspectClassOf (n : Nat) : Option AspectClass :=
  match n with
  | 0 => some .blank
  | 1 => some .limit
  | 2 => some .ended
  | 3 => some .mergeNear
  | 4 => some .mergeOff
  | 5 => some .closed
  | _ => none

/-- The class of an aspect: LIMIT without its step (R58). -/
def Aspect.cls (a : Aspect) : AspectClass :=
  match a with
  | .blank => .blank
  | .limit _ => .limit
  | .ended => .ended
  | .mergeNear => .mergeNear
  | .mergeOff => .mergeOff
  | .closed => .closed

/-- The legend code of Table 13-4. -/
def Legend.code (l : Legend) : Nat :=
  match l with
  | .none => 0
  | .queue => 1
  | .lanesClosed => 2
  | .incident => 3
  | .caution => 4

/-- The legend of a code, if it is one of the five (R89). -/
def legendOf (n : Nat) : Option Legend :=
  match n with
  | 0 => some .none
  | 1 => some .queue
  | 2 => some .lanesClosed
  | 3 => some .incident
  | 4 => some .caution
  | _ => none

/-- The code of a fault kind (Table 12-2). -/
def FaultKind.code (k : FaultKind) : Nat :=
  match k with
  | .loopStuck => 10
  | .loopChatter => 11
  | .pairImplausible => 12
  | .signFailed => 20
  | .signNoResponse => 21
  | .signDegraded => 22
  | .signMismatch => 23
  | .neighbourLost => 30
  | .lineStuck => 31
  | .retentionInterrupted => 40
  | .retentionCorrupt => 41
  | .shoulderCheckFailed => 50
  | .detectionLost => 51
  | .configFault => 60
  | .configClamped => 61

/-- The fault kind of a code, if it is in Table 12-2. -/
def faultKindOf (n : Nat) : Option FaultKind :=
  match n with
  | 10 => some .loopStuck
  | 11 => some .loopChatter
  | 12 => some .pairImplausible
  | 20 => some .signFailed
  | 21 => some .signNoResponse
  | 22 => some .signDegraded
  | 23 => some .signMismatch
  | 30 => some .neighbourLost
  | 31 => some .lineStuck
  | 40 => some .retentionInterrupted
  | 41 => some .retentionCorrupt
  | 50 => some .shoulderCheckFailed
  | 51 => some .detectionLost
  | 60 => some .configFault
  | 61 => some .configClamped
  | _ => none

/-- Whether the kind is a condition (true) or an event (Table 12-2). -/
def FaultKind.isCondition (k : FaultKind) : Bool :=
  match k with
  | .pairImplausible => false
  | .signDegraded => false
  | .retentionInterrupted => false
  | .retentionCorrupt => false
  | .shoulderCheckFailed => false
  | .configClamped => false
  | _ => true

/-! ### Status bodies (Table 13-2, R61, R184) -/

/-- The octet of one lane of a status body. -/
def LaneView.octet (v : LaneView) : Octet :=
  BitVec.ofNat 8 (v.takenOver.toNat * 128 + v.displaced.toNat * 64 + (v.aspect.map AspectClass.code).getD 0)

/-- The per-lane fields of an octet. -/
def laneViewOf (o : Octet) : LaneView :=
  { aspect := aspectClassOf (octetField o 2 0), displaced := octetDigit o 6, takenOver := octetDigit o 7 }

/-- The last-command octet: kind in digits 7–4 (0 = absent), result in digits 3–0. -/
def lastCommandOctet (kind : Option CommandKind) (result : Option ResultCode) : Octet :=
  BitVec.ofNat 8 ((kind.map CommandKind.code).getD 0 * 16 + (result.map ResultCode.code).getD 0)

/-- The three octets of an own closure (Table 13-3). -/
def OwnClosure.octets (c : OwnClosure) : List Octet :=
  [BitVec.ofNat 8 c.serial, c.lanes.setWidth 8, packClosure c.taper c.extent c.step]

/-- The body of a status record (Table 13-2). A CONFIG_FAULT body is octets 1 to 4 alone. -/
def StatusRecord.body (r : StatusRecord) : List Octet :=
  let opening : List Octet :=
    [BitVec.ofNat 8 r.mode.code, BitVec.ofNat 8 r.laneCount, BitVec.ofNat 8 r.faults,
     BitVec.ofNat 8 (r.overflow.toNat * 128 + r.activeFaults)]
  if r.mode = .configFault then opening
  else
    opening ++
      [BitVec.ofNat 8 (r.held.length * 16 + r.ownClosure.isSome.toNat * 4 + r.displacedStep.isSome.toNat * 2 + r.demandStep.isSome.toNat),
       BitVec.ofNat 8 (r.planStep.getD 0),
       BitVec.ofNat 8 ((r.queueFlag.getD false).toNat * 128 + (r.shoulder.map ShoulderCode.code).getD 0)] ++
      r.lanes.map LaneView.octet ++
      [BitVec.ofNat 8 (r.rejected.getD 0), lastCommandOctet r.lastKind r.lastResult] ++
      (r.demandStep.toList.map (BitVec.ofNat 8)) ++
      (r.displacedStep.toList.map (BitVec.ofNat 8)) ++
      (r.ownClosure.toList.flatMap OwnClosure.octets) ++
      (r.held.map (BitVec.ofNat 8))

/-- The first octet of the rest when it is carried: its value and what follows; `none` when the body is too short. -/
def takeCarried (carried : Bool) (os : List Octet) : Option (Option Nat × List Octet) :=
  if carried then
    match os with
    | o :: rest => some (some o.toNat, rest)
    | [] => none
  else some (none, os)

/-- The own closure of the rest when it is carried (Table 13-3). Taper and extent are clamped as R111 gives (R184);
an empty lane set or a step above 6 makes the body unreadable (R61). -/
def takeOwnClosure (carried : Bool) (os : List Octet) : Option (Option OwnClosure × List Octet) :=
  if carried then
    match os with
    | serial :: lanes :: fields :: rest =>
        if closedLanes lanes = 0 ∨ 6 < octetField fields 2 0 then none
        else
          some (some { serial := serial.toNat, lanes := closedLanes lanes, taper := clampTaper (octetField fields 7 5)
                       extent := clampExtent (octetField fields 4 3), step := octetField fields 2 0 }, rest)
    | _ => none
  else some (none, os)

/-- A carried step lies in 0 to 6 (R61). -/
def stepReadable (k : Option Nat) : Bool :=
  match k with
  | some k => decide (k ≤ 6)
  | none => true

/-- The optional octets of a status body, in their order (Table 13-2). -/
def readCarried (carries : Octet) (os : List Octet) : Option (Option Nat × Option Nat × Option OwnClosure × List Octet) :=
  match takeCarried (octetDigit carries 0) os with
  | none => none
  | some (demand, os) =>
      match takeCarried (octetDigit carries 1) os with
      | none => none
      | some (displaced, os) =>
          match takeOwnClosure (octetDigit carries 2) os with
          | none => none
          | some (own, os) => some (demand, displaced, own, os)

/-- The mode of a code other than CONFIG_FAULT's, if it is one. -/
def actingModeOf (n : Nat) : Option Mode :=
  match n with
  | 1 => some .warming
  | 2 => some .running
  | 3 => some .isolated
  | _ => none

/-- Reads a STATUS body (R184); `none` when the body is unreadable (R61). A demand step carried in a WARMING record
is read as absent. The kind and the result of the last command are read as two fields: a kind outside its list is absent and
leaves the result, a result outside its list is absent and leaves the kind, and kind 0 makes both absent:
DESIGN CHOICE, log 27. -/
def readStatus (body : List Octet) : Option StatusRecord :=
  match body with
  | [m, n, f, a] =>
      if m.toNat = 4 ∧ n.toNat = 0 then
        some { mode := .configFault, laneCount := 0, faults := f.toNat, activeFaults := octetField a 4 0, overflow := octetDigit a 7
               planStep := none, demandStep := none, queueFlag := none, shoulder := none, lanes := [], rejected := none
               lastKind := none, lastResult := none, displacedStep := none, ownClosure := none, held := [] }
      else none
  | m :: n :: f :: a :: carries :: plan :: q :: rest =>
      match actingModeOf m.toNat with
      | none => none
      | some mode =>
          if n.toNat < 2 ∨ 5 < n.toNat ∨ 6 < plan.toNat ∨ 8 < octetField carries 7 4 then none
          else
            match rest.drop n.toNat with
            | rejected :: last :: tail =>
                match readCarried carries tail with
                | none => none
                | some (demand, displaced, own, held) =>
                    if held.length = octetField carries 7 4 ∧ stepReadable demand ∧ stepReadable displaced ∧
                        held.all (fun o => decide (1 ≤ o.toNat ∧ o.toNat ≤ 62)) then
                      let kind := commandKindOf (octetField last 7 4)
                      some { mode := mode, laneCount := n.toNat, faults := f.toNat, activeFaults := octetField a 4 0
                             overflow := octetDigit a 7, planStep := some plan.toNat
                             demandStep := if mode = .warming then none else demand
                             queueFlag := some (octetDigit q 7), shoulder := shoulderOf (octetField q 2 0)
                             lanes := (rest.take n.toNat).map laneViewOf, rejected := some rejected.toNat
                             lastKind := kind
                             lastResult := if octetField last 7 4 = 0 then none else resultOf (octetField last 3 0)
                             displacedStep := displaced, ownClosure := own, held := held.map BitVec.toNat }
                    else none
            | _ => none
  | _ => none

/-! ### Command bodies (Table 13-4, R175) -/

/-- A readable command (Table 13-4), its octets as numbers. -/
inductive Command where
  | closeSet (origin serial : Nat) (lanes : BitVec 5) (taper extent step : Nat)
  | closeClear (origin serial : Nat)
  | shoulder (low high action : Nat)
  | override (low high step legend minutes : Nat)
  | faultAck (station kind unit : Nat)
  | request (station type lane count : Nat)
deriving DecidableEq, Repr

/-- The kind of a command. -/
def Command.kind (c : Command) : CommandKind :=
  match c with
  | .closeSet .. => .closeSet
  | .closeClear .. => .closeClear
  | .shoulder .. => .shoulder
  | .override .. => .override
  | .faultAck .. => .faultAck
  | .request .. => .request

/-- Reads a command body; a body whose length differs from that of its kind is unreadable (R175). -/
def readCommand (kind : CommandKind) (body : List Octet) : Option Command :=
  match kind, body with
  | .closeSet, [origin, serial, lanes, taper, extent, step] =>
      some (.closeSet origin.toNat serial.toNat (closedLanes lanes) taper.toNat extent.toNat step.toNat)
  | .closeClear, [origin, serial] => some (.closeClear origin.toNat serial.toNat)
  | .shoulder, [low, high, action] => some (.shoulder low.toNat high.toNat action.toNat)
  | .override, [low, high, step, legend, m1, m0] =>
      some (.override low.toNat high.toNat step.toNat legend.toNat (twoOctets m1 m0))
  | .faultAck, [station, code, unit] => some (.faultAck station.toNat code.toNat unit.toNat)
  | .request, [station, type, lane, count] => some (.request station.toNat type.toNat lane.toNat count.toNat)
  | _, _ => none

/-- The high and low octets of a two-octet field. -/
def highOctet (x : BitVec 16) : Octet := (x >>> 8).setWidth 8
def lowOctet (x : BitVec 16) : Octet := x.setWidth 8

/-! ### Report bodies (Tables 13-5 to 13-7, R185) -/

/-- The report types (section 13.4). -/
inductive ReportType where
  | faults | lanes | trace
deriving DecidableEq, Repr

/-- The code of a report type. -/
def ReportType.code (t : ReportType) : Nat :=
  match t with
  | .faults => 1
  | .lanes => 2
  | .trace => 3

/-- The head octet of a report body (section 13.4). -/
def reportHead (t : ReportType) (last : Bool) (number : Nat) : Octet :=
  BitVec.ofNat 8 (t.code * 64 + last.toNat * 32 + number % 32)

/-- A fault entry in a FAULTS frame: six octets (Table 13-5); a first-seen time from 16,777,215 s is carried as that
number (R185). -/
def FaultEntry.octets (e : FaultEntry) : List Octet :=
  let seen := min e.firstSeen 16777215
  [BitVec.ofNat 8 (e.kind.code * 4 + e.acked.toNat * 2 + e.active.toNat), BitVec.ofNat 8 e.unit,
   BitVec.ofNat 8 (seen / 65536), BitVec.ofNat 8 (seen / 256), BitVec.ofNat 8 seen, BitVec.ofNat 8 e.count]

/-- A value carried in a field of digits, or the field's absence code. -/
def carried (v : Option Nat) (f : Nat → Nat) (absent : Nat) : Nat :=
  match v with
  | some x => f x
  | none => absent

/-- The code of a lane measurement mode (Table 13-6). -/
def MeasureMode.code (m : MeasureMode) : Nat :=
  match m with
  | .dual => 0
  | .singleA => 1
  | .singleB => 2
  | .none => 3

/-- The 46 digits of one lane in a LANES frame (Table 13-6). -/
def laneDigits (mode : MeasureMode) (r : LaneRecord) : List Bool :=
  digitsOf 2 mode.code ++ [r.empty, r.merged] ++ digitsOf 5 (min r.nLong 31) ++
    digitsOf 7 (carried r.q (fun x => min (x / 80) 124) 127) ++ digitsOf 7 (carried r.o (fun x => min (x / 8) 125) 127) ++
    digitsOf 8 (carried r.v (fun x => min x 250) 0) ++ digitsOf 8 (carried r.s (fun x => min x 250) 0) ++
    digitsOf 7 (carried r.os (fun x => min (x / 8) 125) 127)

/-- The code of an unmeasured reason (Table 13-7). -/
def UnmeasuredReason.code (r : UnmeasuredReason) : Nat :=
  match r with
  | .notPaired => 0
  | .implausible => 1
  | .load => 2
  | .singleLoop => 3

/-- The last 20 digits of a record in a TRACE frame: the speed and the measured or unmeasured part (Table 13-7). -/
def VehicleResult.digits (r : VehicleResult) : List Bool :=
  match r with
  | .measured speed clamped length cls =>
      digitsOf 8 speed ++ [clamped, cls == .long] ++ digitsOf 9 (length / 10) ++ [false]
  | .unmeasured reason => digitsOf 8 0 ++ digitsOf 2 reason.code ++ digitsOf 10 0

/-- The 56 digits of a record in a TRACE frame (Table 13-7). -/
def VehicleRecord.digits (r : VehicleRecord) : List Bool :=
  digitsOf 20 (r.tick.toNat / 100 % 1048576) ++ digitsOf 16 (min (r.onA / 10) 65535) ++ r.result.digits

/-- The body of a TRACE frame (Table 13-7). -/
def traceBody (lane : Nat) (cutShort last : Bool) (number : Nat) (records : List VehicleRecord) : List Octet :=
  reportHead .trace last number :: BitVec.ofNat 8 (records.length * 16 + cutShort.toNat * 8 + lane) ::
    packDigits (records.flatMap VehicleRecord.digits)

/-! ### Sign line messages (Table 13-8) -/

/-- The type and content octets of a message the station sends. -/
def SignMessage.octets (m : SignMessage) : List Octet :=
  match m with
  | .identify => [0x11]
  | .laneAspect set cls limit => [0x12, BitVec.ofNat 8 set, BitVec.ofNat 8 cls.code, BitVec.ofNat 8 limit]
  | .legendAspect set legend flashers => [0x12, BitVec.ofNat 8 set, BitVec.ofNat 8 legend.code, BitVec.ofNat 8 flashers.toNat]

/-- A message as it stands on the sign line: its octets and its check (section 13.5). -/
def SignMessage.onLine (m : SignMessage) : List Octet :=
  m.octets ++ [highOctet (checkOctets m.octets), lowOctet (checkOctets m.octets)]

/-- The types of the messages a module sends. -/
def typeIdentity : Octet := 0x21
def typeProvingReport : Octet := 0x22
def typeRestartNotice : Octet := 0x23

/-- The proving results (Table 13-8). -/
inductive ProvingResult where
  | proved | reduced | failed
deriving DecidableEq, Repr

/-- The proving result of a code; PARTIAL is `reduced`. A code outside 1 to 3 is none (R150). -/
def provingResultOf (o : Octet) : Option ProvingResult :=
  match o.toNat with
  | 1 => some .proved
  | 2 => some .reduced
  | 3 => some .failed
  | _ => none

/-- The kind code a channel expects: 1 = LANE on channels 1 to 5, 2 = LEGEND on channel 6 (R148). -/
def expectedKind (c : Chan) : Octet :=
  match c with
  | .lane _ => 1
  | .legend => 2

/-! ### The configuration image (section 13.6, R165, R166) -/

/-- How a field of the image is judged: a number in a range, a yes/no code, or the lane count, which is not clamped. -/
inductive FieldRange where
  | number (low high : Nat)
  | yesNo
  | laneCount
deriving DecidableEq, Repr

/-- A field of the image: its number, whether it takes two octets, and its range. -/
structure Field where
  number : Nat
  wide : Bool
  range : FieldRange
deriving DecidableEq, Repr

/-- `count` fields of one form, numbered from `first`. -/
def fieldRun (first count : Nat) (wide : Bool) (range : FieldRange) : List Field :=
  (List.range count).map (fun i => { number := first + i, wide := wide, range := range })

/-- Fields 1 to 29: lanes, loops and measurement (Tables 1-1, 2-1, 8-1). -/
def imageFieldsMeasurement : List Field :=
  [{ number := 1, wide := false, range := .laneCount }, { number := 2, wide := false, range := .yesNo }] ++
    fieldRun 3 5 false .yesNo ++ fieldRun 8 5 true (.number 200 800) ++ fieldRun 13 5 true (.number 100 300) ++
    fieldRun 18 5 true (.number 400 1500) ++
    [{ number := 23, wide := false, range := .number 20 200 }, { number := 24, wide := true, range := .number 30 900 },
     { number := 25, wide := false, range := .number 5 100 }, { number := 26, wide := false, range := .number 5 60 },
     { number := 27, wide := false, range := .number 80 130 }, { number := 28, wide := false, range := .number 1 8 },
     { number := 29, wide := false, range := .number 1 8 }]

/-- Fields 30 to 60: the ladder, the release and the queue (Tables 5-1, 6-1). -/
def imageFieldsControl : List Field :=
  fieldRun 30 6 false (.number 20 130) ++ fieldRun 36 6 false (.number 10 130) ++ fieldRun 42 6 true (.number 50 900) ++
    [{ number := 48, wide := false, range := .number 0 30 }, { number := 49, wide := false, range := .number 0 200 },
     { number := 50, wide := false, range := .number 1 8 }, { number := 51, wide := true, range := .number 30 300 },
     { number := 52, wide := false, range := .number 0 6 }, { number := 53, wide := false, range := .number 10 80 },
     { number := 54, wide := true, range := .number 100 800 }, { number := 55, wide := false, range := .number 1 4 },
     { number := 56, wide := false, range := .number 1 8 }, { number := 57, wide := false, range := .number 10 60 },
     { number := 58, wide := false, range := .number 2 8 }, { number := 59, wide := false, range := .number 1 4 },
     { number := 60, wide := false, range := .number 1 6 }]

/-- Fields 61 to 76: publication, neighbours, shoulder and signs (Tables 3-5, 4-2, 8-1, 10-1). -/
def imageFieldsStation : List Field :=
  [{ number := 61, wide := false, range := .number 1 10 }, { number := 62, wide := false, range := .number 1 4 },
   { number := 63, wide := false, range := .number 1 4 }, { number := 64, wide := false, range := .number 2 8 },
   { number := 65, wide := true, range := .number 30 300 }, { number := 66, wide := false, range := .number 10 120 },
   { number := 67, wide := true, range := .number 30 600 }, { number := 68, wide := true, range := .number 60 900 }] ++
    fieldRun 69 5 false .yesNo ++
    [{ number := 74, wide := false, range := .yesNo }, { number := 75, wide := true, range := .number 200 2000 },
     { number := 76, wide := false, range := .number 10 120 }]

/-- The 76 fields of the image in field-number order (Table 13-9). -/
def imageFields : List Field :=
  imageFieldsMeasurement ++ imageFieldsControl ++ imageFieldsStation

/-- The value of a field as it is stored. -/
def readFields (fields : List Field) (os : List Octet) : List Nat :=
  match fields with
  | [] => []
  | f :: fs =>
      if f.wide then
        match os with
        | a :: b :: rest => twoOctets a b :: readFields fs rest
        | _ => 0 :: readFields fs []
      else
        match os with
        | a :: rest => a.toNat :: readFields fs rest
        | [] => 0 :: readFields fs []

/-- A field's value as it is taken: clamped to the nearer end of its range; a yes/no code other than 1 or 0 is no; the
lane count is not clamped (R166). -/
def Field.taken (f : Field) (v : Nat) : Nat :=
  match f.range with
  | .number low high => max low (min v high)
  | .yesNo => if v = 1 then 1 else 0
  | .laneCount => v

/-- The values of the fields as they are taken (R166). -/
def takenFields (os : List Octet) : List Nat :=
  (imageFields.zip (readFields imageFields os)).map (fun fv => fv.1.taken fv.2)

/-- The numbers of the fields that are clamped, ascending (R166). -/
def clampedFields (os : List Octet) : List Nat :=
  ((imageFields.zip (readFields imageFields os)).filter (fun fv => fv.1.taken fv.2 != fv.2)).map (fun fv => fv.1.number)

/-- The image passes: it is whole and its stored check code is the cyclic check over its 104 field octets (R165). -/
def imagePasses (image : List Octet) : Bool :=
  decide (106 ≤ image.length) &&
    ((image.drop 104).take 2 == [highOctet (checkOctets (image.take 104)), lowOctet (checkOctets (image.take 104))])

/-- The configuration of a list of field values in field-number order (Table 13-9). -/
def configOf (values : List Nat) : StationConfig :=
  let v (n : Nat) : Nat := values.getD (n - 1) 0
  let lane (i : Nat) : LaneConfig :=
    { loopB := v (2 + i) == 1, spacing := v (7 + i), loopLength := v (12 + i), longThreshold := v (17 + i), sign := v (68 + i) == 1 }
  let ladder (first : Nat) : Steps :=
    { k1 := v first, k2 := v (first + 1), k3 := v (first + 2), k4 := v (first + 3), k5 := v (first + 4), k6 := v (first + 5) }
  { laneCount := v 1
    shoulderLane := v 2 == 1
    lanes := { l1 := lane 1, l2 := lane 2, l3 := lane 3, l4 := lane 4, l5 := lane 5 }
    glitchMin := v 23
    presenceTimeout := v 24
    chatterLimit := v 25
    intervalLength := v 26
    vff := v 27
    w := v 28
    wo := v 29
    limit := ladder 30
    sEnter := ladder 36
    oEnter := ladder 42
    hs := v 48
    ho := v 49
    dwellCount := v 50
    minDisplay := v 51
    isolationStep := v 52
    queueSpeed := v 53
    queueOccupancy := v 54
    confirmCount := v 55
    clearDwell := v 56
    shockSpeed := v 57
    runLength := v 58
    warningDistance := v 59
    queueStep := v 60
    period := v 61
    upWindow := v 62
    downWindow := v 63
    expiryCount := v 64
    staleHold := v 65
    isolationTime := v 66
    checkTime := v 67
    clearanceTime := v 68
    legendPanel := v 74 == 1
    provingTimeout := v 75
    retryPeriod := v 76 }

/-- The first field that breaks the order of the ladder, counted from step 1 upward: the limit values strictly
decrease, S_enter does not increase and O_enter does not decrease (R75, R167); at one step the three are taken in
that order (log 17). -/
def ladderBreak (c : StationConfig) : Option Nat :=
  [2, 3, 4, 5, 6].findSome? (fun k =>
    if c.limit.get (k - 1) ≤ c.limit.get k then some (29 + k)
    else if c.sEnter.get (k - 1) < c.sEnter.get k then some (35 + k)
    else if c.oEnter.get k < c.oEnter.get (k - 1) then some (41 + k)
    else none)

end Sys2Proof.Machine
end

