-- ==== Sys2Proof/Machine/Flags.lean ====
section
/-!
DEFINITION. What the station reads off its state: times, configuration, neighbours, closures, running lanes,
displacement, the queue condition, the terms of the lower bound, the END condition and the composition of a plan.
Nothing here changes the state.
-/
namespace Sys2Proof.Machine

/-! ### Time (Conventions, Time) -/

/-- A unit of the line in µs. -/
def unit : Nat := 10

/-- A second in µs. -/
def second : Nat := 1000000

/-- The tick counter: 100 µs a tick, 32 bits, 0 at the end of the reset. -/
def State.tick (s : State) : Tick := BitVec.ofNat 32 (s.clock / 100)

/-- Whole seconds since start. -/
def State.seconds (s : State) : Nat := s.clock / second

/-- A timer has expired: it is running and its moment has come. -/
def State.due (s : State) (timer : Option Nat) : Bool :=
  match timer with
  | some t => decide (t ≤ s.clock)
  | none => false

/-- A raw time x precedes a raw time y when (x − y) modulo 2^32 is 2^31 or more (R3). -/
def precedes (x y : Tick) : Bool := decide (2147483648 ≤ (x - y).toNat)

/-- Of two qualified on edges of one lane, the one of side `x` and raw on time `on` is taken before the other: by the raw on
times, and with equal ones loop A first (R3). -/
def edgeFirst (x : Side) (on other : Tick) : Bool := precedes on other || (on == other && x == .a)

/-- The tick counter has reached a tick value. -/
def State.reached (s : State) (t : Tick) : Bool := !precedes s.tick t

/-- The ticks from a mark to a later moment; none when the moment precedes the mark. -/
def heldTicks (start stop : Tick) : Nat := if precedes stop start then 0 else (stop - start).toNat

/-! ### Station control -/

/-- The station's mode. -/
def State.mode (s : State) : Mode := s.station.mode

/-- WARMING, RUNNING or ISOLATED: the modes in which the blocks measure, decide and show. -/
def Mode.acting (m : Mode) : Bool :=
  match m with
  | .starting => false
  | .warming => true
  | .running => true
  | .isolated => true
  | .configFault => false

def State.acting (s : State) : Bool := s.mode.acting

/-- The configuration before an image has been read: no lane, no part present. Nothing reads it (R2, R57, R162). -/
def StationConfig.absent : StationConfig := configOf []

/-- The configuration in use. -/
def State.cfg (s : State) : StationConfig := s.station.config.getD StationConfig.absent

/-- The own station number; 0 while there is none (R164). -/
def State.own (s : State) : Nat :=
  match s.station.straps with
  | .number n => n
  | _ => 0

/-- The straps gave a station number. -/
def StrapRead.good (r : StrapRead) : Bool :=
  match r with
  | .number _ => true
  | _ => false

/-- Lanes 1 to N. -/
def State.laneList (s : State) : List Lane := Lane.all.filter (fun k => decide (k.num ≤ s.cfg.laneCount))

/-- Lane 1 when the configuration declares a shoulder lane (section 8.1). -/
def State.isShoulder (s : State) (k : Lane) : Bool := s.cfg.shoulderLane && k == .l1

/-- The line interface receives and transmits once the station has left STARTING, but not in a CONFIG_FAULT caused
by bad straps (R57). -/
def State.lineActive (s : State) : Bool := s.mode != .starting && s.station.straps.good

/-! ### Loops and lane measurement modes (R1, R7) -/

/-- The other loop of the lane. -/
def otherLoop (l : Loop) : Loop :=
  match l.side with
  | .a => { l with side := .b }
  | .b => { l with side := .a }

/-- A loop is configured when its lane is at most N and, for a loop B, when it is marked present (R1). -/
def State.loopConfigured (s : State) (l : Loop) : Bool :=
  decide (l.lane.num ≤ s.cfg.laneCount) &&
    match l.side with
    | .a => true
    | .b => (s.cfg.lanes.get l.lane).loopB

/-- The loop's number, which is its input and its fault unit (R1). -/
def loopNumber (l : Loop) : Nat :=
  match l.side with
  | .a => 2 * l.lane.num - 1
  | .b => 2 * l.lane.num

/-- One loop of a lane. -/
def LaneDetector.loop (d : LaneDetector) (side : Side) : LoopRecord :=
  match side with
  | .a => d.a
  | .b => d.b

/-- The lane with one loop replaced. -/
def LaneDetector.setLoop (d : LaneDetector) (side : Side) (r : LoopRecord) : LaneDetector :=
  match side with
  | .a => { d with a := r }
  | .b => { d with b := r }

/-- The level of one loop input. -/
def State.input (s : State) (l : Loop) : Bool :=
  match l.side with
  | .a => (s.inputs.get l.lane).a
  | .b => (s.inputs.get l.lane).b

/-- The lane measurement mode that the loop states give (Table 1-2). -/
def modeOfLoops (loopB : Bool) (d : LaneDetector) : MeasureMode :=
  if d.a.status = .ok then
    if loopB && d.b.status = .ok then .dual else .singleA
  else if loopB && d.b.status = .ok then .singleB else .none

/-- The counting loop of a mode (Table 1-2). -/
def MeasureMode.counting (m : MeasureMode) : Option Side :=
  match m with
  | .dual => some .a
  | .singleA => some .a
  | .singleB => some .b
  | .none => Option.none

/-- The longest accepted transit time of a lane: D × 72 ticks (R1). -/
def State.tmax (s : State) (k : Lane) : Nat := (s.cfg.lanes.get k).spacing * 72

/-- The tick from which a presence is past its timeout (R4). -/
def State.timeoutTick (s : State) (p : Presence) : Tick := p.on + BitVec.ofNat 32 (s.cfg.presenceTimeout * 10000)

/-- A presence has stayed for the glitch minimum (R3). -/
def State.lasted (s : State) (p : Presence) : Bool := s.reached (p.on + BitVec.ofNat 32 s.cfg.glitchMin)

/-- The pairing deadline of an entry: A-on + Tmax + G + 1 (R9). -/
def State.pairingDeadline (s : State) (k : Lane) (a : Arrival) : Tick :=
  a.on + BitVec.ofNat 32 (s.tmax k + s.cfg.glitchMin + 1)

/-- The length of an interval in ticks (section 1.7). -/
def State.intervalTicks (s : State) : Nat := s.cfg.intervalLength * 10000

/-! ### Arithmetic unit (R20, R21, R28) -/

/-- A VEHICLE request. -/
def Request.isVehicle (r : Request) : Bool :=
  match r with
  | .vehicle _ => true
  | .interval _ _ => false

/-- An INTERVAL request of a lane. -/
def Request.isIntervalOf (k : Lane) (r : Request) : Bool :=
  match r with
  | .vehicle _ => false
  | .interval j _ => j == k

/-- How many VEHICLE requests the queue holds (R21). -/
def vehicleCount (q : List Request) : Nat := q.countP Request.isVehicle

/-! ### Neighbours (R62, R64, R68, R69) -/

/-- A station number lies in the neighbour window (R62). -/
def State.inWindow (s : State) (n : Nat) : Bool :=
  decide (n ≠ s.own ∧ 1 ≤ n ∧ n ≤ 62 ∧ s.own ≤ n + s.cfg.upWindow ∧ n ≤ s.own + s.cfg.downWindow)

/-- The fields of an entry as its readers see them: a void entry supplies none (R64). -/
def Neighbour.view (e : Neighbour) : Option StatusRecord := if e.void then none else some e.record

/-- The entry with the smaller hop, of two downstream entries. -/
def nearer (best : Option Neighbour) (e : Neighbour) : Option Neighbour :=
  match best with
  | none => some e
  | some b => if e.station < b.station then some e else some b

/-- The entry with the larger number, of two upstream entries. -/
def nearerUp (best : Option Neighbour) (e : Neighbour) : Option Neighbour :=
  match best with
  | none => some e
  | some b => if b.station < e.station then some e else some b

/-- The nearest downstream neighbour, LIVE or STALE, void included (R68). -/
def State.nearestDown (s : State) : Option Neighbour :=
  (s.neighbours.entries.filter (fun e => decide (s.own < e.station))).foldl nearer none

/-- The nearest upstream neighbour (R68). -/
def State.nearestUp (s : State) : Option Neighbour :=
  (s.neighbours.entries.filter (fun e => decide (e.station < s.own))).foldl nearerUp none

/-- The record of the nearest downstream neighbour as its readers see it (R69). -/
def State.downView (s : State) : Option StatusRecord := s.nearestDown.bind Neighbour.view

/-- The record of the nearest upstream neighbour as its readers see it (R69). -/
def State.upView (s : State) : Option StatusRecord := s.nearestUp.bind Neighbour.view

/-- The per-lane fields that the nearest downstream neighbour publishes for a lane; absent above its lane count. -/
def State.downLane (s : State) (k : Lane) : Option LaneView :=
  s.downView.bind (fun r => r.lanes[k.num - 1]?)

/-- The moment an entry expires: its arrival plus expiry count × P (R65). -/
def State.entryExpiry (s : State) (e : Neighbour) : Nat := e.arrival + s.cfg.expiryCount * s.cfg.period * second

/-- The moment an entry is removed: its expiry plus the stale hold (R66). -/
def State.entryRemoval (s : State) (e : Neighbour) : Nat := s.entryExpiry e + s.cfg.staleHold * second

/-! ### Closures (R107) -/

/-- The entry applies at a station: s0 − t ≤ i ≤ s0 + e (R107). -/
def Closure.applies (c : Closure) (i : Nat) : Bool := decide (c.origin ≤ i + c.taper ∧ i ≤ c.origin + c.extent)

/-- The station lies in the entry's closed section (R107). -/
def Closure.closedAt (c : Closure) (i : Nat) : Bool := decide (c.origin ≤ i ∧ i ≤ c.origin + c.extent)

/-- The station lies in the entry's taper section (R107). -/
def Closure.taperAt (c : Closure) (i : Nat) : Bool := decide (c.origin ≤ i + c.taper ∧ i < c.origin)

/-- The entry names a lane. -/
def Closure.names (c : Closure) (k : Lane) : Bool := c.lanes.getLsbD (k.num - 1)

/-- The entries held, in position order. -/
def State.entries (s : State) : List Closure := s.closures.toList.filterMap id

/-- The entries that apply at the station. -/
def State.applying (s : State) : List Closure := s.entries.filter (fun c => c.applies s.own)

/-- An applying entry names the lane, in whichever section (R126, R127). -/
def State.laneNamed (s : State) (k : Lane) : Bool := s.applying.any (fun c => c.names k)

/-- A closure with the station in its closed section names the lane (R135). -/
def State.closedByEntry (s : State) (k : Lane) : Bool := s.entries.any (fun c => c.closedAt s.own && c.names k)

/-- A closure with the station in its taper section names the lane (R136). -/
def State.mergedByEntry (s : State) (k : Lane) : Bool := s.entries.any (fun c => c.taperAt s.own && c.names k)

/-- The position of the entry of an origin, if one is held. -/
def State.positionOf (s : State) (origin : Nat) : Option Pos :=
  Pos.all.find? (fun p => match s.closures.get p with | some c => c.origin == origin | none => false)

/-- The lowest-numbered free position (R106). -/
def State.freePosition (s : State) : Option Pos := Pos.all.find? (fun p => (s.closures.get p).isNone)

/-- The own closure: the entry whose origin is the own number (R118). -/
def State.ownClosure (s : State) : Option OwnClosure :=
  (s.entries.find? (fun c => c.origin == s.own)).map
    (fun c => { serial := c.serial, lanes := c.lanes, taper := c.taper, extent := c.extent, step := c.step })

/-- The held origins, each once, ascending (R118). -/
def State.heldOrigins (s : State) : List Nat :=
  (List.range 63).filter (fun n => s.entries.any (fun c => c.origin == n))

/-! ### Sign channels (R148, R161) -/

/-- One channel record. -/
def Signs.get (g : Signs) (c : Chan) : Channel :=
  match c with
  | .lane k => g.lanes.get k
  | .legend => g.legend

/-- The unit with one channel record replaced. -/
def Signs.set (g : Signs) (c : Chan) (x : Channel) : Signs :=
  match c with
  | .lane k => { g with lanes := g.lanes.set k x }
  | .legend => { g with legend := x }

/-- The configuration marks the channel present (R148). -/
def State.chanConfigured (s : State) (c : Chan) : Bool :=
  match c with
  | .lane k => decide (k.num ≤ s.cfg.laneCount) && (s.cfg.lanes.get k).sign
  | .legend => s.cfg.legendPanel

/-- The unit acts on messages of the channel: the configuration has been handed over, the channel is configured, and
the station is not in CONFIG_FAULT (R150, R160, R162). -/
def State.chanUsable (s : State) (c : Chan) : Bool :=
  s.signs.handedOver && s.chanConfigured c && s.mode != .configFault

/-- A channel is SETTING. -/
def Signs.anySetting (g : Signs) : Bool := Chan.all.any (fun c => (g.get c).state == .setting)

/-- A channel is IDENTIFYING. -/
def Signs.anyIdentifying (g : Signs) : Bool := Chan.all.any (fun c => (g.get c).state == .identifying)

/-- What a channel shows of a plan (R144): the lane's aspect with its LIMIT step, or the legend with the flashers. -/
inductive Part where
  | aspect (a : Aspect)
  | legend (l : Legend) (flashers : Bool)
deriving DecidableEq, Repr

/-- A channel's part of a plan. -/
def Plan.part (p : Plan) (c : Chan) : Part :=
  match c with
  | .lane k => .aspect (p.aspects.get k)
  | .legend => .legend p.legend p.flashers

/-- The BLANK part of a channel; on the legend channel it is NONE with the flashers off (R149). -/
def blankPart (c : Chan) : Part :=
  match c with
  | .lane _ => .aspect .blank
  | .legend => .legend .none false

/-- The limit value an aspect carries to its module: that of its step, 0 unless LIMIT (R149, Table 13-8). -/
def State.limitValue (s : State) (a : Aspect) : Nat :=
  match a with
  | .limit k => s.cfg.limit.get k
  | _ => 0

/-- The ASPECT SET that carries a part under a set number. -/
def State.aspectSet (s : State) (set : Nat) (p : Part) : SignMessage :=
  match p with
  | .aspect a => .laneAspect set a.cls (s.limitValue a)
  | .legend l f => .legendAspect set l f

/-- The two ways a lane's aspect can be displaced (R161). -/
inductive Displacement where
  | closed | limit
deriving DecidableEq, Repr

/-- The displaced state of a lane: its channel is FAILED or MISMATCH and its active aspect is CLOSED or LIMIT (R161). -/
def State.displaced (s : State) (k : Lane) : Option Displacement :=
  if (s.signs.lanes.get k).state = .failed ∨ (s.signs.lanes.get k).state = .mismatch then
    match s.composer.active.aspects.get k with
    | .closed => some .closed
    | .limit _ => some .limit
    | _ => none
  else none

/-- The displaced state of every lane. -/
def State.displacements (s : State) : Lanes (Option Displacement) := Lanes.build s.displaced

/-- The displaced step: the plan step while a lane is displaced with LIMIT (R161). -/
def State.displacedStep (s : State) : Option Nat :=
  if Lane.all.any (fun k => s.displaced k == some .limit) then some s.speed.planStep else none

/-! ### Running lanes for measurement (R36, R99) -/

/-- The lane is a running lane for measurement (R36). -/
def State.runsForMeasurement (s : State) (k : Lane) : Bool :=
  decide (k.num ≤ s.cfg.laneCount) && s.composer.active.aspects.get k != .closed &&
    (!s.isShoulder k || s.shoulder.state == .opened)

/-- The smaller of two values that may be absent. -/
def optMin (a b : Option Nat) : Option Nat :=
  match a, b with
  | some x, some y => some (min x y)
  | some x, none => some x
  | none, y => y

/-- The larger of two values that may be absent. -/
def optMax (a b : Option Nat) : Option Nat :=
  match a, b with
  | some x, some y => some (max x y)
  | some x, none => some x
  | none, y => y

/-- The station speed: the least S over the running lanes in DUAL (R37). -/
def State.stationSpeed (s : State) : Option Nat :=
  (s.laneList.filter (fun k => s.runsForMeasurement k && (s.detector.lanes.get k).mode == .dual)).foldl
    (fun acc k => optMin acc (s.records.get k).s) none

/-- The station occupancy: the greatest Os over the running lanes whose mode is not NONE (R37). -/
def State.stationOccupancy (s : State) : Option Nat :=
  (s.laneList.filter (fun k => s.runsForMeasurement k && (s.detector.lanes.get k).mode != .none)).foldl
    (fun acc k => optMax acc (s.records.get k).os) none

/-! ### Demand (R78, R80) -/

/-- A step qualifies by the speed or by the occupancy (R78). -/
def State.qualifies (s : State) (k : Nat) : Bool :=
  (match s.measures.speed with | some v => decide (v ≤ s.cfg.sEnter.get k) | none => false) ||
    (match s.measures.occupancy with | some o => decide (s.cfg.oEnter.get k ≤ o) | none => false)

/-- The candidate: the highest qualifying step, or 0 (R78). -/
def State.candidate (s : State) : Nat := ([6, 5, 4, 3, 2, 1].find? (fun k => s.qualifies k)).getD 0

/-- The release condition of the present step (R80); O_enter − Ho is compared as a signed number. -/
def State.releaseHolds (s : State) : Bool :=
  (match s.measures.speed with | some v => decide (s.cfg.sEnter.get s.speed.demand + s.cfg.hs ≤ v) | none => true) &&
    (match s.measures.occupancy with
     | some o => decide ((o : Int) ≤ (s.cfg.oEnter.get s.speed.demand : Int) - (s.cfg.ho : Int))
     | none => true)

/-! ### Queue (R96, R103) -/

/-- The queue condition Q (R96). -/
def State.queueCondition (s : State) : Bool :=
  (match s.measures.speed with | some v => decide (v ≤ s.cfg.queueSpeed) | none => false) &&
    (match s.measures.occupancy with | some o => decide (s.cfg.queueOccupancy ≤ o) | none => false)

/-- A downstream neighbour within the warning distance publishes its queue flag set (R103). -/
def State.queueAhead (s : State) : Bool :=
  s.neighbours.entries.any (fun e =>
    decide (s.own < e.station ∧ e.station ≤ s.own + s.cfg.warningDistance) && (e.view.bind (·.queueFlag)) == some true)

/-- The queue term applies (R103). -/
def State.queueTerm (s : State) : Bool := s.queue.state == .present || s.queueAhead

/-! ### The lower bound (R82 to R84, R91) -/

/-- The funnel term of an entry: its plan step less its hop, for a downstream entry (R83). -/
def State.funnelTerm (s : State) (e : Neighbour) : Nat :=
  if s.own < e.station then
    match e.view.bind (·.planStep) with
    | some p => p - (e.station - s.own)
    | none => 0
  else 0

/-- The terms of the lower bound that are present in the station's mode (Table 5-3); a term of 0 adds nothing. -/
def State.boundTerms (s : State) : List Nat :=
  (if s.mode = .warming then [] else [s.speed.demand]) ++
    s.neighbours.entries.map s.funnelTerm ++
    s.applying.map (·.step) ++
    (if s.queue.term then [s.cfg.queueStep] else []) ++
    (s.speed.override.toList.map (·.step)) ++
    (s.downView.bind (·.displacedStep)).toList ++
    (if s.mode = .isolated then [s.cfg.isolationStep] else [])

/-- The lower bound: the largest term present, or 0 (R82). -/
def State.lowerBound (s : State) : Nat := s.boundTerms.foldl max 0

/-- The END condition (R92). -/
def State.endHolds (s : State) : Bool :=
  s.speed.planStep == 0 && s.applying.isEmpty && !s.queue.term &&
    (match s.upView.bind (·.planStep) with | some p => decide (1 ≤ p) | none => false)

/-! ### Composition of a plan (R119 to R122, R131, R132, R135 to R140) -/

/-- The lane is taken over: the nearest downstream neighbour publishes it displaced (R121). -/
def State.takenOver (s : State) (k : Lane) : Bool :=
  decide (k.num ≤ s.cfg.laneCount) && ((s.downLane k).map (·.displaced)) == some true

/-- The downstream interlock: the nearest downstream neighbour publishes a shoulder state other than OPEN (R132). -/
def State.interlock (s : State) : Bool :=
  match s.downView.bind (·.shoulder) with
  | some c => c != .opened
  | none => false

/-- The shoulder state closes the lane: the shoulder lane in CLOSED or CHECKING (R135). -/
def State.shoulderCloses (s : State) (k : Lane) : Bool :=
  s.isShoulder k && (s.shoulder.state == .closed || s.shoulder.state == .checking)

/-- The CLOSED case of composition (R135). -/
def State.closedCase (s : State) (k : Lane) : Bool :=
  s.shoulderCloses k || s.closedByEntry k || s.takenOver k

/-- The shoulder lane while CLOSING. -/
def State.shoulderClosing (s : State) (k : Lane) : Bool := s.isShoulder k && s.shoulder.state == .closing

/-- The MERGE case of composition (R136). -/
def State.mergeCase (s : State) (k : Lane) : Bool :=
  !s.closedCase k &&
    (s.mergedByEntry k || s.shoulderClosing k || (s.isShoulder k && s.shoulder.state == .opened && s.interlock) ||
      ((s.downLane k).map (fun v => v.takenOver && !v.displaced)) == some true)

/-- The running lanes of the plan being composed (R119). -/
def State.planRunning (s : State) : List Lane :=
  s.laneList.filter (fun k => !s.closedCase k && !s.mergeCase k)

/-- The distance of two lane numbers. -/
def laneDistance (j k : Lane) : Nat := (j.num - k.num) + (k.num - j.num)

/-- The running lane nearest to a lane, a tie going to the higher number (R119); the list is ascending. -/
def nearestRunning (k : Lane) (running : List Lane) : Option Lane :=
  running.foldl (fun best j =>
    match best with
    | none => some j
    | some b => if laneDistance j k ≤ laneDistance b k then some j else some b) none

/-- LIMIT at the plan step, else END, else BLANK (R138). -/
def State.openAspect (s : State) : Aspect :=
  if 1 ≤ s.speed.planStep then .limit s.speed.planStep else if s.speed.endCondition then .ended else .blank

/-- The aspect of a lane in the next plan (R135 to R138). -/
def State.composeAspect (s : State) (k : Lane) : Aspect :=
  if s.cfg.laneCount < k.num then .blank
  else if s.closedCase k then .closed
  else if s.mergeCase k then
    match nearestRunning k s.planRunning with
    | some j => if j.num < k.num then .mergeNear else .mergeOff
    | none => if s.shoulderClosing k then .closed else s.openAspect
  else s.openAspect

/-- CLOSED or MERGE (R139, R142): 0 for the open aspects, 1 for MERGE, 2 for CLOSED. -/
def Aspect.group (a : Aspect) : Nat :=
  match a with
  | .blank => 0
  | .limit _ => 0
  | .ended => 0
  | .mergeNear => 1
  | .mergeOff => 1
  | .closed => 2

/-- The override legend while the record is present (R139). -/
def State.overrideLegend (s : State) : Legend :=
  match s.speed.override with
  | some o => o.legend
  | none => .none

/-- The candidate INCIDENT (R139). -/
def State.incidentRaised (s : State) : Bool :=
  s.applying.any (fun c => s.laneList.all (fun k => c.names k)) || s.planRunning.isEmpty || s.overrideLegend == .incident

/-- The candidate LANES CLOSED (R139): the shoulder lane does not count while its only reason is the shoulder state
CLOSED or CHECKING (log 18). -/
def State.lanesClosedRaised (s : State) : Bool :=
  s.laneList.any (fun k =>
    (s.composeAspect k).group != 0 && !(s.shoulderCloses k && !s.closedByEntry k && !s.takenOver k)) ||
    s.overrideLegend == .lanesClosed

/-- The legend of the next plan: the candidate of highest rank (R139, R140). QUEUE is a candidate from the queue monitor's
report of the term on (R104). -/
def State.composeLegend (s : State) : Legend :=
  if s.incidentRaised then .incident
  else if s.lanesClosedRaised then .lanesClosed
  else if s.composer.queueCandidate || s.overrideLegend == .queue then .queue
  else if s.overrideLegend == .caution then .caution
  else .none

/-- The flashers go with INCIDENT, LANES CLOSED and QUEUE (R140). -/
def Legend.flashes (l : Legend) : Bool :=
  match l with
  | .incident => true
  | .lanesClosed => true
  | .queue => true
  | .caution => false
  | .none => false

/-- The next plan composed from all inputs as they stand (R134, R142). -/
def State.compose (s : State) : Plan :=
  { aspects := Lanes.build s.composeAspect
    taken := Lanes.build s.takenOver
    legend := s.composeLegend
    flashers := s.composeLegend.flashes }

/-- A change of plan that is urgent: the CLOSED-or-MERGE state or the taken-over mark of a lane changes (R142). -/
def planUrgent (old new : Plan) : Bool :=
  Lane.all.any (fun k =>
    (old.aspects.get k).group != (new.aspects.get k).group || old.taken.get k != new.taken.get k)

/-! ### Status assembly (R58 to R60) -/

/-- The shoulder state as published: NONE without a shoulder lane (R58). -/
def State.shoulderCode (s : State) : ShoulderCode :=
  if s.cfg.shoulderLane then
    match s.shoulder.state with
    | .closed => .closed
    | .checking => .checking
    | .opened => .opened
    | .closing => .closing
  else .none

/-- The status record as it is assembled at a start hold (R58 to R60). -/
def State.statusRecord (s : State) : StatusRecord :=
  let active := s.faults.entries.countP (·.active)
  if s.mode = .configFault then
    { mode := .configFault, laneCount := 0, faults := s.faults.entries.length, activeFaults := active, overflow := s.faults.overflow
      planStep := none, demandStep := none, queueFlag := none, shoulder := none, lanes := [], rejected := none
      lastKind := none, lastResult := none, displacedStep := none, ownClosure := none, held := [] }
  else
    { mode := s.mode
      laneCount := s.cfg.laneCount
      faults := s.faults.entries.length
      activeFaults := active
      overflow := s.faults.overflow
      planStep := some s.speed.planStep
      demandStep := if s.mode = .warming then none else some s.speed.demand
      queueFlag := some (s.queue.state == .present)
      shoulder := some s.shoulderCode
      lanes := s.laneList.map (fun k =>
        { aspect := some (s.composer.next.aspects.get k).cls, displaced := s.displaced k == some .closed
          takenOver := s.composer.next.taken.get k })
      rejected := some s.line.rejected
      lastKind := s.station.lastCommand.map (·.kind)
      lastResult := s.station.lastCommand.map (·.result)
      displacedStep := s.displacedStep
      ownClosure := s.ownClosure
      held := s.heldOrigins }

/-! ### Line (R44, R48) -/

/-- A station sending or holding its abort hold hears no frame of another. -/
def Line.listening (l : Line) : Bool :=
  !l.stuck && l.abortHold.isNone && (l.tx == .quiet || l.tx == .waiting)

/-- Another station's frame can run to its end at this receiver: the line interface is active and listening, and
either an idle gap has been seen or the frame goes on from the digits already read (R44, R50). -/
def State.canHear (s : State) (f : Frame) : Bool :=
  s.lineActive && s.line.listening && decide (f.body.length ≤ 30) &&
    if s.line.rx.inProgress then s.line.rx.digits.isPrefixOf f.digits
    else s.line.rx.phase == .idle && s.line.rx.gapSeen

/-- Something waits to be sent (R48). -/
def Line.hasWork (l : Line) : Bool := l.pending || !l.replies.isEmpty

end Sys2Proof.Machine
end

