-- ==== Sys2Proof/Machine/Ops.lean ====
section
/-!
DEFINITION. The operations that several commands share: the passing of time, the fault list, the status slot, the
sign channels, the commit, the readers of reports, the closure table with its slot writer, the shoulder's forced
changes, isolation, and the delivery of vehicle records.
-/
namespace Sys2Proof.Machine

/-- The outcome of every command: a next state (log 8). -/
abbrev Result := Host.Outcome State Fault Refusal

/-- Time passes up to the command; the sign lines carry nothing of it yet (logs 1 and 4). -/
def State.advance (s : State) (dt : Nat) : State :=
  (s.setClock (s.clock + dt)).setSigns { s.signs with sent := [] }

/-! ### The fault list (R177 to R179) -/

/-- The entry has this key. -/
def FaultEntry.hasKey (e : FaultEntry) (k : FaultKind) (u : Nat) : Bool := e.kind == k && e.unit == u

/-- A listed entry at a further occurrence (R177). -/
def FaultEntry.again (e : FaultEntry) : FaultEntry :=
  if e.kind.isCondition then { e with count := min (e.count + 1) 255, active := true, acked := false }
  else { e with count := min (e.count + 1) 255 }

/-- An occurrence of a key is raised (R177). -/
def FaultList.raise (l : FaultList) (k : FaultKind) (u seen : Nat) : FaultList :=
  if l.entries.any (fun e => e.hasKey k u) then
    { l with entries := l.entries.map (fun e => if e.hasKey k u then e.again else e) }
  else if l.entries.length < 16 then
    { l with entries := l.entries ++ [{ kind := k, unit := u, firstSeen := seen, count := 1, active := k.isCondition, acked := false }] }
  else { l with overflow := true }

/-- A condition fault has ended (R178): an active entry becomes inactive, and leaves the list if it is acknowledged;
a removal clears the overflow flag. -/
def FaultList.close (l : FaultList) (k : FaultKind) (u : Nat) : FaultList :=
  if l.entries.any (fun e => e.hasKey k u && e.active && e.acked) then
    { entries := l.entries.filter (fun e => !e.hasKey k u), overflow := false }
  else { l with entries := l.entries.map (fun e => if e.hasKey k u then { e with active := false } else e) }

/-- The selected entries are acknowledged (R179): the inactive ones leave, the active ones are marked. -/
def FaultList.acknowledge (l : FaultList) (sel : FaultEntry → Bool) : FaultList :=
  { entries := (l.entries.filter (fun e => !(sel e && !e.active))).map (fun e => if sel e then { e with acked := true } else e)
    overflow := l.overflow && !l.entries.any (fun e => sel e && !e.active) }

/-- A block raises an occurrence; its first-seen time is the present time (R177). -/
def State.raiseFault (s : State) (k : FaultKind) (u : Nat) : State := s.setFaults (s.faults.raise k u s.seconds)

/-- A block reports that a condition has ended (R178). -/
def State.endFault (s : State) (k : FaultKind) (u : Nat) : State := s.setFaults (s.faults.close k u)

/-- One occurrence is raised and one condition ends at the same moment, in the order the command names (R178, log 3). -/
def State.exchangeFaults (s : State) (endFirst : Bool) (raised ended : FaultKind) (u : Nat) : State :=
  if endFirst then (s.endFault ended u).raiseFault raised u else (s.raiseFault raised u).endFault ended u

/-! ### The status slot and the reply queue (R48, R54, R56) -/

/-- QUIET becomes WAITING as soon as something is pending (R48). -/
def Line.wake (l : Line) : Line := if l.tx == .quiet && l.hasWork then { l with tx := .waiting } else l

/-- The pending mark is set (R53). -/
def Line.setPending (l : Line) : Line := Line.wake { l with pending := true }

/-- The urgent flag is set, and with it the pending mark (R54, R55). -/
def Line.setUrgent (l : Line) : Line := Line.wake { l with pending := true, urgent := true, urgentAgain := true }

/-- A change that R54 names; the flag is set in WARMING, RUNNING and ISOLATED alone. -/
def State.flagUrgent (s : State) : State := if s.acting then s.setLine s.line.setUrgent else s

/-- Frames enter the reply queue (R56). -/
def State.enqueue (s : State) (bodies : List (List Octet)) : State :=
  s.setLine (Line.wake { s.line with replies := s.line.replies ++ bodies })

/-- The free places of the reply queue (R56). -/
def State.freePlaces (s : State) : Nat := 4 - s.line.replies.length

/-! ### Sign channels (R149, R153, R154, R157) -/

/-- Messages go out on sign lines. -/
def State.send (s : State) (msgs : List (Chan × SignMessage)) : State :=
  s.setSigns { s.signs with sent := s.signs.sent ++ msgs }

/-- One channel record is replaced. -/
def State.setChannel (s : State) (c : Chan) (x : Channel) : State := s.setSigns (s.signs.set c x)

/-- The message BLANK with set number 0 of a channel. -/
def State.blankMessage (s : State) (c : Chan) : Chan × SignMessage := (c, s.aspectSet 0 (blankPart c))

/-- A beginning or end of a lane's displacement is urgent (R161). -/
def State.noteDisplacement (s : State) (before : Lanes (Option Displacement)) : State :=
  if s.displacements = before then s else s.flagUrgent

/-- The set number after a used one: from 255 it returns to 1 (R149). -/
def nextSetAfter (n : Nat) : Nat := if n = 255 then 1 else n + 1

/-- An attempt begins (R154): ASPECT SET with the active aspect and a fresh proving set number, preceded by IDENTIFY
when the channel is not identified; the retry timer stops. -/
def State.beginAttempt (s : State) (c : Chan) : State :=
  let ch := s.signs.get c
  (s.setChannel c
    { ch with state := .setting, nextSet := nextSetAfter ch.nextSet
              attempt := some { set := ch.nextSet, deadline := s.clock + s.cfg.provingTimeout * 1000 }, identifyBy := none, retryAt := none }).send
    ((if ch.identified then [] else [(c, .identify)]) ++ [(c, s.aspectSet ch.nextSet (s.composer.active.part c))])

/-- The fault kind of a failure reason (R157). -/
def FailureReason.fault (r : FailureReason) : FaultKind :=
  match r with
  | .noResponse => .signNoResponse
  | .failed => .signFailed

/-- The entry into FAILED (R157). -/
def State.enterFailed (s : State) (c : Chan) (reason : FailureReason) (endFirst : Bool) : State :=
  let ch := s.signs.get c
  let s1 := (s.setChannel c
    { ch with state := .failed, reason := some reason, attempt := none, identifyBy := none
              retryAt := some (s.clock + s.cfg.retryPeriod * second) }).send [s.blankMessage c]
  let s2 :=
    match ch.reason with
    | none => s1.raiseFault reason.fault c.num
    | some old => if old = reason then s1 else s1.exchangeFaults endFirst reason.fault old.fault c.num
  s2.noteDisplacement s.displacements

/-- The entry into MISMATCH (R153). -/
def State.enterMismatch (s : State) (c : Chan) (endFirst : Bool) : State :=
  let ch := s.signs.get c
  let s1 := (s.setChannel c { ch with state := .mismatch, reason := none, attempt := none, identifyBy := none, retryAt := none }).send
    [s.blankMessage c]
  let s2 :=
    match ch.reason with
    | none => s1.raiseFault .signMismatch c.num
    | some old => s1.exchangeFaults endFirst .signMismatch old.fault c.num
  s2.noteDisplacement s.displacements

/-! ### The commit and the next plan (R142 to R144) -/

/-- One channel at a commit: a configured channel whose part changed, not in MISMATCH, begins an attempt (R144). -/
def State.commitChannel (s : State) (old : Plan) (c : Chan) : State :=
  if s.chanUsable c && old.part c != s.composer.active.part c && (s.signs.get c).state != .mismatch then s.beginAttempt c else s

/-- The commit (R144). -/
def State.commit (s : State) : State :=
  (Chan.all.foldl (fun t c => t.commitChannel s.composer.active c)
    (s.setComposer { s.composer with active := s.composer.next })).noteDisplacement s.displacements

/-- The commit gate (R143): the display is on, the plans are unequal and no channel is SETTING. -/
def State.tryCommit (s : State) : State :=
  if s.composer.display && s.composer.next != s.composer.active && !s.signs.anySetting then s.commit else s

/-- The next plan is recomputed from all inputs (R142). -/
def State.recompute (s : State) : State :=
  if s.composer.display then
    let s1 := s.setComposer { s.composer with next := s.compose }
    if planUrgent s.composer.next s.compose then s1.flagUrgent else s1
  else s

/-! ### The shoulder (R127, R129 to R131) -/

/-- The shoulder controller moves to a new state; each change of state is urgent (R131). -/
def State.moveShoulder (s : State) (x : Shoulder) : State :=
  if x.state = s.shoulder.state then s.setShoulder x else (s.setShoulder x).flagUrgent

/-- An event of R127 aborts the opening check, if one is in progress. -/
def State.abortCheck (s : State) : State :=
  if s.shoulder.state = .checking then
    (s.moveShoulder { state := .closed, checkTimer := none, clearanceTimer := s.shoulder.clearanceTimer }).raiseFault .shoulderCheckFailed 0
  else s

/-- The shoulder enters CLOSING and the clearance timer starts (R129). -/
def State.startClosing (s : State) : State :=
  s.moveShoulder { state := .closing, checkTimer := none, clearanceTimer := some (s.clock + s.cfg.clearanceTime * second) }

/-- The forced closing at the entry into ISOLATED (R130). -/
def State.forceClosing (s : State) : State :=
  if s.shoulder.state = .opened ∨ s.shoulder.state = .checking then s.startClosing else s

/-! ### The readers of reports (R85 to R87, R92, R103, R142) -/

/-- The queue monitor recomputes the queue term (R103). -/
def State.serveQueue (s : State) : State := s.setQueue { s.queue with term := s.queueTerm }

/-- The hold has expired for a change of a term (R87): its moment is past, or it is this moment and HOLD_EXPIRY has been taken.
A change of that moment that comes before HOLD_EXPIRY finds the hold in force (R88, log 25). -/
def State.holdExpired (s : State) : Bool :=
  s.speed.holdEnded || decide (s.speed.heldSince + s.cfg.minDisplay * second < s.clock)

/-- A recomputed lower bound is applied to the plan step (R86, R87). A bound that has not changed changes nothing
(R85). A new plan step begins a new hold. -/
def State.applyBound (s : State) : State :=
  let b := s.lowerBound
  if b = s.speed.bound then s
  else if s.speed.planStep < b ∨ (b < s.speed.planStep ∧ s.holdExpired) then
    s.setSpeed { s.speed with bound := b, planStep := b, heldSince := s.clock, holdEnded := false }
  else s.setSpeed { s.speed with bound := b }

/-- The END condition is recomputed (R92). -/
def State.updateEnd (s : State) : State := s.setSpeed { s.speed with endCondition := s.endHolds }

/-- Speed control takes its reports: lower bound, plan step and END condition. -/
def State.serveSpeed (s : State) : State := s.applyBound.updateEnd

/-- The aspect composer takes the queue monitor's report: QUEUE is a legend candidate while the term applies (R104). -/
def State.takeCandidate (s : State) : State := s.setComposer { s.composer with queueCandidate := s.queue.term }

/-- The aspect composer takes the reports of every block but the queue monitor: a new next plan, from its inputs as they
stand (log 22), and a commit if the gate is open. -/
def State.servePlan (s : State) : State := s.recompute.tryCommit

/-- The aspect composer takes all its reports. -/
def State.serveComposer (s : State) : State := s.takeCandidate.servePlan

/-- The shoulder controller takes the report of the entry into ISOLATED, made in a step that began in `before` (R130,
R163). -/
def State.serveShoulder (s before : State) : State :=
  if s.mode = .isolated ∧ before.mode ≠ .isolated then s.forceClosing else s

/-- One reader takes the reports made to it in a step that began in `before`. -/
def State.serve (s before : State) (r : Reader) : State :=
  match r with
  | .queue => s.serveQueue
  | .speed => s.serveSpeed
  | .plan => s.servePlan
  | .composer => s.serveComposer
  | .shoulder => s.serveShoulder before

/-- Readers take their reports in a given order. -/
def State.serveAll (s before : State) (rs : List Reader) : State := rs.foldl (fun t r => t.serve before r) s

/-- What the readers of the neighbour table see of an entry: its state and its arrival are not reported (R63, R65). -/
def Neighbour.content (e : Neighbour) : Nat × StatusRecord × Bool := (e.station, e.record, e.void)

/-- What the readers read has changed between two states: the mode, a neighbour entry's content, a closure, the queue
state, the demand step, the override record or the shoulder state (R63, R85, R103, R142). -/
def State.reported (s before : State) : Bool :=
  decide (s.mode ≠ before.mode ∨
    s.neighbours.entries.map Neighbour.content ≠ before.neighbours.entries.map Neighbour.content ∨
    s.closures ≠ before.closures ∨ s.queue.state ≠ before.queue.state ∨ s.speed.demand ≠ before.speed.demand ∨
    s.speed.override ≠ before.speed.override ∨ s.shoulder.state ≠ before.shoulder.state)

/-- Every reader takes its reports (R104, R117, R163): the shoulder controller, the queue monitor, speed control, the aspect
composer. -/
def State.serveEvery (s before : State) : State := (((s.serveShoulder before).serveQueue).serveSpeed).serveComposer

/-- Some readers take what has been reported so far in a step that began in `before`, while the others still wait. Without
a report nothing is taken, and outside WARMING, RUNNING and ISOLATED the readers do not act. -/
def State.serveSome (s before : State) (rs : List Reader) : State :=
  if s.acting && s.reported before then s.serveAll before rs else s

/-- Two blocks act on separate state in the order the command names, and the readers it names take the report of the one
before the other acts (R38, R62, log 3). -/
def State.inOrder (s before : State) (o : Order) (first second : State → State) : State :=
  if o.swapped then first ((second s).serveSome before o.between) else second ((first s).serveSome before o.between)

/-- The reports that fall together in a step that began in `before` are taken: first in the order the command names,
then by every reader (log 3). -/
def State.settle (s before : State) (late : List Reader) : State :=
  if s.acting && s.reported before then (s.serveAll before late).serveEvery before else s

/-! ### Station mode and isolation (R70, R71) -/

/-- The station mode changes (R163). -/
def State.setMode (s : State) (m : Mode) : State := s.setStation { s.station with mode := m }

/-- The isolation condition becomes present (R70); a RUNNING station becomes ISOLATED (R71), which the shoulder controller
takes as a report (R130). -/
def State.becomeIsolated (s : State) : State :=
  let s1 := s.setNeighbours { s.neighbours with isolation := true }
  if s.mode = .running then s1.setMode .isolated else s1

/-- A valid frame has arrived from a source (R46, R67, R70, R71): the isolation timer restarts, the condition clears,
an ISOLATED station becomes RUNNING, and NEIGHBOUR LOST of the source ends. -/
def State.noteArrival (s : State) (source : Nat) : State :=
  if s.acting then
    let s1 := s.setNeighbours { s.neighbours with isolation := false, isolationTimer := some (s.clock + s.cfg.isolationTime * second) }
    (if s.mode = .isolated then s1.setMode .running else s1).endFault .neighbourLost source
  else s

/-! ### The retention store (R171, R172) -/

/-- The slot writer runs from the end of the restore, and not in CONFIG_FAULT (R172). -/
def State.writerOn (s : State) : Bool := s.station.restored && s.mode != .configFault

/-- The lowest-numbered dirty slot. -/
def Retention.lowestDirty (r : Retention) : Option Pos := Pos.all.find? (fun p => r.dirty.get p)

/-- The writer starts a write of the lowest-numbered dirty slot when none is in flight (R172): the mark is cleared,
the position latched, the marker set to WRITING. -/
def State.startWrite (s : State) : State :=
  if s.writerOn && s.retention.write.isNone then
    match s.retention.lowestDirty with
    | some p =>
        s.setRetention
          { slots := s.retention.slots.set p { s.retention.slots.get p with marker := markerWriting }
            dirty := s.retention.dirty.set p false
            write := some { slot := p, latched := (s.closures.get p).map Closure.image } }
    | none => s
  else s

/-- A slot is marked dirty, and the writer starts if it can (R171, R172). -/
def State.markDirty (s : State) (p : Pos) : State :=
  (s.setRetention { s.retention with dirty := s.retention.dirty.set p true }).startWrite

/-! ### The closure table (R117) -/

/-- The content of a position changes (R117): the own closure's change is urgent (R54), which the model reads as a change of
a published field (DESIGN CHOICE, log 20); an entry that newly names lane 1 aborts the opening check (R127), and the slot is
marked dirty (R171). -/
def State.putClosure (s : State) (p : Pos) (c : Option Closure) : State :=
  let s1 := s.setClosures (s.closures.set p c)
  let s2 := if s1.ownClosure = s.ownClosure then s1 else s1.flagUrgent
  let s3 := if !s.laneNamed .l1 && s2.laneNamed .l1 then s2.abortCheck else s2
  s3.markDirty p

/-- An entry is inserted at the lowest-numbered free position (R106, R108). -/
def State.insertClosure (s : State) (c : Closure) : State :=
  match s.freePosition with
  | some p => s.putClosure p (some c)
  | none => s

/-! ### Vehicle records (R14, R18, R99, R100) -/

/-- The capture ends and the buffer becomes DRAINING (R18). -/
def Trace.drain (t : Trace) (cutShort : Bool) : Trace := { t with state := .draining, cutShort := cutShort }

/-- A finished record of the traced lane is captured (R18). -/
def Trace.capture (t : Trace) (r : VehicleRecord) : Trace :=
  if t.state = .capturing ∧ t.lane = r.lane.num then
    let t1 := { t with records := t.records ++ [r], captured := t.captured + 1 }
    if t1.captured = t1.requested then t1.drain false else t1
  else t

/-- The shock trigger fires (R100): the queue becomes PRESENT, which is urgent when it was CLEAR (R102), and the
counters are zeroed. The moment is kept for an evaluation that falls together with it (R101). -/
def State.fireShock (s : State) : State :=
  let s1 := s.setQueue { s.queue with state := .present, confirm := 0, clearCount := 0, firedAt := some s.clock }
  if s.queue.state = .clear then s1.flagUrgent else s1

/-- A lane's slow-vehicle run takes a value. -/
def State.setRun (s : State) (k : Lane) (n : Nat) : State := s.setQueue { s.queue with runs := s.queue.runs.set k n }

/-- The queue monitor takes a vehicle record (R99, R100). -/
def State.watchRecord (s : State) (r : VehicleRecord) : State :=
  if s.runsForMeasurement r.lane && (s.detector.lanes.get r.lane).mode == .dual then
    match r.result with
    | .unmeasured _ => s
    | .measured speed _ _ _ =>
        if speed < s.cfg.shockSpeed then
          let run := min (s.queue.runs.get r.lane + 1) s.cfg.runLength
          if run = s.cfg.runLength then (s.setRun r.lane run).fireShock else s.setRun r.lane run
        else s.setRun r.lane 0
  else s.setRun r.lane 0

/-- One lane of the detector unit is replaced. -/
def State.setLane (s : State) (k : Lane) (d : LaneDetector) : State :=
  s.setDetector { s.detector with lanes := s.detector.lanes.set k d }

/-- One lane's sums are replaced. -/
def State.setSums (s : State) (k : Lane) (x : Sums) : State :=
  s.setLane k { s.detector.lanes.get k with sums := x }

/-- A LONG record raises n_long of its lane in the sums current at that moment (R14). -/
def State.countLong (s : State) (r : VehicleRecord) : State :=
  match r.result with
  | .measured _ _ _ .long =>
      let x := (s.detector.lanes.get r.lane).sums
      s.setSums r.lane { x with nLong := x.nLong + 1 }
  | _ => s

/-- A finished record is delivered to the trace buffer, the queue monitor and n_long (R14). -/
def State.finishRecord (s : State) (r : VehicleRecord) : State :=
  ((s.setTrace (s.trace.capture r)).watchRecord r).countLong r

end Sys2Proof.Machine
end

