-- ==== Sys2Proof/Machine/Arithmetic.lean ====
section
/-!
DEFINITION. The arithmetic unit, the lane records and the station evaluation (chapter 2), with the demand evaluation
(R77 to R81) and the queue confirmation (R96 to R98) that an evaluation makes.
-/
namespace Sys2Proof.Machine

/-! ### VEHICLE requests (R24 to R27) -/

/-- The speed of a VEHICLE request before its clamp: ⌊D × 360 / T⌋ (R25). -/
def VehicleRequest.quotient (r : VehicleRequest) : Nat := r.spacing * 360 / r.transit

/-- The speed: the quotient, at most 250 (R25). -/
def VehicleRequest.speed (r : VehicleRequest) : Nat := min r.quotient 250

/-- The length: ⌊D × OnA / T⌋ − Lp, from 0 to 3000 (R26). -/
def VehicleRequest.length (r : VehicleRequest) : Nat := min (r.spacing * r.onA / r.transit - r.loopLength) 3000

/-- The class: LONG at or above the long threshold (R27). -/
def VehicleRequest.cls (r : VehicleRequest) : VehicleClass := if r.longThreshold ≤ r.length then .long else .short

/-- The results of a VEHICLE request; with T = 0 nothing is divided and the reason is IMPLAUSIBLE (R24). -/
def VehicleRequest.result (r : VehicleRequest) : VehicleResult :=
  if r.transit = 0 then .unmeasured .implausible
  else .measured r.speed (decide (250 < r.quotient)) r.length r.cls

/-- The finished record of a VEHICLE request, with the completion time the detector unit gave it (R14, R27). -/
def VehicleRequest.record (r : VehicleRequest) : VehicleRecord :=
  { lane := r.lane, seconds := r.seconds, tick := r.tick, onA := r.onA, result := r.result }

/-! ### INTERVAL requests (R24, R30 to R35) -/

/-- The flow of a snapshot (R30); absent when the measured mark is clear, and with C = 0 (R24). -/
def Snapshot.flow (x : Snapshot) : Option Nat :=
  if x.measured && x.covered != 0 then some (min (x.n * 36000000 / x.covered) 9999) else none

/-- The occupancy of a snapshot (R31); absent when the measured mark is clear, and with C = 0 (R24). -/
def Snapshot.occupancy (x : Snapshot) : Option Nat :=
  if x.measured && x.covered != 0 then some (min (x.sumOn * 1000 / x.covered) 1000) else none

/-- The EMPTY mark of a snapshot (Table 2-3). -/
def Snapshot.isEmpty (x : Snapshot) : Bool := x.measured && x.n == 0

/-- The speed of a snapshot (R32); with m ≥ 1 and ΣT = 0 it is absent (R24). -/
def Snapshot.speed (x : Snapshot) (spacing vff : Nat) : Option Nat :=
  if !x.measured then none
  else if x.n = 0 then some vff
  else if x.m = 0 then none
  else if x.sumT = 0 then none
  else some (max 5 (min (spacing * 360 * x.m / x.sumT) 250))

/-- One step of smoothing: a fraction weight / 8 of the difference, cut toward zero (R34, R35). -/
def smoothStep (old new weight : Nat) : Nat :=
  ((old : Int) + Int.tdiv (((new : Int) - (old : Int)) * (weight : Int)) 8).toNat

/-- The smoothed value after a result that may be absent (R34, R35). -/
def smooth (old new : Option Nat) (weight : Nat) : Option Nat :=
  match new, old with
  | some x, some y => some (smoothStep y x weight)
  | some x, none => some x
  | none, y => y

/-- The lane record at the completion of an INTERVAL request (R33). -/
def LaneRecord.update (r : LaneRecord) (x : Snapshot) (spacing vff w wo : Nat) : LaneRecord :=
  { q := x.flow, o := x.occupancy, v := x.speed spacing vff, empty := x.isEmpty, merged := decide (1 ≤ x.merges)
    nLong := x.nLong, s := smooth r.s (x.speed spacing vff) w, os := smooth r.os x.occupancy wo }

/-! ### The station evaluation (R37, R38, R77 to R81, R96 to R98) -/

/-- The station measures are computed (R37). -/
def State.computeMeasures (s : State) : State :=
  s.setMeasures { speed := s.stationSpeed, occupancy := s.stationOccupancy }

/-- The demand step and dwell counter after an evaluation with a measure present (R79, R80). -/
def State.moveDemand (s : State) : Speed :=
  let c := s.candidate
  let p := s.speed
  if p.demand ≤ c then { p with demand := c, dwell := 0 }
  else if s.releaseHolds then
    if p.dwell + 1 = s.cfg.dwellCount then { p with demand := p.demand - 1, dwell := 0 } else { p with dwell := p.dwell + 1 }
  else { p with dwell := 0 }

/-- A demand evaluation (R77 to R81). -/
def State.evaluateDemand (s : State) : State :=
  if s.measures.speed = none ∧ s.measures.occupancy = none then
    let s1 := s.setSpeed { s.speed with dwell := 0, detectionLost := true }
    if s.speed.detectionLost then s1 else s1.raiseFault .detectionLost 0
  else
    let s1 := s.setSpeed { s.moveDemand with detectionLost := false }
    if s.speed.detectionLost then s1.endFault .detectionLost 0 else s1

/-- The first evaluation of the moment at which the shock trigger fired, taken after the firing (R101). -/
def State.afterShock (s : State) : Bool := decide (s.queue.firedAt = some s.clock ∧ s.queue.clearCount = 0)

/-- The queue monitor judges an evaluation (R96 to R98); a change of the queue state is urgent (R102). A failing evaluation
that falls together with a firing before it raises the clear counter to 1 and leaves the state PRESENT, also with a clear
dwell of 1, for which R98 by itself would make it CLEAR (R101, log 24). -/
def State.evaluateQueue (s : State) : State :=
  let q := s.queue
  match q.state with
  | .clear =>
      if s.queueCondition then
        if q.confirm + 1 = s.cfg.confirmCount then
          (s.setQueue { q with state := .present, confirm := 0, clearCount := 0 }).flagUrgent
        else s.setQueue { q with confirm := q.confirm + 1 }
      else s.setQueue { q with confirm := 0 }
  | .present =>
      if s.queueCondition then s.setQueue { q with clearCount := 0 }
      else if s.cfg.clearDwell ≤ q.clearCount + 1 ∧ s.afterShock = false then
        (s.setQueue { q with state := .clear, confirm := 0, clearCount := 0 }).flagUrgent
      else s.setQueue { q with clearCount := q.clearCount + 1 }

/-- The first station evaluation in WARMING sets the first-evaluation mark (R169). -/
def State.markEvaluation (s : State) : State :=
  if s.mode = .warming ∧ s.station.firstEvaluation = false then
    s.setStation { s.station with firstEvaluation := true, markSetAt := some s.clock }
  else s

/-- Speed control takes the new measures: a demand evaluation in RUNNING and ISOLATED (R77). -/
def State.takeMeasures (s : State) : State :=
  if s.mode = .running ∨ s.mode = .isolated then s.evaluateDemand else s

/-- The station evaluation (R38) of a step that began in `before`: the measures and the first-evaluation mark, then speed
control and the queue monitor in either order (R96, log 3). -/
def State.evaluate (s before : State) (o : Order) : State :=
  (s.computeMeasures.markEvaluation).inOrder before o State.takeMeasures State.evaluateQueue

/-- An INTERVAL request completes: the lane record is updated, and the last INTERVAL request of the queue causes a
station evaluation (R33, R38). -/
def State.completeInterval (s : State) (k : Lane) (x : Snapshot) (rest : List Request) (o : Order) : State :=
  let s1 := (s.setRequests rest).setRecords
    (s.records.set k ((s.records.get k).update x (s.cfg.lanes.get k).spacing s.cfg.vff s.cfg.w s.cfg.wo))
  if rest.all Request.isVehicle then s1.evaluate s o else s1

/-! ### The commands -/

/-- VEHICLE_REQUEST_COMPLETION (R23): the request in service is a VEHICLE request; its record is finished and
delivered. -/
def execVehicleRequestCompletion (dt : Nat) (o : Order) (s : State) : Result :=
  let s := s.advance dt
  match s.requests with
  | .vehicle r :: rest => .next (((s.setRequests rest).finishRecord r.record).settle s o.late)
  | _ => .next s

/-- INTERVAL_REQUEST_COMPLETION (R33, R38): the request in service is an INTERVAL request. -/
def execIntervalRequestCompletion (dt : Nat) (o : Order) (s : State) : Result :=
  let s := s.advance dt
  match s.requests with
  | .interval k x :: rest => .next ((s.completeInterval k x rest o).settle s o.late)
  | _ => .next s

end Sys2Proof.Machine
end

