-- ==== Sys2Proof/Machine/CorridorLine.lean ====
section
/-!
DEFINITION. The line interface (chapter 3): the receiver's losses, the transmitter's attempts, the stuck line, and the
status slot's timer.
-/
namespace Sys2Proof.Machine

/-- The receiver in IDLE with no idle gap seen. -/
def Receiver.idle : Receiver := { phase := .idle, gapSeen := false, digits := [] }

/-- A count that saturates at 255 rises by one (R47, R51). -/
def countUp (n : Nat) : Nat := min (n + 1) 255

/-- The receiver returns to IDLE with no idle gap seen at a release of the line. -/
def Line.toIdle (l : Line) (now : Nat) : Line := { l with rx := Receiver.idle, gapFrom := now, heldFrom := now }

/-- A frame is counted in the rejected-frame count (R47). -/
def Line.countRejected (l : Line) : Line := { l with rejected := countUp l.rejected }

/-- The transmit state after an attempt that ended: WAITING if anything is pending, else QUIET (R48, R52). -/
def Line.rest (l : Line) : Line := { l with tx := if l.hasWork then .waiting else .quiet, txFrame := none }

/-- The own number as the source of a frame. -/
def State.ownSource (s : State) : BitVec 6 := BitVec.ofNat 6 s.own

/-- The frame chosen at a start hold (R49): an urgent status, a due status, or the head of the reply queue. -/
def State.chooseFrame (s : State) : Option Frame :=
  if s.line.pending && s.line.urgent then
    some (Frame.checked classUrgent kindStatus s.ownSource s.statusRecord.body)
  else if s.line.pending then
    some (Frame.checked classRoutine kindStatus s.ownSource s.statusRecord.body)
  else
    match s.line.replies with
    | body :: _ => some (Frame.checked classBulk kindReport s.ownSource body)
    | [] => none

/-- The marks sent for the first of `ds` read back in turn, and the mark after them, sent for a digit of which `sent` holds,
reads as `fails` says. -/
def failsAfter (test fails : Bool → Nat → Bool) (sent : Bool → Bool) (ds : List Bool) (holds : List Nat) (held : Nat) : Bool :=
  readBack test ds holds &&
    match ds[holds.length]? with
    | some d => sent d && fails d held
    | none => false

/-- A header mark sent short reads held: arbitration is lost (R50). -/
def lossArises (f : Frame) (holds : List Nat) (held : Nat) : Bool :=
  failsAfter sampleMatches sampleDiffers (fun d => d) f.headerDigits holds held

/-- What was read back of a frame disagrees with what was sent, in the transmit state in which it can (R50, R51). A start
hold has a slot of 6 units and reads held at the sample. -/
def abortArises (f : Frame) (c : AbortCause) (t : TxState) : Bool :=
  match c with
  | .startHold held => t == .arbitrating && (sampleMay false held || decide (60 ≤ held))
  | .headerLong holds held => t == .arbitrating && failsAfter sampleMatches sampleDiffers (fun d => !d) f.headerDigits holds held
  | .sample holds held => t == .sending && failsAfter markMatches sampleDiffers (fun _ => true) f.bodyDigits holds held
  | .slotEnd holds held =>
      t == .sending && failsAfter markMatches (fun _ held => decide (30 ≤ held)) (fun _ => true) f.bodyDigits holds held
  | .foundHeld holds => t == .sending && readBack markMatches f.bodyDigits holds && decide (holds.length < f.bodyDigits.length)

/-- What a completed STATUS frame leaves in the status slot (R55): the timer restarts, and the marks are cleared unless
the urgent flag was set again during the frame. -/
def Line.statusSent (l : Line) (clock : Nat) : Line :=
  { l with pubTimer := some (clock + l.timerPeriod * second), pending := l.urgentAgain, urgent := l.urgentAgain }

/-- The completion of a transmission acts on its source: the status slot (R55) or the head of the reply queue (R56). -/
def Line.frameSent (l : Line) (clock : Nat) : Line :=
  match l.txFrame with
  | some f => if f.kind = kindStatus then l.statusSent clock else { l with replies := l.replies.drop 1 }
  | none => l

/-- A frame in progress is lost and counted at a release of the line (R45). -/
def State.loseFrame (s : State) : State := s.setLine (s.line.countRejected.toIdle s.clock)

/-- A hold that is noise (R41). -/
def isNoise (held : Nat) : Bool := classifyHold held == .noise

/-- The time held in a run of holds up to the end of the last that is not noise; noise does not end a released time (R41). -/
def markTime (holds : List Nat) : Nat :=
  match holds with
  | [] => 0
  | h :: hs => if isNoise h && hs.all isNoise then 0 else h + markTime hs

/-- Of a run of holds, those that lie after `gapFrom` with their whole length: all of them in a frame in progress, all but the
first after an idle gap, which may be on the line when the gap is seen (R48). -/
def Line.holdsAfter (l : Line) (holds : List Nat) : List Nat := if l.rx.inProgress then holds else holds.drop 1

/-- The earliest moment of the last release that is not noise, after a run of holds (R45). -/
def Line.releasedAt (l : Line) (holds : List Nat) : Nat := l.gapFrom + markTime (l.holdsAfter holds)

/-- The earliest moment at which the line can become held after a run of holds, a hold on the line counting from its start
(R42). -/
def Line.heldAt (l : Line) (holds : List Nat) : Nat :=
  if holds.isEmpty then l.heldFrom else max (l.heldFrom + holds.sum) (l.gapFrom + (l.holdsAfter holds).sum)

/-- How long the line can have been held when a header mark begins: the marks just before it that were still held at the end
of their slots, which nothing checks in the header (R50), run on into it. -/
def heldThrough (holds : List Nat) : Nat := 30 * (holds.reverse.takeWhile (fun h => decide (30 < h))).length

/-- How long the line can have been held at a transmit abort (R51): since the start of the mark whose sample read held, since
the start of the slot at whose end the line was still held, or since the last release. A sample that read released shows the
line released at that moment. -/
def abortHeldBefore (c : AbortCause) : Option Nat :=
  match c with
  | .startHold held => some (if held ≤ 15 then 0 else 60)
  | .headerLong _ _ => some 0
  | .sample _ held => some (if held < 15 then 0 else 15)
  | .slotEnd _ _ => some 30
  | .foundHeld holds => holds.getLast?.map (fun h => 30 - h)

/-- The line has been held no longer than for a time before now, where that is known. -/
def Line.heldWithin (l : Line) (now : Nat) (time : Option Nat) : Nat :=
  match time with
  | some t => max l.heldFrom (now - t)
  | none => l.heldFrom

/-- What the receiver makes of a run of holds, when it can receive at all. -/
def State.hear (s : State) (holds : List Nat) : Option Heard :=
  if s.lineActive && s.line.listening then hearHolds s.line.rx holds else none

/-! ### The commands -/

/-- IDLE_GAP (R44): the released time of the line reaches 12 units in IDLE. A hold begun since the last release may be on the
line already (R48), and is classified at its release. -/
def execIdleGap (dt : Nat) (s : State) : Result :=
  let s := s.advance dt
  if s.lineActive && s.line.listening && s.line.rx.phase == .idle && decide (s.line.gapFrom + 12 * unit ≤ s.clock) then
    .next (s.setLine
      { s.line with rx := { s.line.rx with gapSeen := true }, gapFrom := s.clock
                    heldFrom := s.line.heldWithin s.clock (some (12 * unit)) })
  else .next s

/-- TRANSMIT_START (R48, R49): a WAITING station with an idle gap seen begins its start hold; the frame is chosen and
a status body assembled at this moment. -/
def execTransmitStart (dt : Nat) (s : State) : Result :=
  let s := s.advance dt
  if s.lineActive && s.line.listening && s.line.tx == .waiting && s.line.rx.phase == .idle && s.line.rx.gapSeen then
    match s.chooseFrame with
    | some f =>
        .next (s.setLine
          { s.line with tx := .arbitrating, txFrame := some f, urgentAgain := false, rx := Receiver.idle, heldFrom := s.clock })
    | none => .next s
  else .next s

/-- ARBITRATION_LOST (R50): the header marks before `mark` read back, and the next, sent short, reads held at the sample. The
receiver takes the frame over with the header digits read so far, the losing digit read as 0. The mark that lost began
1.5 units ago, and the line is held by it or by the marks before it that ran on into it. -/
def execArbitrationLost (dt : Nat) (mark : LostMark) (s : State) : Result :=
  let s := s.advance dt
  match s.line.txFrame with
  | some f =>
      if s.line.tx == .arbitrating && s.line.abortHold.isNone && lossArises f mark.holds mark.held then
        .next (s.setLine
          { s.line with tx := .waiting, txFrame := none, gapFrom := s.clock
                        heldFrom := s.line.heldWithin s.clock (some (15 + heldThrough mark.holds))
                        rx := { phase := if mark.holds.length + 1 < 12 then .header else .length, gapSeen := false
                                digits := f.headerDigits.take mark.holds.length ++ [false] } })
      else .next s
  | none => .next s

/-- TRANSMIT_ABORT (R51): what was read back disagrees with what was sent. The transmitter stops, holds the line for 6 units,
and the transmit-abort count rises. The frame stays pending. -/
def execTransmitAbort (dt : Nat) (cause : AbortCause) (s : State) : Result :=
  let s := s.advance dt
  match s.line.txFrame with
  | some f =>
      if abortArises f cause s.line.tx && s.line.abortHold.isNone then
        .next (s.setLine
          { s.line with abortHold := some (s.clock + 6 * unit), aborts := countUp s.line.aborts, txFrame := none
                        heldFrom := s.line.heldWithin s.clock (abortHeldBefore cause) })
      else .next s
  | none => .next s

/-- ABORT_HOLD_END (R51): the transmit state returns to WAITING, and the own driver releases the line, which another may
still hold. -/
def execAbortHoldEnd (dt : Nat) (s : State) : Result :=
  let s := s.advance dt
  if s.due s.line.abortHold then
    .next (s.setLine { s.line with abortHold := none, tx := .waiting, txFrame := none, rx := Receiver.idle, gapFrom := s.clock })
  else .next s

/-- TRANSMIT_COMPLETE (R52): the marks after the header, the 16th check mark the last, are held as `sent` says and read back
without disagreement. -/
def execTransmitComplete (sent : SentMarks) (s : State) : Result :=
  let s := s.advance sent.dt
  match s.line.txFrame with
  | some f =>
      if s.line.tx == .sending && s.line.abortHold.isNone && sent.holds.length == f.bodyDigits.length &&
          readBack markMatches f.bodyDigits sent.holds then
        .next (s.setLine ((s.line.frameSent s.clock).rest.toIdle s.clock))
      else .next s
  | none => .next s

/-- PUBLICATION_TIMER_EXPIRY (R53): the pending mark is set; the timer does not restart. -/
def execPublicationTimerExpiry (dt : Nat) (s : State) : Result :=
  let s := s.advance dt
  if s.due s.line.pubTimer then .next (s.setLine { s.line with pubTimer := none }.setPending) else .next s

/-- LAPSE (R45): after the holds, the line has been released for 4 units or more since the last release that was not noise,
while the frame in progress expects a mark; the released time still counts toward the next gap. -/
def execLapse (dt : Nat) (holds : List Nat) (s : State) : Result :=
  let s := s.advance dt
  match s.hear holds with
  | some (.waiting rx) =>
      if rx.inProgress && decide (s.line.releasedAt holds + 4 * unit ≤ s.clock) then
        .next (s.loseFrame.setLine { s.loseFrame.line with gapFrom := s.clock - 4 * unit })
      else .next s
  | _ => .next s

/-- FRAME_ABORTED (R45): the holds end in a break or a start hold inside a frame in progress. -/
def execFrameAborted (dt : Nat) (holds : List Nat) (s : State) : Result :=
  let s := s.advance dt
  match s.hear holds with
  | some .aborted => .next s.loseFrame
  | _ => .next s

/-- FRAME_REJECTED (R46): a completed frame fails its check, has an unknown kind, a bad source, or a command kind from
a source other than 63. -/
def execFrameRejected (dt : Nat) (cls : BitVec 2) (kind : BitVec 4) (source : BitVec 6) (body : List Octet) (check : BitVec 16)
    (s : State) : Result :=
  let s := s.advance dt
  let f : Frame := { cls := cls, kind := kind, source := source, body := body, check := check }
  if s.canHear f && f.rejected s.own then .next s.loseFrame else .next s

/-- FRAME_LENGTH_REJECTED (R44): the holds end in a 5th length digit that gives a length above 30. -/
def execFrameLengthRejected (dt : Nat) (holds : List Nat) (s : State) : Result :=
  let s := s.advance dt
  match s.hear holds with
  | some .badLength => .next s.loseFrame
  | _ => .next s

/-- FIRST_HOLD_WRONG_CLASS (R44): the first hold after an idle gap is short, long or a break; nothing is counted. -/
def execFirstHoldWrongClass (dt : Nat) (held : Nat) (s : State) : Result :=
  let s := s.advance dt
  match s.hear [held] with
  | some .wrongFirst => .next (s.setLine (s.line.toIdle s.clock))
  | _ => .next s

/-- ARBITRATION_WON (R50): the 12 header marks are held as `sent` says and read back without loss, the 12th released now. -/
def execArbitrationWon (sent : SentMarks) (s : State) : Result :=
  let s := s.advance sent.dt
  match s.line.txFrame with
  | some f =>
      if s.line.tx == .arbitrating && s.line.abortHold.isNone && sent.holds.length == 12 && readBack sampleMatches f.headerDigits sent.holds then
        .next (s.setLine { s.line with tx := .sending, heldFrom := s.clock })
      else .next s
  | none => .next s

/-- LINE_STUCK (R42): after the holds, the line has been held for 50 units, at the earliest since the line interface began
(R57) or the line can have become held. A frame in progress after the holds is counted (R45), a
transmission is aborted and counted (R51), LINE STUCK is raised, and the isolation condition becomes present (R70). -/
def execLineStuck (dt : Nat) (holds : List Nat) (o : Order) (s : State) : Result :=
  let s := s.advance dt
  if s.lineActive && !s.line.stuck && decide (s.line.heldAt holds + 50 * unit ≤ s.clock) then
    let receiving :=
      match s.hear holds with
      | some (.waiting rx) => rx.inProgress
      | _ => false
    let sending := (s.line.tx == .arbitrating || s.line.tx == .sending) && s.line.abortHold.isNone
    let l1 := if receiving then s.line.countRejected else s.line
    let l2 := if sending then { l1 with aborts := countUp l1.aborts } else l1
    let l3 := if l2.tx == .arbitrating || l2.tx == .sending then { l2 with tx := .waiting } else l2
    let s1 := (s.setLine { l3 with rx := Receiver.idle, stuck := true, txFrame := none, abortHold := none }).raiseFault .lineStuck 0
    .next ((if s.acting then s1.becomeIsolated else s1).settle s o.late)
  else .next s

/-- LINE_STUCK_END (R42): the line releases. -/
def execLineStuckEnd (dt : Nat) (s : State) : Result :=
  let s := s.advance dt
  if s.line.stuck then .next ((s.setLine ({ s.line with stuck := false }.toIdle s.clock)).endFault .lineStuck 0) else .next s

end Sys2Proof.Machine
end

