-- ==== Sys2Proof/Machine/Neighbours.lean ====
section
/-!
DEFINITION. The neighbour table (chapter 4) with the reception of a valid frame, and the learning of closures from
status frames (section 7.4).
-/
namespace Sys2Proof.Machine

/-! ### The reception of a frame (R44, R46, R47) -/

/-- A whole frame of another station reaches this receiver. A rejected frame is counted and dropped (R46, R47). A valid
one leaves the receiver in IDLE, counts against isolation and NEIGHBOUR LOST (R67, R70, R71), and is then delivered;
the readers that `o.early` names take the mode change before the delivery, the others after it (log 3). -/
def State.receive (s : State) (f : Frame) (o : Order) (deliver : State → State) : State :=
  if s.canHear f then
    if f.rejected s.own then s.loseFrame
    else
      let s1 := (s.setLine (s.line.toIdle s.clock)).noteArrival f.source.toNat
      (deliver (s1.serveSome s o.early)).settle s o.late
  else s

/-- The order of a command that names none: every reader once, after the owner. -/
def Order.plain : Order := { early := [], swapped := false, between := [], late := [] }

/-! ### The neighbour table (R62 to R66) -/

/-- An entry takes its place in the table, which is kept in rising order of station number, one entry for each (R63). -/
def putEntry (e : Neighbour) (l : List Neighbour) : List Neighbour :=
  match l with
  | [] => [e]
  | x :: xs =>
      if e.station < x.station then e :: x :: xs
      else if e.station = x.station then e :: xs
      else x :: putEntry e xs

/-- The entry that a record makes (R63, R64). -/
def State.entryOf (s : State) (station : Nat) (r : StatusRecord) : Neighbour :=
  { station := station, record := r, arrival := s.clock, state := .live, void := r.mode == .configFault }

/-- A record is stored when its source lies in the window (R62, R63). -/
def State.storeRecord (s : State) (station : Nat) (r : StatusRecord) : State :=
  if s.inWindow station then
    s.setNeighbours { s.neighbours with entries := putEntry (s.entryOf station r) s.neighbours.entries }
  else s

/-- The entry of a station, if the table holds one. -/
def State.neighbour (s : State) (station : Nat) : Option Neighbour :=
  s.neighbours.entries.find? (fun e => e.station == station)

/-- An entry becomes STALE; its record and its void mark stay (R65). -/
def State.makeStale (s : State) (station : Nat) : State :=
  s.setNeighbours
    { s.neighbours with entries := s.neighbours.entries.map (fun e => if e.station = station then { e with state := .stale } else e) }

/-- An entry leaves the table (R66). -/
def State.removeEntry (s : State) (station : Nat) : State :=
  s.setNeighbours { s.neighbours with entries := s.neighbours.entries.filter (fun e => e.station != station) }

/-! ### Learning and authoritative absence (R113 to R115) -/

/-- The entry held for an origin, with its position. -/
def State.holding (s : State) (origin : Nat) : Option (Pos × Closure) :=
  (s.positionOf origin).bind (fun p => (s.closures.get p).map (fun c => (p, c)))

/-- The entry that an own closure published by a station gives (R114); its origin is the frame's source. -/
def OwnClosure.learned (c : OwnClosure) (origin : Nat) : Closure :=
  { origin := origin, serial := c.serial, lanes := c.lanes, taper := c.taper, extent := c.extent, step := c.step, source := .learned }

/-- A published own closure that applies at the station (R114). -/
def State.learnClosure (s : State) (c : Closure) : State :=
  match s.holding c.origin with
  | none => s.insertClosure c
  | some (p, held) =>
      if held.serial = c.serial then
        if held = { c with source := held.source } then s else s.putClosure p (some { c with source := held.source })
      else s.putClosure p (some c)

/-- The authoritative absence of a closure at an origin removes a LEARNED entry (R115). -/
def State.absentClosure (s : State) (origin : Nat) : State :=
  match s.holding origin with
  | some (p, held) => if held.source = .learned then s.putClosure p none else s
  | none => s

/-- The closure table takes a record for learning and absence (R113 to R115). -/
def State.learn (s : State) (station : Nat) (r : StatusRecord) : State :=
  if r.mode = .running ∨ r.mode = .isolated then
    match r.ownClosure with
    | some c => if (c.learned station).applies s.own then s.learnClosure (c.learned station) else s.absentClosure station
    | none => s.absentClosure station
  else s

/-- A valid STATUS frame is delivered in a step that began in `before` (R61, R62, R73, R113): a readable record of a station
1 to 62 is stored or heard, and passed to the closure table, in either order (log 3). -/
def State.takeStatus (s before : State) (station : Nat) (body : List Octet) (o : Order) : State :=
  if s.acting && decide (station ≤ 62) then
    match readStatus body with
    | some r => s.inOrder before o (fun t => t.storeRecord station r) (fun t => t.learn station r)
    | none => s
  else s

/-! ### The commands -/

/-- STATUS_FRAME (R46, R62, R63, R70, R113). -/
def execStatusFrame (dt : Nat) (cls : BitVec 2) (source : BitVec 6) (body : List Octet) (o : Order) (s : State) : Result :=
  let s := s.advance dt
  .next (s.receive (Frame.checked cls kindStatus source body) o (fun t => t.takeStatus s source.toNat body o))

/-- REPORT_FRAME_HEARD (R46, R67, R70): a report is heard, and its body is not read. -/
def execReportFrameHeard (dt : Nat) (cls : BitVec 2) (source : BitVec 6) (body : List Octet) (s : State) : Result :=
  let s := s.advance dt
  .next (s.receive (Frame.checked cls kindReport source body) Order.plain (fun t => t))

/-- NEIGHBOUR_EXPIRY (R65): a LIVE entry becomes STALE at its arrival plus expiry count × P. -/
def execNeighbourExpiry (dt : Nat) (station : Nat) (s : State) : Result :=
  let s := s.advance dt
  match s.neighbour station with
  | some e => if s.acting && e.state == .live && decide (s.entryExpiry e ≤ s.clock) then .next (s.makeStale station) else .next s
  | none => .next s

/-- NEIGHBOUR_REMOVAL (R66): the entry leaves the table and NEIGHBOUR LOST is raised. -/
def execNeighbourRemoval (dt : Nat) (station : Nat) (o : Order) (s : State) : Result :=
  let s := s.advance dt
  match s.neighbour station with
  | some e =>
      if s.acting && decide (s.entryRemoval e ≤ s.clock) then
        .next (((s.removeEntry station).raiseFault .neighbourLost station).settle s o.late)
      else .next s
  | none => .next s

/-- ISOLATION_TIMER_EXPIRY (R70, R71): the isolation condition becomes present. -/
def execIsolationTimerExpiry (dt : Nat) (o : Order) (s : State) : Result :=
  let s := s.advance dt
  if s.acting && s.due s.neighbours.isolationTimer then
    .next (((s.setNeighbours { s.neighbours with isolationTimer := none }).becomeIsolated).settle s o.late)
  else .next s

end Sys2Proof.Machine
end

