-- ==== Sys2Proof/Machine/Commands.lean ====
section
/-!
DEFINITION. The path of a command of the centre (sections 12.1 and 12.2): its frame, its addressing, the judgement of the
mode, and the last-command record.
-/
namespace Sys2Proof.Machine

/-- The source number of the gateway. -/
def gateway : BitVec 6 := 63

/-- The frame in which the gateway sends a command body (section 12.1). -/
def commandFrame (kind : CommandKind) (body : List Octet) : Frame :=
  Frame.checked classDirective (BitVec.ofNat 4 kind.code) gateway body

/-- A CLOSE-SET or CLOSE-CLEAR with a field that every station refuses (R110). -/
def originBad (origin : Nat) : Bool := decide (origin < 1 ∨ 62 < origin)

/-- A CLOSE-SET that every station refuses: its origin, its serial or its lane set (R110). -/
def closeSetBad (origin serial : Nat) (lanes : BitVec 5) : Bool := originBad origin || serial == 0 || lanes == 0

/-- The entry that a CLOSE-SET carries, its fields clamped (R111). -/
def closeSetEntry (origin serial : Nat) (lanes : BitVec 5) (taper extent step : Nat) : Closure :=
  { origin := origin, serial := serial, lanes := lanes, taper := clampTaper taper, extent := clampExtent extent
    step := clampStep step, source := .command }

/-- The command addresses the station (R110, R175). -/
def State.addresses (s : State) (c : Command) : Bool :=
  match c with
  | .closeSet origin serial lanes taper extent step =>
      closeSetBad origin serial lanes || (closeSetEntry origin serial lanes taper extent step).applies s.own ||
        (s.positionOf origin).isSome
  | .closeClear origin _ =>
      originBad origin || decide (s.own ≤ origin + 3 ∧ origin ≤ s.own + 4) || (s.positionOf origin).isSome
  | .shoulder low high _ => decide (low ≤ s.own ∧ s.own ≤ high)
  | .override low high _ _ _ => decide (low ≤ s.own ∧ s.own ≤ high)
  | .faultAck station _ _ => station == s.own
  | .request station _ _ _ => station == s.own

/-- The last-command record is replaced (R176). -/
def State.record (s : State) (kind : CommandKind) (result : ResultCode) : State :=
  s.setStation { s.station with lastCommand := some { kind := kind, result := result } }

/-- A readable command is judged for addressing and for mode, and handed to its owner, whose result is recorded (R175,
R176). In CONFIG_FAULT a command that is not allowed there is refused. -/
def State.obey (s : State) (c : Command) (inFault : Bool) (owner : State → State × ResultCode) : State :=
  if s.addresses c then
    if s.acting || inFault then (owner s).1.record c.kind (owner s).2 else s.record c.kind .refusedState
  else s

/-- A command of the gateway arrives in a valid frame and is obeyed (R46, R175). -/
def State.command (s : State) (c : Command) (body : List Octet) (o : Order) (inFault : Bool)
    (owner : State → State × ResultCode) : State :=
  s.receive (commandFrame c.kind body) o (fun t => t.obey c inFault owner)

end Sys2Proof.Machine
end

