-- ==== Sys2Proof/Machine/Centre.lean ====
section
/-!
DEFINITION. The commands that station control, the fault list and the trace buffer own (sections 12.4 and 12.5, R17),
and the commands that no owner takes.
-/
namespace Sys2Proof.Machine

/-! ### Acknowledgement (R179) -/

/-- A FAULT-ACK of a key (R179). -/
def State.acknowledgeKey (s : State) (code unit : Nat) : State × ResultCode :=
  match faultKindOf code with
  | some k => (s.setFaults (s.faults.acknowledge (fun e => e.hasKey k unit)), .accepted)
  | none => (s, .refusedRange)

/-- A FAULT-ACK of ALL (R179). -/
def State.acknowledgeAll (s : State) : State × ResultCode := (s.setFaults (s.faults.acknowledge (fun _ => true)), .accepted)

/-! ### Requests (R17, R180 to R182) -/

/-- The frames that a FAULTS report needs (R180). -/
def State.faultFrames (s : State) : Nat := max 1 ((s.faults.entries.length + 3) / 4)

/-- One frame of a FAULTS report, numbered from 1 (R181, Table 13-5). -/
def State.faultsBody (s : State) (number : Nat) : List Octet :=
  [reportHead .faults (number == s.faultFrames) number,
   BitVec.ofNat 8 (s.mode.code * 32 + s.faults.entries.length),
   BitVec.ofNat 8 (s.faults.overflow.toNat * 128 + s.faults.entries.countP (·.active)),
   BitVec.ofNat 8 s.line.rejected, BitVec.ofNat 8 s.line.aborts,
   lastCommandOctet (s.station.lastCommand.map (·.kind)) (s.station.lastCommand.map (·.result))] ++
    ((s.faults.entries.drop (4 * (number - 1))).take 4).flatMap FaultEntry.octets

/-- The FAULTS report: a snapshot at the acceptance (R181). -/
def State.faultsReport (s : State) : List (List Octet) := (List.range s.faultFrames).map (fun i => s.faultsBody (i + 1))

/-- A lane record with every result absent, the EMPTY mark clear with them as in Table 2-3 (DEDUCED, log 23). The merged
mark and n_long are no results (R33) and stay. -/
def LaneRecord.withoutResults (r : LaneRecord) : LaneRecord :=
  { r with q := none, o := none, v := none, empty := false, s := none, os := none }

/-- A lane record as the LANES report carries it (R182): a station in WARMING that has made no station evaluation reports
every result absent. -/
def State.reportedRecord (s : State) (k : Lane) : LaneRecord :=
  if s.mode = .warming ∧ s.station.firstEvaluation = false then (s.records.get k).withoutResults else s.records.get k

/-- The LANES report, one frame (R182, Table 13-6). -/
def State.lanesReport (s : State) : List Octet :=
  reportHead .lanes true 1 ::
    packDigits (digitsOf 2 (s.cfg.laneCount - 2) ++
      s.laneList.flatMap (fun k => laneDigits (s.detector.lanes.get k).mode (s.reportedRecord k)))

/-- A report enters the reply queue whole, or the request is BUSY (R180). -/
def State.answer (s : State) (bodies : List (List Octet)) : State × ResultCode :=
  if s.freePlaces < bodies.length then (s, .busy) else (s.enqueue bodies, .accepted)

/-- A REQUEST for TRACE, judged by the trace buffer (R17). -/
def State.startTrace (s : State) (lane count : Nat) : State × ResultCode :=
  if lane < 1 ∨ s.cfg.laneCount < lane ∨ count < 1 ∨ 32 < count then (s, .refusedRange)
  else if s.trace.state = .idle then
    (s.setTrace { Trace.reset with state := .capturing, lane := lane, requested := count }, .accepted)
  else (s, .busy)

/-! ### The commands -/

/-- FAULT_ACK (R179): a kind code other than 0, which stands for ALL. -/
def execFaultAck (dt : Nat) (station kind unit : Octet) (s : State) : Result :=
  let s := s.advance dt
  if kind = 0 then .next s
  else
    .next (s.command (.faultAck station.toNat kind.toNat unit.toNat) [station, kind, unit] Order.plain false
      (fun t => t.acknowledgeKey kind.toNat unit.toNat))

/-- FAULT_ACK_ALL (R179); the unit octet is ignored (Table 13-4). -/
def execFaultAckAll (dt : Nat) (station unit : Octet) (s : State) : Result :=
  let s := s.advance dt
  .next (s.command (.faultAck station.toNat 0 unit.toNat) [station, 0, unit] Order.plain false State.acknowledgeAll)

/-- REQUEST_FAULTS (R180, R181): taken in CONFIG_FAULT as well. -/
def execRequestFaults (dt : Nat) (station lane count : Octet) (s : State) : Result :=
  let s := s.advance dt
  .next (s.command (.request station.toNat 1 lane.toNat count.toNat) [station, 1, lane, count] Order.plain true
    (fun t => t.answer t.faultsReport))

/-- REQUEST_LANES (R180, R182). -/
def execRequestLanes (dt : Nat) (station lane count : Octet) (s : State) : Result :=
  let s := s.advance dt
  .next (s.command (.request station.toNat 2 lane.toNat count.toNat) [station, 2, lane, count] Order.plain false
    (fun t => t.answer [t.lanesReport]))

/-- REQUEST_TRACE (R17, R180). -/
def execRequestTrace (dt : Nat) (station lane count : Octet) (s : State) : Result :=
  let s := s.advance dt
  .next (s.command (.request station.toNat 3 lane.toNat count.toNat) [station, 3, lane, count] Order.plain false
    (fun t => t.startTrace lane.toNat count.toNat))

/-- REQUEST_OTHER_TYPE (R180): a request type that is none of the three. -/
def execRequestOtherType (dt : Nat) (station type lane count : Octet) (s : State) : Result :=
  let s := s.advance dt
  if type = 1 ∨ type = 2 ∨ type = 3 then .next s
  else
    .next (s.command (.request station.toNat type.toNat lane.toNat count.toNat) [station, type, lane, count] Order.plain false
      (fun t => (t, .refusedRange)))

/-- COMMAND_NOT_ADDRESSED (R175): a command whose body is unreadable, or which does not address the station, is heard
and discarded. -/
def execCommandNotAddressed (dt : Nat) (kind : BitVec 4) (body : List Octet) (s : State) : Result :=
  let s := s.advance dt
  match commandKindOf kind.toNat with
  | some k =>
      match readCommand k body with
      | some c => if s.addresses c then .next s else .next (s.receive (commandFrame k body) Order.plain (fun t => t))
      | none => .next (s.receive (commandFrame k body) Order.plain (fun t => t))
  | none => .next s

end Sys2Proof.Machine
end

