-- ==== Sys2Proof/Machine/ClosureTable.lean ====
section
/-!
DEFINITION. The closure commands (section 7.3).
-/
namespace Sys2Proof.Machine

/-- What the closure table does with a CLOSE-SET that addresses the station (R110, R111). -/
def State.closeSet (s : State) (c : Closure) : State × ResultCode :=
  if closeSetBad c.origin c.serial c.lanes then (s, .refusedRange)
  else
    match s.holding c.origin with
    | none => (s.insertClosure c, .accepted)
    | some (p, _) => (s.putClosure p (if c.applies s.own then some c else none), .accepted)

/-- What the closure table does with a CLOSE-CLEAR that addresses the station (R110, R112). -/
def State.closeClear (s : State) (origin serial : Nat) : State × ResultCode :=
  if originBad origin then (s, .refusedRange)
  else
    match s.holding origin with
    | none => (s, .accepted)
    | some (p, held) => if held.serial = serial then (s.putClosure p none, .accepted) else (s, .refusedSerial)

/-! ### The commands -/

/-- CLOSE_SET (R110, R111). -/
def execCloseSet (dt : Nat) (origin serial lanes taper extent step : Octet) (o : Order) (s : State) : Result :=
  let s := s.advance dt
  .next (s.command (.closeSet origin.toNat serial.toNat (closedLanes lanes) taper.toNat extent.toNat step.toNat)
    [origin, serial, lanes, taper, extent, step] o false
    (fun t => t.closeSet (closeSetEntry origin.toNat serial.toNat (closedLanes lanes) taper.toNat extent.toNat step.toNat)))

/-- CLOSE_CLEAR (R110, R112). -/
def execCloseClear (dt : Nat) (origin serial : Octet) (o : Order) (s : State) : Result :=
  let s := s.advance dt
  .next (s.command (.closeClear origin.toNat serial.toNat) [origin, serial] o false
    (fun t => t.closeClear origin.toNat serial.toNat))

end Sys2Proof.Machine
end

