-- ==== Sys2Proof/Machine/Detectors.lean ====
section
/-!
DEFINITION. The detector unit and the vehicle trace (chapter 1): loop presences, pending arrivals, vehicle
completion, lane measurement modes, the interval end, and the trace's report frames.
-/
namespace Sys2Proof.Machine

/-! ### Vehicle completion (R12 to R14, R21) -/

/-- A vehicle record is finished at once without a speed (R12, R13); its completion time is the present time (R14). -/
def State.finishUnmeasured (s : State) (k : Lane) (onA : Nat) (reason : UnmeasuredReason) : State :=
  s.finishRecord { lane := k, seconds := s.seconds, tick := s.tick, onA := onA, result := .unmeasured reason }

/-- A VEHICLE request is offered: taken when fewer than 7 are held, else the record is finished with reason LOAD
(R12, R21). -/
def State.offerVehicle (s : State) (r : VehicleRequest) : State :=
  if vehicleCount s.requests < 7 then s.setRequests (s.requests ++ [.vehicle r])
  else s.finishUnmeasured r.lane r.onA .load

/-- The vehicle of a list entry completes and adds to the sums by its outcome (R12). -/
def State.completeVehicle (s : State) (k : Lane) (a : Arrival) : State :=
  let onA := (a.off.getD s.tick - a.on).toNat
  let x := (s.detector.lanes.get k).sums
  match a.bOn with
  | none => (s.setSums k { x with n := x.n + 1 }).finishUnmeasured k onA .notPaired
  | some b =>
      let t := (b - a.on).toNat
      if t = 0 then
        (s.setSums k { x with n := x.n + 1, implausible := min (x.implausible + 1) 255 }).finishUnmeasured k onA .implausible
      else
        let c := s.cfg.lanes.get k
        (s.setSums k { x with n := x.n + 1, m := x.m + 1, sumT := x.sumT + t }).offerVehicle
          { lane := k, spacing := c.spacing, transit := t, onA := onA, loopLength := c.loopLength
            longThreshold := c.longThreshold, seconds := s.seconds, tick := s.tick }

/-- A single-loop vehicle completes at the release of the counting loop (R13). -/
def State.completeSingle (s : State) (k : Lane) (a : Arrival) : State :=
  let x := (s.detector.lanes.get k).sums
  (s.setSums k { x with n := x.n + 1 }).finishUnmeasured k (a.off.getD s.tick - a.on).toNat .singleLoop

/-! ### The pending-arrival list (R9 to R12) -/

/-- An entry completes when its A-off time is known and it is paired or resolved (R12). -/
def Arrival.complete (a : Arrival) : Bool := a.off.isSome && (a.bOn.isSome || a.resolved)

/-- One lane's pending-arrival list is replaced. -/
def State.setArrivals (s : State) (k : Lane) (l : List Arrival) : State :=
  s.setLane k { s.detector.lanes.get k with arrivals := l }

/-- Every entry that completes leaves the list, oldest first (R12). -/
def State.drainArrivals (s : State) (k : Lane) : State :=
  let l := (s.detector.lanes.get k).arrivals
  (l.filter Arrival.complete).foldl (fun t a => t.completeVehicle k a)
    (s.setArrivals k (l.filter (fun a => !a.complete)))

/-- The oldest entry is resolved as unpaired (R9). -/
def resolveOldest (l : List Arrival) : List Arrival :=
  match l with
  | [] => []
  | a :: as => { a with resolved := true } :: as

/-- A new arrival (R9, R13). -/
def Arrival.start (on : Tick) : Arrival := { on := on, off := none, bOn := none, resolved := false }

/-- A qualified on edge of loop A in DUAL appends an entry, the oldest of four being resolved first (R9). -/
def State.appendArrival (s : State) (k : Lane) (on : Tick) : State :=
  let s1 :=
    if 4 ≤ (s.detector.lanes.get k).arrivals.length then
      (s.setArrivals k (resolveOldest (s.detector.lanes.get k).arrivals)).drainArrivals k
    else s
  s1.setArrivals k ((s1.detector.lanes.get k).arrivals ++ [Arrival.start on])

/-- A qualified on edge of loop B is offered to the oldest entry that is neither paired nor resolved (R10). -/
def offerEdge (tmax : Nat) (t : Tick) (l : List Arrival) : List Arrival :=
  match l with
  | [] => []
  | a :: as =>
      if a.bOn.isNone && !a.resolved then
        if precedes t a.on then a :: as
        else if (t - a.on).toNat ≤ tmax then { a with bOn := some t } :: as
        else { a with resolved := true } :: offerEdge tmax t as
      else a :: offerEdge tmax t as

/-- A release of loop A sets the A-off time of the newest entry if it has none (R9). -/
def setOff (t : Tick) (l : List Arrival) : List Arrival :=
  match l with
  | [] => []
  | [a] => [if a.off.isNone then { a with off := some t } else a]
  | a :: as => a :: setOff t as

/-- The oldest entry that is neither paired nor resolved is resolved when its deadline has come (R11). -/
def State.resolveDue (s : State) (k : Lane) (l : List Arrival) : List Arrival :=
  match l with
  | [] => []
  | a :: as =>
      if a.bOn.isNone && !a.resolved then
        if s.reached (s.pairingDeadline k a) then { a with resolved := true } :: as else a :: as
      else a :: s.resolveDue k as

/-! ### Loops, edges and modes (R3 to R8, R13, R15) -/

/-- One loop's record is replaced. -/
def State.setLoop (s : State) (l : Loop) (r : LoopRecord) : State :=
  s.setLane l.lane ((s.detector.lanes.get l.lane).setLoop l.side r)

/-- One loop's record. -/
def State.loop (s : State) (l : Loop) : LoopRecord := (s.detector.lanes.get l.lane).loop l.side

/-- The loop is held in a qualified presence. -/
def LoopRecord.held (r : LoopRecord) : Bool :=
  match r.presence with
  | some p => p.qualified
  | none => false

/-- The held time of the counting loop up to a moment is added to ΣOn, and the mark takes a new value (R15). -/
def LaneDetector.addOccupancy (d : LaneDetector) (upTo : Tick) (mark : Option Tick) : LaneDetector :=
  match d.mark with
  | some m => { d with sums := { d.sums with sumOn := d.sums.sumOn + heldTicks m upTo }, mark := mark }
  | none => { d with mark := mark }

/-- The entry in progress that a mode change keeps; on a change to DUAL at or after its deadline it is resolved (R8). -/
def State.keptArrivals (s : State) (k : Lane) (old new : MeasureMode) (l : List Arrival) : List Arrival :=
  let open_ := l.filter (fun a => a.off.isNone)
  match old, new with
  | .dual, .singleA => open_
  | .singleA, .dual =>
      open_.map (fun a =>
        if a.bOn.isNone && !a.resolved && s.reached (s.pairingDeadline k a) then { a with resolved := true } else a)
  | _, _ => []

/-- The lane measurement mode is recomputed (R7), and a change settles the list and the occupancy at that moment (R8),
zeroes the slow-vehicle run (R99) and, to NONE on lane 1, aborts the opening check (R127). -/
def State.settleMode (s : State) (k : Lane) (moment : Tick) : State :=
  let d := s.detector.lanes.get k
  let new := modeOfLoops (s.cfg.lanes.get k).loopB d
  if new = d.mode then s
  else
    let d1 :=
      if new.counting = d.mode.counting then d
      else
        d.addOccupancy moment
          (match new.counting with
           | some side => if (d.loop side).held then some moment else none
           | none => none)
    let s1 :=
      (s.setLane k
        { d1 with mode := new, measured := d1.measured || new != .none
                  arrivals := s.keptArrivals k d.mode new d.arrivals }).setRun k 0
    let s2 := (d.arrivals.filter (fun a => a.off.isSome)).foldl (fun t a => t.completeVehicle k a) s1
    if k = .l1 ∧ new = .none then s2.abortCheck else s2

/-- A qualified on edge of an OK loop acts by the lane's mode (R9, R10, R13, R15); one of lane 1 is reported to the
shoulder controller (R3, R127). The mark of a loop that became the counting loop between its raw on time and this moment is
set at the raw on time, as R15 says, and not at the change, so that ticks before the change may count for both loops and ΣOn
may exceed C, which R16, R29 and R31 exclude: DESIGN CHOICE, log 26. -/
def State.takeOnEdge (s : State) (l : Loop) (on : Tick) : State :=
  let d := s.detector.lanes.get l.lane
  let s1 :=
    if d.mode.counting = some l.side then
      s.setLane l.lane { d with mark := some (if precedes on s.detector.intervalStart then s.detector.intervalStart else on) }
    else s
  let s2 := if l.lane = .l1 then s1.abortCheck else s1
  match d.mode, l.side with
  | .dual, .a => s2.appendArrival l.lane on
  | .dual, .b => (s2.setArrivals l.lane (offerEdge (s.tmax l.lane) on d.arrivals)).drainArrivals l.lane
  | .singleA, .a => s2.setArrivals l.lane [Arrival.start on]
  | .singleB, .b => s2.setArrivals l.lane [Arrival.start on]
  | _, _ => s2

/-- A presence is qualified (R3): its presence timeout runs from its raw on time in any loop state (R4), and the edge
acts when the loop is OK (R5). -/
def State.qualify (s : State) (l : Loop) (p : Presence) : State :=
  let s1 := s.setLoop l { s.loop l with presence := some { p with qualified := true, timing := true } }
  if (s.loop l).status = .ok then s1.takeOnEdge l p.on else s1

/-- The presence of a loop is qualified, after that of the lane's other loop when its edge comes first and its moment has
come too: the edges of a lane are taken in the order of their raw on times (R3). -/
def State.qualifyInOrder (s : State) (l : Loop) (p : Presence) : State :=
  let m := otherLoop l
  match (s.loop m).presence with
  | some q =>
      if s.loopConfigured m && !q.qualified && s.lasted q && edgeFirst m.side q.on p.on then (s.qualify m q).qualify l p
      else s.qualify l p
  | none => s.qualify l p

/-- The release of the counting loop completes the entry of a single-loop mode; an entry paired in DUAL completes as
a paired vehicle in SINGLE_A (R8, R13). -/
def State.releaseSingle (s : State) (k : Lane) (pairedCounts : Bool) : State :=
  match (s.detector.lanes.get k).arrivals with
  | [] => s
  | a :: _ =>
      let s1 := s.setArrivals k []
      let a1 := { a with off := some s.tick }
      if pairedCounts && a.bOn.isSome then s1.completeVehicle k a1 else s1.completeSingle k a1

/-- A release edge of an OK loop (R9, R13, R15). -/
def State.takeRelease (s : State) (l : Loop) : State :=
  let d := s.detector.lanes.get l.lane
  let s1 := if d.mode.counting = some l.side then s.setLane l.lane (d.addOccupancy s.tick none) else s
  match d.mode, l.side with
  | .dual, .a => (s1.setArrivals l.lane (setOff s.tick d.arrivals)).drainArrivals l.lane
  | .singleA, .a => s1.releaseSingle l.lane true
  | .singleB, .b => s1.releaseSingle l.lane false
  | _, _ => s1

/-- The release of a qualified presence (R3 to R5): used on an OK loop, ignored in CHATTER, and the end of STUCK. -/
def State.releaseQualified (s : State) (l : Loop) : State :=
  let r := s.loop l
  let s1 := s.setLoop l { r with presence := none }
  match r.status with
  | .ok => s1.takeRelease l
  | .chatter => s1
  | .stuck =>
      ((s1.setLoop l { r with presence := none, status := .ok }).endFault .loopStuck (loopNumber l)).settleMode l.lane s.tick

/-- A presence shorter than the glitch minimum is a glitch; the count saturates at 255 (R3). -/
def State.glitch (s : State) (l : Loop) : State :=
  let r := s.loop l
  s.setLoop l { r with presence := none, glitches := min (r.glitches + 1) 255 }

/-- The level of a loop input changes. -/
def State.setInput (s : State) (l : Loop) (level : Bool) : State :=
  let i := s.inputs.get l.lane
  s.setInputs (s.inputs.set l.lane
    (match l.side with
     | .a => { i with a := level }
     | .b => { i with b := level }))

/-! ### The start of the detector unit (R2, R7) -/

/-- A loop at the start: an input that is present is held from the start tick, as a qualified presence. -/
def State.startLoop (s : State) (l : Loop) : LoopRecord :=
  { LoopRecord.reset with
    presence := if s.loopConfigured l && s.input l then some { on := s.tick, qualified := true, timing := true } else none }

/-- A lane at the start. -/
def State.startLane (s : State) (k : Lane) : LaneDetector :=
  let d := { LaneDetector.reset with a := s.startLoop { lane := k, side := .a }, b := s.startLoop { lane := k, side := .b } }
  if k.num ≤ s.cfg.laneCount then
    let m := modeOfLoops (s.cfg.lanes.get k).loopB d
    { d with mode := m, measured := m != .none
             mark := match m.counting with
               | some side => if (d.loop side).held then some s.tick else none
               | none => none }
  else d

/-- The detector unit starts (R2). -/
def State.startDetector (s : State) : State :=
  s.setDetector
    { lanes := Lanes.build s.startLane, intervalStart := s.tick, intervalEnd := some (s.tick + BitVec.ofNat 32 s.intervalTicks) }

/-! ### The interval end (R5, R16, R28, R29) -/

/-- Addition that saturates at the maximum of a snapshot's field (section 2.5). -/
def satAdd (a b : Nat) : Nat := min (a + b) 4294967295

/-- A merge into a waiting snapshot (R29). -/
def Snapshot.merge (x y : Snapshot) : Snapshot :=
  { n := satAdd x.n y.n, m := satAdd x.m y.m, sumT := satAdd x.sumT y.sumT, sumOn := satAdd x.sumOn y.sumOn
    nLong := satAdd x.nLong y.nLong, covered := satAdd x.covered y.covered, measured := x.measured || y.measured
    merges := satAdd x.merges 1 }

/-- A lane's handed sums make a new INTERVAL request or merge into the one it has (R28). -/
def handTo (q : List Request) (k : Lane) (snap : Snapshot) : List Request :=
  if q.any (Request.isIntervalOf k) then
    q.map (fun r =>
      match r with
      | .interval j x => if j = k then .interval j (x.merge snap) else r
      | .vehicle _ => r)
  else q ++ [.interval k snap]

/-- The snapshot of a lane's closing sums (R16, R28). -/
def State.handed (s : State) (k : Lane) : Snapshot :=
  let d := s.detector.lanes.get k
  { n := satAdd d.sums.n 0, m := satAdd d.sums.m 0, sumT := satAdd d.sums.sumT 0, sumOn := satAdd d.sums.sumOn 0
    nLong := satAdd d.sums.nLong 0, covered := satAdd s.intervalTicks 0, measured := d.measured, merges := 0 }

/-- The occupancy of a held counting loop up to the interval end counts in the closing sums; the mark moves to the
interval end (R15). -/
def LaneDetector.closeInterval (d : LaneDetector) (stop : Tick) : LaneDetector :=
  match d.mark with
  | some m => d.addOccupancy stop (some (if precedes m stop then stop else m))
  | none => d

/-- A loop is judged from its glitch count, which is then zeroed (R5, R6). -/
def State.judgeLoop (s : State) (l : Loop) : State :=
  let r := s.loop l
  let noisy := decide (s.cfg.chatterLimit < r.glitches)
  match r.status with
  | .ok =>
      if noisy then (s.setLoop l { r with status := .chatter, glitches := 0 }).raiseFault .loopChatter (loopNumber l)
      else s.setLoop l { r with glitches := 0 }
  | .chatter =>
      if noisy then s.setLoop l { r with glitches := 0 }
      else (s.setLoop l { r with status := .ok, glitches := 0 }).endFault .loopChatter (loopNumber l)
  | .stuck => s.setLoop l { r with glitches := 0 }

/-- The things of a list visited first in a given order, the others after them in their own (log 3). -/
def visitOrder {α : Type} [DecidableEq α] (given all : List α) : List α :=
  (given.filter (fun x => all.contains x)).eraseDups ++ all.filter (fun x => !given.contains x)

/-- The configured loops in ascending number. -/
def State.loopList (s : State) : List Loop :=
  (Lane.all.flatMap (fun k => [{ lane := k, side := .a }, { lane := k, side := .b }])).filter s.loopConfigured

/-- One interval end of the trace: the capture is cut short at the 15th (R18). -/
def Trace.countInterval (t : Trace) : Trace :=
  if t.state = .capturing then
    let t1 := { t with intervals := t.intervals + 1 }
    if t1.intervals = 15 then t1.drain true else t1
  else t

/-- PAIR IMPLAUSIBLE for a lane whose count is not 0 (R16). -/
def State.raiseImplausible (s : State) (k : Lane) : State :=
  if (s.detector.lanes.get k).sums.implausible = 0 then s else s.raiseFault .pairImplausible k.num

/-- The interval of every configured lane closes and the next opens (R16). -/
def State.closeInterval (s : State) (stop : Tick) (lanes : List Lane) (loops : List Loop) : State :=
  let s0 := s.setTrace s.trace.countInterval
  let s1 := s0.laneList.foldl (fun t k => t.setLane k ((t.detector.lanes.get k).closeInterval stop)) s0
  let s2 := s1.laneList.foldl (fun t k => t.setRequests (handTo t.requests k (t.handed k))) s1
  let s3 := (visitOrder lanes s2.laneList).foldl State.raiseImplausible s2
  let s4 := s3.laneList.foldl (fun t k => t.setSums k Sums.zero) s3
  let s5 := (visitOrder loops s4.loopList).foldl State.judgeLoop s4
  let s6 := s5.laneList.foldl (fun t k => t.settleMode k stop) s5
  let s7 := s6.laneList.foldl
    (fun t k => t.setLane k { t.detector.lanes.get k with measured := (t.detector.lanes.get k).mode != .none }) s6
  s7.setDetector { s7.detector with intervalStart := stop, intervalEnd := some (stop + BitVec.ofNat 32 s.intervalTicks) }

/-! ### The commands -/

/-- LOOP_PRESENCE_START (R2, R3): the input becomes present; on a configured loop its presence begins at the raw on
time, the present tick. -/
def execLoopPresenceStart (dt : Nat) (l : Loop) (s : State) : Result :=
  let s := s.advance dt
  if s.input l then .next s
  else
    let s1 := s.setInput l true
    if s.acting && s.loopConfigured l then
      .next (s1.setLoop l { s.loop l with presence := some { on := s.tick, qualified := false, timing := false } })
    else .next s1

/-- QUALIFIED_ON_EDGE (R3): the presence has stayed for G ticks. An edge of the lane's other loop that must reach the list
first is taken first. -/
def execQualifiedOnEdge (dt : Nat) (l : Loop) (s : State) : Result :=
  let s := s.advance dt
  match (s.loop l).presence with
  | some p =>
      if s.acting && s.loopConfigured l && !p.qualified && s.lasted p then .next ((s.qualifyInOrder l p).settle s []) else .next s
  | none => .next s

/-- RELEASE_EDGE (R3): the input releases. A presence that has lasted G ticks without its qualification having been
taken is qualified first. -/
def execReleaseEdge (dt : Nat) (l : Loop) (s : State) : Result :=
  let s := s.advance dt
  if s.input l then
    let s1 := s.setInput l false
    if s.acting && s.loopConfigured l then
      match (s.loop l).presence with
      | some p =>
          if p.qualified then .next ((s1.releaseQualified l).settle s [])
          else if s.lasted p then .next (((s1.qualifyInOrder l p).releaseQualified l).settle s [])
          else .next (s1.glitch l)
      | none => .next s1
    else .next s1
  else .next s

/-- PRESENCE_TIMEOUT (R4): the loop becomes STUCK, its occupancy is cut off at the expiry, LOOP STUCK is raised, and a
loop that was CHATTER leaves it (R6). -/
def execPresenceTimeout (dt : Nat) (l : Loop) (endFirst : Bool) (s : State) : Result :=
  let s := s.advance dt
  let r := s.loop l
  match r.presence with
  | some p =>
      let moment := s.timeoutTick p
      if s.acting && s.loopConfigured l && p.qualified && p.timing && s.reached moment then
        let s1 := s.setLoop l { r with status := .stuck, presence := some { p with timing := false } }
        let d := s1.detector.lanes.get l.lane
        let s2 := if d.mode.counting = some l.side then s1.setLane l.lane (d.addOccupancy moment none) else s1
        let s3 :=
          match r.status with
          | .ok => s2.raiseFault .loopStuck (loopNumber l)
          | .chatter => s2.exchangeFaults endFirst .loopStuck .loopChatter (loopNumber l)
          | .stuck => s2
        .next ((s3.settleMode l.lane moment).settle s [])
      else .next s
  | none => .next s

/-- PAIRING_DEADLINE (R11): the oldest entry that is neither paired nor resolved is resolved and tested for
completion. -/
def execPairingDeadline (dt : Nat) (k : Lane) (s : State) : Result :=
  let s := s.advance dt
  let d := s.detector.lanes.get k
  if s.acting && d.mode == .dual then
    .next ((s.setArrivals k (s.resolveDue k d.arrivals)).drainArrivals k)
  else .next s

/-- INTERVAL_END (R16). -/
def execIntervalEnd (dt : Nat) (lanes : List Lane) (loops : List Loop) (s : State) : Result :=
  let s := s.advance dt
  match s.detector.intervalEnd with
  | some stop =>
      if s.acting && s.reached stop then .next ((s.closeInterval stop lanes loops).settle s []) else .next s
  | none => .next s

/-- TRACE_FRAME_PLACED (R18): a draining trace places its next report frame when a place is free. -/
def execTraceFramePlaced (dt : Nat) (s : State) : Result :=
  let s := s.advance dt
  let t := s.trace
  if s.acting && t.state == .draining && decide (0 < s.freePlaces) then
    let rest := t.records.drop 4
    let number := t.framesSent + 1
    let body := traceBody t.lane t.cutShort rest.isEmpty number (t.records.take 4)
    .next ((s.setTrace
      { t with records := rest, framesSent := number, state := if rest.isEmpty then .idle else .draining }).enqueue [body])
  else .next s

end Sys2Proof.Machine
end

