-- ==== Sys2Proof/Machine/ShoulderControl.lean ====
section
/-!
DEFINITION. The shoulder commands and timers (chapter 8).
-/
namespace Sys2Proof.Machine

/-- A condition of R126 refuses an opening from CLOSED or CLOSING. -/
def State.openingRefused (s : State) : Bool :=
  s.mode != .running || s.laneNamed .l1 || (s.signs.lanes.get .l1).state == .failed ||
    (s.signs.lanes.get .l1).state == .mismatch || (s.detector.lanes.get .l1).mode == .none

/-- The opening check begins (R126). -/
def State.startCheck (s : State) : State :=
  s.moveShoulder { state := .checking, checkTimer := some (s.clock + s.cfg.checkTime * second), clearanceTimer := s.shoulder.clearanceTimer }

/-- The shoulder opens (R126, R128); both timers stand still. -/
def State.openShoulder (s : State) : State := s.moveShoulder { state := .opened, checkTimer := none, clearanceTimer := none }

/-- The shoulder closes without a fault (Table 8-2, R129); both timers stand still. -/
def State.closeShoulder (s : State) : State := s.moveShoulder { state := .closed, checkTimer := none, clearanceTimer := none }

/-- What the shoulder controller does with an OPEN (R125, R126). -/
def State.takeOpen (s : State) : State × ResultCode :=
  if !s.cfg.shoulderLane then (s, .refusedConfig)
  else
    match s.shoulder.state with
    | .closed => if s.openingRefused then (s, .refusedState) else (s.startCheck, .accepted)
    | .checking => (s, .accepted)
    | .opened => (s, .accepted)
    | .closing => if s.openingRefused then (s, .refusedState) else (s.openShoulder, .accepted)

/-- What the shoulder controller does with a CLOSE (R125). -/
def State.takeClose (s : State) : State × ResultCode :=
  if !s.cfg.shoulderLane then (s, .refusedConfig)
  else
    match s.shoulder.state with
    | .closed => (s, .accepted)
    | .checking => (s.closeShoulder, .accepted)
    | .opened => (s.startClosing, .accepted)
    | .closing => (s, .accepted)

/-- What the shoulder controller does with another action (R125). -/
def State.takeOtherAction (s : State) : State × ResultCode :=
  if !s.cfg.shoulderLane then (s, .refusedConfig) else (s, .refusedRange)

/-! ### The commands -/

/-- SHOULDER_OPEN (R125, R126). -/
def execShoulderOpen (dt : Nat) (low high : Octet) (o : Order) (s : State) : Result :=
  let s := s.advance dt
  .next (s.command (.shoulder low.toNat high.toNat 1) [low, high, 1] o false State.takeOpen)

/-- SHOULDER_CLOSE (R125). -/
def execShoulderClose (dt : Nat) (low high : Octet) (o : Order) (s : State) : Result :=
  let s := s.advance dt
  .next (s.command (.shoulder low.toNat high.toNat 2) [low, high, 2] o false State.takeClose)

/-- SHOULDER_OTHER_ACTION (R125): an action that is neither OPEN nor CLOSE. -/
def execShoulderOtherAction (dt : Nat) (low high action : Octet) (s : State) : Result :=
  let s := s.advance dt
  if action = 1 ∨ action = 2 then .next s
  else
    .next (s.command (.shoulder low.toNat high.toNat action.toNat) [low, high, action] Order.plain false State.takeOtherAction)

/-- CHECK_TIMER_EXPIRY (R128). -/
def execCheckTimerExpiry (dt : Nat) (s : State) : Result :=
  let s := s.advance dt
  if s.acting && s.shoulder.state == .checking && s.due s.shoulder.checkTimer then .next (s.openShoulder.settle s [])
  else .next s

/-- CLEARANCE_TIMER_EXPIRY (R129). -/
def execClearanceTimerExpiry (dt : Nat) (s : State) : Result :=
  let s := s.advance dt
  if s.acting && s.shoulder.state == .closing && s.due s.shoulder.clearanceTimer then .next (s.closeShoulder.settle s [])
  else .next s

end Sys2Proof.Machine
end

