-- ==== Sys2Proof/Machine/SignChannels.lean ====
section
/-!
DEFINITION. The sign channels (chapter 10): identification, proving, retry and restart notices.
-/
namespace Sys2Proof.Machine

/-- The message passes its sign line check (R150, section 13.5). -/
def signCheck (type : Octet) (content : List Octet) (check : BitVec 16) : Bool := check == checkOctets (type :: content)

/-- The failure reason of the fault that a channel holds ends, with a further fault raised at the same moment (R155). -/
def State.clearReason (s : State) (c : Chan) (raised : Option FaultKind) (endFirst : Bool) : State :=
  match (s.signs.get c).reason, raised with
  | some r, some k => s.exchangeFaults endFirst k r.fault c.num
  | some r, none => s.endFault r.fault c.num
  | none, some k => s.raiseFault k c.num
  | none, none => s

/-- A channel becomes SHOWING BLANK at its identification (R152). -/
def State.identify (s : State) (c : Chan) : State :=
  (s.setChannel c { s.signs.get c with state := .showing, identified := true, identifyBy := none }).send [s.blankMessage c]

/-- The identified mark is set (R154, R159). -/
def State.markIdentified (s : State) (c : Chan) : State := s.setChannel c { s.signs.get c with identified := true }

/-- An attempt that ends PROVED or PARTIAL leaves the channel SHOWING (R155). -/
def State.prove (s : State) (c : Chan) (raised : Option FaultKind) (endFirst : Bool) : State :=
  (s.clearReason c raised endFirst).setChannel c { s.signs.get c with state := .showing, reason := none, attempt := none }

/-- An attempt begins outside a commit, and may end a displacement (R158, R159, R161). -/
def State.retry (s : State) (c : Chan) : State := (s.beginAttempt c).noteDisplacement s.displacements

/-- A notice in SETTING sends the aspect again under a fresh proving set number; the deadline stays (R159). -/
def State.sendAgain (s : State) (c : Chan) : State :=
  let ch := s.signs.get c
  (s.setChannel c
    { ch with identified := true, nextSet := nextSetAfter ch.nextSet, attempt := ch.attempt.map (fun a => { a with set := ch.nextSet }) }).send
    [(c, s.aspectSet ch.nextSet (s.composer.active.part c))]

/-! ### The commands -/

/-- IDENTITY (R150, R152 to R154). -/
def execIdentity (dt : Nat) (c : Chan) (kind : Octet) (check : BitVec 16) (endFirst : Bool) (s : State) : Result :=
  let s := s.advance dt
  let ch := s.signs.get c
  if signCheck typeIdentity [kind] check && s.chanUsable c then
    if ch.state = .identifying then
      .next (if kind = expectedKind c then s.identify c else s.enterMismatch c endFirst)
    else if ch.state = .setting ∧ ch.identified = false then
      .next (if kind = expectedKind c then s.markIdentified c else (s.enterMismatch c endFirst).tryCommit)
    else .next s
  else .next s

/-- IDENTIFICATION_DEADLINE (R152): a silent module's channel is FAILED with NO RESPONSE. -/
def execIdentificationDeadline (dt : Nat) (c : Chan) (s : State) : Result :=
  let s := s.advance dt
  if s.chanUsable c && (s.signs.get c).state == .identifying && s.due (s.signs.get c).identifyBy then
    .next (s.enterFailed c .noResponse false)
  else .next s

/-- PROVING_REPORT (R150, R155): a report that counts ends the attempt by its result. One of an unidentified attempt is
discarded (R154); an attempt that a RESTART NOTICE has identified takes it, although no IDENTITY has come (DEDUCED, log
21). -/
def execProvingReport (dt : Nat) (c : Chan) (set result : Octet) (check : BitVec 16) (endFirst : Bool) (s : State) : Result :=
  let s := s.advance dt
  let ch := s.signs.get c
  if signCheck typeProvingReport [set, result] check && s.chanUsable c && ch.state == .setting && ch.identified &&
      ch.attempt.map (·.set) == some set.toNat then
    match provingResultOf result with
    | some .proved => .next (s.prove c none endFirst).tryCommit
    | some .reduced => .next (s.prove c (some .signDegraded) endFirst).tryCommit
    | some .failed => .next (s.enterFailed c .failed endFirst).tryCommit
    | none => .next s
  else .next s

/-- PROVING_DEADLINE (R156). -/
def execProvingDeadline (dt : Nat) (c : Chan) (endFirst : Bool) (s : State) : Result :=
  let s := s.advance dt
  let ch := s.signs.get c
  if s.chanUsable c && ch.state == .setting && s.due (ch.attempt.map (·.deadline)) then
    .next (s.enterFailed c (if ch.identified then .failed else .noResponse) endFirst).tryCommit
  else .next s

/-- RETRY_TIMER_EXPIRY (R158). -/
def execRetryTimerExpiry (dt : Nat) (c : Chan) (s : State) : Result :=
  let s := s.advance dt
  if s.chanUsable c && (s.signs.get c).state == .failed && s.due (s.signs.get c).retryAt then .next (s.retry c) else .next s

/-- RESTART_NOTICE (R159, R160): in CONFIG_FAULT it is answered with BLANK on any line. -/
def execRestartNotice (dt : Nat) (c : Chan) (kind : Octet) (check : BitVec 16) (endFirst : Bool) (s : State) : Result :=
  let s := s.advance dt
  if signCheck typeRestartNotice [kind] check then
    if s.mode = .configFault then .next (s.send [s.blankMessage c])
    else if s.chanUsable c then
      match (s.signs.get c).state with
      | .absent => .next s
      | .identifying => .next (if kind = expectedKind c then s.identify c else s.enterMismatch c endFirst)
      | .setting => .next (if kind = expectedKind c then s.sendAgain c else (s.enterMismatch c endFirst).tryCommit)
      | .showing => .next (if kind = expectedKind c then (s.markIdentified c).retry c else s.enterMismatch c endFirst)
      | .failed => .next (if kind = expectedKind c then (s.markIdentified c).retry c else s.enterMismatch c endFirst)
      | .mismatch => .next (s.send [s.blankMessage c])
    else .next s
  else .next s

end Sys2Proof.Machine
end

