-- ==== Sys2Proof/Machine/SpeedControl.lean ====
section
/-!
DEFINITION. Speed control (chapter 5): the expiry of the hold and the override.
-/
namespace Sys2Proof.Machine

/-- The override record is replaced or removed (R89, R90). -/
def State.setOverride (s : State) (r : Option Override) : State := s.setSpeed { s.speed with override := r }

/-- What speed control does with an OVERRIDE (R89). -/
def State.takeOverride (s : State) (step legend minutes : Nat) : State × ResultCode :=
  if 6 < step then (s, .refusedRange)
  else
    match legendOf legend with
    | none => (s, .refusedRange)
    | some l =>
        if minutes = 0 then (s.setOverride none, .accepted)
        else (s.setOverride (some { step := step, legend := l, expires := s.clock + min minutes 240 * 60 * second }), .accepted)

/-- The plan step falls to the bound as it stands at the expiry of the hold, which becomes step-held-since (R87). -/
def State.fall (s : State) : State :=
  s.setSpeed
    { s.speed with planStep := s.speed.bound, heldSince := s.speed.heldSince + s.cfg.minDisplay * second, holdEnded := false }

/-! ### The commands -/

/-- HOLD_EXPIRY (R87): a plan step held above its bound falls; with a bound already applied only the hold ends, so that a
change of a term that follows at the same moment is no longer held (R88, log 25). -/
def execHoldExpiry (dt : Nat) (s : State) : Result :=
  let s := s.advance dt
  if s.acting && decide (s.speed.heldSince + s.cfg.minDisplay * second ≤ s.clock) then
    if s.speed.bound < s.speed.planStep then .next (s.fall.updateEnd.serveComposer)
    else .next (s.setSpeed { s.speed with holdEnded := true })
  else .next s

/-- OVERRIDE (R89, R175). -/
def execOverride (dt : Nat) (low high step legend : Octet) (minutes : BitVec 16) (o : Order) (s : State) : Result :=
  let s := s.advance dt
  .next (s.command (.override low.toNat high.toNat step.toNat legend.toNat minutes.toNat)
    [low, high, step, legend, highOctet minutes, lowOctet minutes] o false
    (fun t => t.takeOverride step.toNat legend.toNat minutes.toNat))

/-- OVERRIDE_EXPIRY (R90): the remaining time has reached 0. -/
def execOverrideExpiry (dt : Nat) (o : Order) (s : State) : Result :=
  let s := s.advance dt
  if s.acting && s.due (s.speed.override.map (·.expires)) then .next ((s.setOverride none).settle s o.late) else .next s

end Sys2Proof.Machine
end

