-- ==== Sys2Proof/Machine/StationControl.lean ====
section
/-!
DEFINITION. Station control (chapter 11): reset and straps, the start-up check, the restore, the entry into and the exit
from WARMING, and the slot writer's completions.
-/
namespace Sys2Proof.Machine

/-! ### Reset and straps (R162, R164, R174, R183) -/

/-- The digit of a strap pin (R164). -/
def pinDigit (p : PinLevel) : Option Bool :=
  match p with
  | .low => some false
  | .high => some true
  | .floating => none

/-- The number that six pins read as, pin 1 most significant; none when a pin gives no digit (R164). -/
def strapNumber (p : Straps) : Option Nat :=
  match pinDigit p.pin1, pinDigit p.pin2, pinDigit p.pin3, pinDigit p.pin4, pinDigit p.pin5, pinDigit p.pin6 with
  | some a, some b, some c, some d, some e, some f => some (numberOf [a, b, c, d, e, f])
  | _, _, _, _, _, _ => none

/-- The straps as they are read (R164). -/
def readStraps (p : Straps) : StrapRead :=
  match strapNumber p with
  | some n => if n = 0 ∨ n = 63 then .bad else .number n
  | none => .bad

/-- The image of 32 digits, origin first (Table 13-3). -/
def imageOfDigits (x : BitVec 32) : SlotImage :=
  { origin := x.extractLsb' 24 8, serial := x.extractLsb' 16 8, lanes := x.extractLsb' 8 8, fields := x.extractLsb' 0 8 }

/-- The slots after a reset (R172, R174): a write of a held entry cut short leaves its slot WRITING with whatever image
it holds, a free value (log 6). -/
def Retention.cutShort (r : Retention) (free : Nat) : Slots RetentionSlot :=
  match r.write with
  | some w =>
      match w.latched with
      | some _ =>
          r.slots.set w.slot
            { r.slots.get w.slot with image := imageOfDigits (Config.interruptedImage free), check := Config.interruptedCheck free }
      | none => r.slots
  | none => r.slots

/-- A reset (R174, R183): every block at its reset values, the slots kept, the straps read. The queue of commands, the
levels of the loop inputs and the free-value counter are no part of the station's reset. -/
def State.restart (s : State) (straps : Straps) : State :=
  let t :=
    { State.reset with
      pending := s.pending
      inputs := s.inputs
      free := s.free + 1
      retention := { State.reset.retention with slots := s.retention.cutShort s.free }
      station := { Station.reset with straps := readStraps straps } }
  if (readStraps straps).good then t else t.raiseFault .configFault 0

/-! ### The start-up check (R151, R160, R165 to R167, R170) -/

/-- The lane count of an image lies in 2 to 5 (R167). -/
def StationConfig.lanesUsable (c : StationConfig) : Bool := decide (2 ≤ c.laneCount ∧ c.laneCount ≤ 5)

/-- The faults that the fields of a passing image raise (R166, R167), clamps first in field order (log 14). -/
def State.raiseImageFaults (s : State) (image : List Octet) (c : StationConfig) : State :=
  let s1 := (clampedFields image).foldl (fun t n => t.raiseFault .configClamped n) s
  let s2 := if c.lanesUsable then s1 else s1.raiseFault .configFault 1
  match ladderBreak c with
  | some n => s2.raiseFault .configFault n
  | none => s2

/-- The publication starts (R53): the pending mark is set, the publication timer runs for P, and the line's idle gap and a
hold in progress are counted from this moment (R42, R57). -/
def State.startPublication (s : State) (period : Nat) : State :=
  s.setLine (Line.setPending
    { s.line with pubTimer := some (s.clock + period * second), timerPeriod := period, gapFrom := s.clock, heldFrom := s.clock })

/-- Every channel of the unit ABSENT (R160). -/
def Channel.absent : Channel := { Channel.reset with state := .absent }

/-- The publication period in CONFIG_FAULT: P of a passing image, else a free value of its range (log 5). -/
def State.faultPeriod (s : State) : Nat :=
  match s.station.config with
  | some c => c.period
  | none => 1 + Config.faultPeriod s.free % 10

/-- The entry into CONFIG_FAULT (R53, R57, R160, R170). -/
def State.enterConfigFault (s : State) : State :=
  let s1 := (s.setStation { s.station with mode := .configFault, check := .failed }).setSigns
    { s.signs with handedOver := false, lanes := Lanes.const Channel.absent, legend := Channel.absent }
  let s2 := s1.send (Chan.all.map s1.blankMessage)
  if s.station.straps.good then (s2.startPublication s.faultPeriod).setFree (s.free + 1) else s2

/-- One channel at the hand-over (R151, R152). -/
def State.handOverChannel (s : State) (c : Chan) : State :=
  if s.chanConfigured c then
    (s.setChannel c { Channel.reset with identifyBy := some (s.clock + s.cfg.provingTimeout * 1000) }).send [(c, .identify)]
  else s.setChannel c Channel.absent

/-- The hand-over of the channel configuration (R151). -/
def State.handOver (s : State) : State := Chan.all.foldl State.handOverChannel (s.setSigns { s.signs with handedOver := true })

/-- The start-up check of an image that passes (R166, R167). -/
def State.judgeImage (s : State) (image : List Octet) : State :=
  let c := configOf (takenFields image)
  let s1 := (s.setStation { s.station with config := some c }).raiseImageFaults image c
  if s.station.straps.good && c.lanesUsable && (ladderBreak c).isNone then
    (s1.setStation { s1.station with check := .usable }).handOver
  else s1.enterConfigFault

/-! ### The restore (R173) -/

/-- What the restore makes of a slot. -/
inductive SlotOutcome where
  | free
  | discard (fault : Option FaultKind)
  | restore (c : Closure)
deriving DecidableEq, Repr

/-- The outcome of one slot, given the origins already restored (R173). -/
def State.slotOutcome (s : State) (r : RetentionSlot) : SlotOutcome :=
  if r.marker = markerEmpty then .free
  else if r.marker = markerWriting then .discard (some .retentionInterrupted)
  else if r.marker = markerValid ∧ r.check = r.image.check then
    match r.image.entry with
    | some c =>
        if !c.applies s.own then .discard none
        else if (s.positionOf c.origin).isSome then .discard none
        else .restore c
    | none => .discard (some .retentionCorrupt)
  else .discard (some .retentionCorrupt)

/-- One slot of the restore (R173). -/
def State.restoreSlot (s : State) (p : Pos) : State :=
  match s.slotOutcome (s.retention.slots.get p) with
  | .free => s
  | .discard none => s.markDirty p
  | .discard (some k) => (s.raiseFault k p.num).markDirty p
  | .restore c => s.setClosures (s.closures.set p (some c))

/-! ### The slot writer (R172) -/

/-- The slot at the completion of its write (R172). -/
def RetentionSlot.completed (r : RetentionSlot) (latched : Option SlotImage) : RetentionSlot :=
  match latched with
  | some i => { marker := markerValid, image := i, check := i.check }
  | none => { r with marker := markerEmpty }

/-- The write in flight completes (R172). -/
def State.completeWrite (s : State) (w : SlotWrite) : State :=
  s.setRetention
    { s.retention with slots := s.retention.slots.set w.slot ((s.retention.slots.get w.slot).completed w.latched), write := none }

/-! ### The commands -/

/-- POWER_ON_RESET (R174). -/
def execPowerOnReset (straps : Straps) (s : State) : Result := .next (s.restart straps)

/-- RESET_PIN: equal in effect to a power-on reset (R174, Table 0-1). -/
def execResetPin (straps : Straps) (s : State) : Result := .next (s.restart straps)

/-- START_UP_CHECK (R165 to R167): the image has been read; a memory that does not answer gives a short image. -/
def execStartUpCheck (dt : Nat) (image : List Octet) (s : State) : Result :=
  let s := s.advance dt
  if s.mode == .starting && s.station.check == .underWay && s.station.straps != .unread then
    if imagePasses image then .next (s.judgeImage image) else .next (s.raiseFault .configFault 0).enterConfigFault
  else .next s

/-- RESTORE_COMPLETE (R173): the slots are examined in ascending order, and the slot writer starts. -/
def execRestoreComplete (dt : Nat) (s : State) : Result :=
  let s := s.advance dt
  if s.mode == .starting && s.station.check == .usable && !s.station.restored then
    let s1 := Pos.all.foldl State.restoreSlot s
    .next (s1.setStation { s1.station with restored := true }).startWrite
  else .next s

/-- WARMING_ENTRY (R168, R163): the blocks start, and the first plan is composed with the plan step set at the entry
(R86, R147). -/
def execWarmingEntry (dt : Nat) (s : State) : Result :=
  let s := s.advance dt
  if s.mode == .starting && s.station.check == .usable && s.station.restored && !s.signs.anyIdentifying then
    let s1 := s.setStation
      { s.station with mode := .warming, warmUp := some (s.clock + s.cfg.expiryCount * s.cfg.period * second), warmedUp := false
                       firstEvaluation := false, markSetAt := none }
    let s2 := (s1.startDetector.startPublication s.cfg.period).setNeighbours
      { s.neighbours with isolationTimer := some (s.clock + s.cfg.isolationTime * second) }
    .next ((s2.setComposer { s2.composer with display := true }).settle s [])
  else .next s

/-- WARM_UP_TIMER_EXPIRY (R169). -/
def execWarmUpTimerExpiry (dt : Nat) (s : State) : Result :=
  let s := s.advance dt
  if s.mode == .warming && s.due s.station.warmUp then
    .next (s.setStation { s.station with warmUp := none, warmedUp := true })
  else .next s

/-- WARMING_EXIT (R71, R169): RUNNING, or ISOLATED when the isolation condition is present. When the mode change falls
together with the evaluation that set the mark and is taken first, that evaluation is a demand evaluation (R77); the
readers that `o.between` names take the mode change before it (log 3). -/
def execWarmingExit (dt : Nat) (modeFirst : Bool) (o : Order) (s : State) : Result :=
  let s := s.advance dt
  if s.mode == .warming && s.station.warmedUp && s.station.firstEvaluation then
    let s1 := if s.neighbours.isolation then s.setMode .isolated else s.setMode .running
    let s2 := if modeFirst && s.station.markSetAt == some s.clock then (s1.serveSome s o.between).evaluateDemand else s1
    .next (s2.settle s o.late)
  else .next s

/-- SLOT_WRITE_COMPLETION (R172): the final marker is in place, and the writer starts the next write. -/
def execSlotWriteCompletion (dt : Nat) (s : State) : Result :=
  let s := s.advance dt
  match s.retention.write with
  | some w => if s.writerOn then .next (s.completeWrite w).startWrite else .next s
  | none => .next s

end Sys2Proof.Machine
end

