-- ==== Sys2Proof/Machine/Dispatch.lean ====
section
/-!
DEFINITION. The meaning of every command: one arm for each constructor, one direct call of its meaning.
-/
namespace Sys2Proof.Machine

/-- The effect of a command on everything but the queue of waiting commands. -/
def exec (i : Instr) (s : State) : Host.Outcome State Fault Refusal :=
  match i with
  | .powerOnReset straps => Sys2Proof.Machine.execPowerOnReset straps s
  | .resetPin straps => Sys2Proof.Machine.execResetPin straps s
  | .startUpCheck dt image => Sys2Proof.Machine.execStartUpCheck dt image s
  | .restoreComplete dt => Sys2Proof.Machine.execRestoreComplete dt s
  | .warmingEntry dt => Sys2Proof.Machine.execWarmingEntry dt s
  | .warmUpTimerExpiry dt => Sys2Proof.Machine.execWarmUpTimerExpiry dt s
  | .warmingExit dt modeFirst o => Sys2Proof.Machine.execWarmingExit dt modeFirst o s
  | .loopPresenceStart dt l => Sys2Proof.Machine.execLoopPresenceStart dt l s
  | .qualifiedOnEdge dt l => Sys2Proof.Machine.execQualifiedOnEdge dt l s
  | .releaseEdge dt l => Sys2Proof.Machine.execReleaseEdge dt l s
  | .presenceTimeout dt l endFirst => Sys2Proof.Machine.execPresenceTimeout dt l endFirst s
  | .pairingDeadline dt lane => Sys2Proof.Machine.execPairingDeadline dt lane s
  | .intervalEnd dt lanes loops => Sys2Proof.Machine.execIntervalEnd dt lanes loops s
  | .vehicleRequestCompletion dt o => Sys2Proof.Machine.execVehicleRequestCompletion dt o s
  | .intervalRequestCompletion dt o => Sys2Proof.Machine.execIntervalRequestCompletion dt o s
  | .traceFramePlaced dt => Sys2Proof.Machine.execTraceFramePlaced dt s
  | .idleGap dt => Sys2Proof.Machine.execIdleGap dt s
  | .transmitStart dt => Sys2Proof.Machine.execTransmitStart dt s
  | .arbitrationLost dt mark => Sys2Proof.Machine.execArbitrationLost dt mark s
  | .transmitAbort dt cause => Sys2Proof.Machine.execTransmitAbort dt cause s
  | .abortHoldEnd dt => Sys2Proof.Machine.execAbortHoldEnd dt s
  | .transmitComplete sent => Sys2Proof.Machine.execTransmitComplete sent s
  | .publicationTimerExpiry dt => Sys2Proof.Machine.execPublicationTimerExpiry dt s
  | .lapse dt holds => Sys2Proof.Machine.execLapse dt holds s
  | .frameAborted dt holds => Sys2Proof.Machine.execFrameAborted dt holds s
  | .frameRejected dt cls kind source body check => Sys2Proof.Machine.execFrameRejected dt cls kind source body check s
  | .lineStuck dt holds o => Sys2Proof.Machine.execLineStuck dt holds o s
  | .lineStuckEnd dt => Sys2Proof.Machine.execLineStuckEnd dt s
  | .statusFrame dt cls source body o => Sys2Proof.Machine.execStatusFrame dt cls source body o s
  | .reportFrameHeard dt cls source body => Sys2Proof.Machine.execReportFrameHeard dt cls source body s
  | .neighbourExpiry dt station => Sys2Proof.Machine.execNeighbourExpiry dt station s
  | .neighbourRemoval dt station o => Sys2Proof.Machine.execNeighbourRemoval dt station o s
  | .isolationTimerExpiry dt o => Sys2Proof.Machine.execIsolationTimerExpiry dt o s
  | .holdExpiry dt => Sys2Proof.Machine.execHoldExpiry dt s
  | .override dt low high step legend minutes o => Sys2Proof.Machine.execOverride dt low high step legend minutes o s
  | .overrideExpiry dt o => Sys2Proof.Machine.execOverrideExpiry dt o s
  | .closeSet dt origin serial lanes taper extent step o => Sys2Proof.Machine.execCloseSet dt origin serial lanes taper extent step o s
  | .closeClear dt origin serial o => Sys2Proof.Machine.execCloseClear dt origin serial o s
  | .shoulderOpen dt low high o => Sys2Proof.Machine.execShoulderOpen dt low high o s
  | .shoulderClose dt low high o => Sys2Proof.Machine.execShoulderClose dt low high o s
  | .checkTimerExpiry dt => Sys2Proof.Machine.execCheckTimerExpiry dt s
  | .clearanceTimerExpiry dt => Sys2Proof.Machine.execClearanceTimerExpiry dt s
  | .faultAck dt station kind unit => Sys2Proof.Machine.execFaultAck dt station kind unit s
  | .faultAckAll dt station unit => Sys2Proof.Machine.execFaultAckAll dt station unit s
  | .requestFaults dt station lane count => Sys2Proof.Machine.execRequestFaults dt station lane count s
  | .requestLanes dt station lane count => Sys2Proof.Machine.execRequestLanes dt station lane count s
  | .requestTrace dt station lane count => Sys2Proof.Machine.execRequestTrace dt station lane count s
  | .identity dt chan kind check endFirst => Sys2Proof.Machine.execIdentity dt chan kind check endFirst s
  | .identificationDeadline dt chan => Sys2Proof.Machine.execIdentificationDeadline dt chan s
  | .provingReport dt chan number result check endFirst => Sys2Proof.Machine.execProvingReport dt chan number result check endFirst s
  | .provingDeadline dt chan endFirst => Sys2Proof.Machine.execProvingDeadline dt chan endFirst s
  | .retryTimerExpiry dt chan => Sys2Proof.Machine.execRetryTimerExpiry dt chan s
  | .restartNotice dt chan kind check endFirst => Sys2Proof.Machine.execRestartNotice dt chan kind check endFirst s
  | .slotWriteCompletion dt => Sys2Proof.Machine.execSlotWriteCompletion dt s
  | .frameLengthRejected dt holds => Sys2Proof.Machine.execFrameLengthRejected dt holds s
  | .firstHoldWrongClass dt held => Sys2Proof.Machine.execFirstHoldWrongClass dt held s
  | .arbitrationWon sent => Sys2Proof.Machine.execArbitrationWon sent s
  | .commandNotAddressed dt kind body => Sys2Proof.Machine.execCommandNotAddressed dt kind body s
  | .shoulderOtherAction dt low high action => Sys2Proof.Machine.execShoulderOtherAction dt low high action s
  | .requestOtherType dt station reqType lane count => Sys2Proof.Machine.execRequestOtherType dt station reqType lane count s

end Sys2Proof.Machine
end

