-- ==== Sys2Proof/Machine/Step.lean ====
section
/-!
DEFINITION. One step of the station: the command at the front of the queue is taken.
-/
namespace Sys2Proof.Machine

/-- The command at the front of the queue runs on the queue's rest; on an empty queue the station idles (log 1). -/
def step (s : State) : Host.Outcome State Fault Refusal :=
  match s.pending with
  | i :: rest => exec i (s.setPending rest)
  | [] => .next s

/-- The state with the command that a word spells put at the front of its queue; no row of the opcode table gives bits,
so no word spells one (log 9). -/
def State.withFetchWord (s : State) (nbits w : Nat) : State :=
  match Sys2Proof.decodeTableWord nbits w with
  | some i => s.setPending (i :: s.pending)
  | none => s

end Sys2Proof.Machine
end

