-- ==== Sys2Proof/Safety.lean ====
section
/-!
DEFINITION. The words of the claims: what a command leaves alone, block by block, and what a sound station is.
-/
namespace Sys2Proof.Machine

/-! ### Frames -/

/-- The parts of the state. -/
inductive Block where
  | pending | clock | inputs | station | detector | trace | requests | records | measures | line | neighbours | speed
  | queue | closures | shoulder | composer | signs | retention | faults | free
deriving DecidableEq, Repr

/-- A part is the same in two states. The sign channel unit is compared without the messages it has just sent. -/
def Block.same (b : Block) (s t : State) : Prop :=
  match b with
  | .pending => t.pending = s.pending
  | .clock => t.clock = s.clock
  | .inputs => t.inputs = s.inputs
  | .station => t.station = s.station
  | .detector => t.detector = s.detector
  | .trace => t.trace = s.trace
  | .requests => t.requests = s.requests
  | .records => t.records = s.records
  | .measures => t.measures = s.measures
  | .line => t.line = s.line
  | .neighbours => t.neighbours = s.neighbours
  | .speed => t.speed = s.speed
  | .queue => t.queue = s.queue
  | .closures => t.closures = s.closures
  | .shoulder => t.shoulder = s.shoulder
  | .composer => t.composer = s.composer
  | .signs => { t.signs with sent := [] } = { s.signs with sent := [] }
  | .retention => t.retention = s.retention
  | .faults => t.faults = s.faults
  | .free => t.free = s.free

/-- Every part outside a list is the same in two states. -/
def SameOutside (touched : List Block) (s t : State) : Prop := ∀ b, b ∉ touched → b.same s t

/-- Nothing was put on the sign lines. -/
def State.quiet (t : State) : Prop := t.signs.sent = []

/-- What the readers of a report may change when they take it: the queue term, speed control, the plans, the channels
that a commit sets, and the status slot. -/
def readers : List Block := [.queue, .speed, .composer, .signs, .line]

/-- Some parts, and what the readers of a report may change. -/
def andReaders (touched : List Block) : List Block := touched ++ readers

/-- The line as the status slot may find it after an urgent change: only its marks and its transmit state differ. -/
def Line.slotOnly (a b : Line) : Prop :=
  b = { a with pending := b.pending, urgent := b.urgent, urgentAgain := b.urgentAgain, tx := b.tx }

/-- A step of station control (Table 11-1). -/
def modeStep (a b : Mode) : Bool :=
  match a, b with
  | .starting, .starting => true
  | .starting, .configFault => true
  | .starting, .warming => true
  | .warming, .warming => true
  | .warming, .running => true
  | .warming, .isolated => true
  | .running, .running => true
  | .running, .isolated => true
  | .isolated, .isolated => true
  | .isolated, .running => true
  | .configFault, .configFault => true
  | _, _ => false

/-- The command is a reset. -/
def isReset (i : Instr) : Bool :=
  match i with
  | .powerOnReset _ => true
  | .resetPin _ => true
  | _ => false

/-- The time that passes before a command; a reset starts the time afresh (log 1). -/
def elapsed (i : Instr) : Option Nat :=
  match i with
  | .powerOnReset _ => none
  | .resetPin _ => none
  | .startUpCheck dt _ => some dt
  | .restoreComplete dt => some dt
  | .warmingEntry dt => some dt
  | .warmUpTimerExpiry dt => some dt
  | .warmingExit dt _ _ => some dt
  | .loopPresenceStart dt _ => some dt
  | .qualifiedOnEdge dt _ => some dt
  | .releaseEdge dt _ => some dt
  | .presenceTimeout dt _ _ => some dt
  | .pairingDeadline dt _ => some dt
  | .intervalEnd dt _ _ => some dt
  | .vehicleRequestCompletion dt _ => some dt
  | .intervalRequestCompletion dt _ => some dt
  | .traceFramePlaced dt => some dt
  | .idleGap dt => some dt
  | .transmitStart dt => some dt
  | .arbitrationLost dt _ => some dt
  | .transmitAbort dt _ => some dt
  | .abortHoldEnd dt => some dt
  | .transmitComplete sent => some sent.dt
  | .publicationTimerExpiry dt => some dt
  | .lapse dt _ => some dt
  | .frameAborted dt _ => some dt
  | .frameRejected dt _ _ _ _ _ => some dt
  | .lineStuck dt _ _ => some dt
  | .lineStuckEnd dt => some dt
  | .statusFrame dt _ _ _ _ => some dt
  | .reportFrameHeard dt _ _ _ => some dt
  | .neighbourExpiry dt _ => some dt
  | .neighbourRemoval dt _ _ => some dt
  | .isolationTimerExpiry dt _ => some dt
  | .holdExpiry dt => some dt
  | .override dt _ _ _ _ _ _ => some dt
  | .overrideExpiry dt _ => some dt
  | .closeSet dt _ _ _ _ _ _ _ => some dt
  | .closeClear dt _ _ _ => some dt
  | .shoulderOpen dt _ _ _ => some dt
  | .shoulderClose dt _ _ _ => some dt
  | .checkTimerExpiry dt => some dt
  | .clearanceTimerExpiry dt => some dt
  | .faultAck dt _ _ _ => some dt
  | .faultAckAll dt _ _ => some dt
  | .requestFaults dt _ _ _ => some dt
  | .requestLanes dt _ _ _ => some dt
  | .requestTrace dt _ _ _ => some dt
  | .identity dt _ _ _ _ => some dt
  | .identificationDeadline dt _ => some dt
  | .provingReport dt _ _ _ _ _ => some dt
  | .provingDeadline dt _ _ => some dt
  | .retryTimerExpiry dt _ => some dt
  | .restartNotice dt _ _ _ _ => some dt
  | .slotWriteCompletion dt => some dt
  | .frameLengthRejected dt _ => some dt
  | .firstHoldWrongClass dt _ => some dt
  | .arbitrationWon sent => some sent.dt
  | .commandNotAddressed dt _ _ => some dt
  | .shoulderOtherAction dt _ _ _ => some dt
  | .requestOtherType dt _ _ _ _ => some dt

/-- The command of the gateway that a row carries, with its body (Table 13-4). -/
def gatewayCommand (i : Instr) : Option (Command × List Octet) :=
  match i with
  | .override _ low high step legend minutes _ =>
      some (.override low.toNat high.toNat step.toNat legend.toNat minutes.toNat,
        [low, high, step, legend, highOctet minutes, lowOctet minutes])
  | .closeSet _ origin serial lanes taper extent step _ =>
      some (.closeSet origin.toNat serial.toNat (closedLanes lanes) taper.toNat extent.toNat step.toNat,
        [origin, serial, lanes, taper, extent, step])
  | .closeClear _ origin serial _ => some (.closeClear origin.toNat serial.toNat, [origin, serial])
  | .shoulderOpen _ low high _ => some (.shoulder low.toNat high.toNat 1, [low, high, 1])
  | .shoulderClose _ low high _ => some (.shoulder low.toNat high.toNat 2, [low, high, 2])
  | .shoulderOtherAction _ low high action =>
      if action = 1 ∨ action = 2 then none else some (.shoulder low.toNat high.toNat action.toNat, [low, high, action])
  | .faultAck _ station kind unit =>
      if kind = 0 then none else some (.faultAck station.toNat kind.toNat unit.toNat, [station, kind, unit])
  | .faultAckAll _ station unit => some (.faultAck station.toNat 0 unit.toNat, [station, 0, unit])
  | .requestFaults _ station lane count => some (.request station.toNat 1 lane.toNat count.toNat, [station, 1, lane, count])
  | .requestLanes _ station lane count => some (.request station.toNat 2 lane.toNat count.toNat, [station, 2, lane, count])
  | .requestTrace _ station lane count => some (.request station.toNat 3 lane.toNat count.toNat, [station, 3, lane, count])
  | .requestOtherType _ station type lane count =>
      if type = 1 ∨ type = 2 ∨ type = 3 then none
      else some (.request station.toNat type.toNat lane.toNat count.toNat, [station, type, lane, count])
  | _ => none

/-- The mode after a valid frame has arrived (R71). -/
def Mode.heard (m : Mode) : Mode := if m = .isolated then .running else m

/-- What the arrival of a valid frame does to the neighbour table of an acting station (R70). -/
def State.heardNeighbours (s : State) (dt : Nat) : Neighbours :=
  { s.neighbours with isolation := false, isolationTimer := some (s.clock + dt + s.cfg.isolationTime * second) }

/-- The own effects of a command of the gateway that an acting station takes: the arrival of its frame (R46, R70, R71)
and the last-command record (R176). -/
def State.commanded (s : State) (dt : Nat) (kind : CommandKind) (result : ResultCode) (t : State) : Prop :=
  t.clock = s.clock + dt ∧ t.neighbours = s.heardNeighbours dt ∧
    t.station = { s.station with mode := s.mode.heard, lastCommand := some { kind := kind, result := result } }

/-- Marks sent for `ds` are held for `holds`, and the samples of the line can match them in turn: held at 1.5 units for a
long mark, released for a short one (R41). At 1.5 units itself a sample may read either (log 11). -/
def marksRead (ds : List Bool) (holds : List Nat) : Prop :=
  ∀ (i : Nat) (d : Bool) (h : Nat), ds[i]? = some d → holds[i]? = some h → if d then h ≤ 15 else 15 ≤ h

/-- No presence of the lane's other loop must be taken before this one: a qualified on edge that precedes it, or of loop A
with the same raw on time (R3). -/
def State.edgeFree (s : State) (l : Loop) (p : Presence) : Prop :=
  ∀ q, (s.loop (otherLoop l)).presence = some q → s.loopConfigured (otherLoop l) = true → q.qualified = false →
    s.lasted q = true → precedes q.on p.on = false ∧ (l.side = .b → q.on ≠ p.on)

/-- What a finished record without a speed leaves in the trace buffer and the queue monitor: it is captured while its lane
is (R18), and zeroes its lane's slow-vehicle run unless the lane is running and DUAL (R99). -/
def State.delivered (s : State) (r : VehicleRecord) (t : State) : Prop :=
  (s.trace.state = .capturing → s.trace.lane = r.lane.num →
    t.trace = { s.trace with records := s.trace.records ++ [r], captured := s.trace.captured + 1
                             state := if s.trace.captured + 1 = s.trace.requested then .draining else .capturing
                             cutShort := if s.trace.captured + 1 = s.trace.requested then false else s.trace.cutShort }) ∧
    ((s.trace.state ≠ .capturing ∨ s.trace.lane ≠ r.lane.num) → t.trace = s.trace) ∧
    t.queue = if s.runsForMeasurement r.lane && (s.detector.lanes.get r.lane).mode == .dual then s.queue
      else { s.queue with runs := s.queue.runs.set r.lane 0 }

/-- The lane measurement mode of two loop states (Table 1-2). -/
def modeOfStates (loopB : Bool) (a b : LoopStatus) : MeasureMode :=
  match a, loopB, b with
  | .ok, true, .ok => .dual
  | .ok, _, _ => .singleA
  | _, true, .ok => .singleB
  | _, _, _ => .none

/-- Lane `k` of `t` is what the lane `d`, whose loop states have just changed, becomes at a moment (R7, R8, R99): its mode is
recomputed, and a change of mode completes the vehicles that have left loop A, keeps the one in progress only between DUAL
and SINGLE_A, settles the occupancy of a counting loop that changes, and zeroes the slow-vehicle run. -/
def State.settledFrom (s : State) (k : Lane) (d : LaneDetector) (moment : Tick) (t : State) : Prop :=
  let e := t.detector.lanes.get k
  let new := modeOfStates (s.cfg.lanes.get k).loopB d.a.status d.b.status
  let past := d.arrivals.filter (fun a => a.off.isSome)
  let present := d.arrivals.filter (fun a => a.off.isNone)
  let held (r : LoopRecord) : Bool := r.presence.any (fun p => p.qualified)
  e.mode = new ∧ e.a = d.a ∧ e.b = d.b ∧ (new = d.mode → { e with measured := d.measured } = d) ∧
    (new ≠ d.mode → t.queue.runs.get k = 0 ∧ e.sums.n = d.sums.n + past.length ∧
      ((∀ a ∈ past, a.bOn = none) → e.sums.m = d.sums.m ∧ e.sums.sumT = d.sums.sumT)) ∧
    (d.mode = .dual → new = .singleA → e.arrivals = present ∧ e.mark = d.mark ∧ e.sums.sumOn = d.sums.sumOn) ∧
    (d.mode = .singleA → new = .dual →
      e.arrivals = present.map (fun a =>
        { a with resolved := a.resolved || (a.bOn.isNone && s.reached (s.pairingDeadline k a)) }) ∧
      e.mark = d.mark ∧ e.sums.sumOn = d.sums.sumOn) ∧
    (new ≠ d.mode → ¬(d.mode = .dual ∧ new = .singleA) → ¬(d.mode = .singleA ∧ new = .dual) →
      e.arrivals = [] ∧
      e.sums.sumOn = d.sums.sumOn + (match d.mark with | some m => heldTicks m moment | none => 0) ∧
      e.mark = match new with
        | .dual => if held d.a then some moment else none
        | .singleA => if held d.a then some moment else none
        | .singleB => if held d.b then some moment else none
        | .none => none)

/-- A loop after the judgement of an interval end: its glitch count alone leads from OK to CHATTER and back, and is zeroed
(R5). -/
def State.judged (s : State) (l : Loop) : LoopRecord :=
  let r := s.loop l
  { r with glitches := 0
           status := match r.status with
             | .ok => if s.cfg.chatterLimit < r.glitches then .chatter else .ok
             | .chatter => if s.cfg.chatterLimit < r.glitches then .chatter else .ok
             | .stuck => .stuck }

/-- The fault list after an interval end: PAIR IMPLAUSIBLE for every lane with a count (R16), then LOOP CHATTER raised and
ended by the judgement of the loops (R6), lanes and loops in the orders given (log 3). -/
def State.intervalFaults (s : State) (lanes : List Lane) (loops : List Loop) (seen : Nat) : FaultList :=
  loops.foldl (fun f l =>
      match (s.loop l).status, (s.judged l).status with
      | .ok, .chatter => f.raise .loopChatter (loopNumber l) seen
      | .chatter, .ok => f.close .loopChatter (loopNumber l)
      | _, _ => f)
    (lanes.foldl (fun f k =>
      if (s.detector.lanes.get k).sums.implausible = 0 then f else f.raise .pairImplausible k.num seen) s.faults)

/-- The opening check of `s` has been aborted (R127): the shoulder is CLOSED, SHOULDER CHECK FAILED is raised after the faults
that came before it, and the change is urgent (R131). -/
def State.checkAborted (s : State) (dt : Nat) (before : FaultList) (t : State) : Prop :=
  t.clock = s.clock + dt ∧ t.shoulder = { state := .closed, checkTimer := none, clearanceTimer := s.shoulder.clearanceTimer } ∧
    t.faults = before.raise .shoulderCheckFailed 0 ((s.clock + dt) / second) ∧ t.line.urgent = true ∧ t.line.pending = true

/-- The commit gate of a state whose channels have become `g` (R143). -/
def State.gateOpen (s : State) (g : Signs) : Prop :=
  s.composer.display = true ∧ s.composer.next ≠ s.composer.active ∧ ∀ c, (g.get c).state ≠ .setting

/-- The channels and the plans of `t` are what `g` and the plans of `s` become once the commit gate has been tried (R143,
R144): a commit makes the next plan the active one, and every configured channel whose part changes and which is not in
MISMATCH begins an attempt with its new part. -/
def State.gateTried (s : State) (g : Signs) (t : State) : Prop :=
  let changed (c : Chan) : Bool :=
    s.chanUsable c && s.composer.active.part c != s.composer.next.part c && (g.get c).state != .mismatch
  (¬s.gateOpen g → t.signs = g ∧ t.composer = s.composer) ∧
    (s.gateOpen g →
      t.composer = { s.composer with active := s.composer.next } ∧ t.signs.handedOver = g.handedOver ∧
      (∀ c, t.signs.get c =
        if changed c then
          { g.get c with state := .setting, nextSet := if (g.get c).nextSet = 255 then 1 else (g.get c).nextSet + 1
                         attempt := some { set := (g.get c).nextSet, deadline := s.clock + s.cfg.provingTimeout * 1000 }
                         identifyBy := none, retryAt := none }
        else g.get c) ∧
      t.signs.sent = g.sent ++ (Chan.all.filter changed).flatMap (fun c =>
        (if (g.get c).identified then [] else [(c, SignMessage.identify)]) ++
          [(c, s.aspectSet (g.get c).nextSet (s.composer.next.part c))]))

/-- The message BLANK with set number 0 on a line (R149). -/
def blankOn (c : Chan) : Chan × SignMessage :=
  (c, match c with
    | .lane _ => .laneAspect 0 .blank 0
    | .legend => .legendAspect 0 .none false)

/-- The fault list after a channel whose failure reason was `old` raises `kind`, and ends the fault of that reason at the
same moment, in the order the command names (R155, R157, R178; log 3). -/
def FaultList.replaced (f : FaultList) (old : Option FailureReason) (kind : FaultKind) (unit seen : Nat) (endFirst : Bool) : FaultList :=
  match old with
  | none => f.raise kind unit seen
  | some r =>
      let ended : FaultKind := match r with | .failed => .signFailed | .noResponse => .signNoResponse
      if endFirst then (f.close ended unit).raise kind unit seen else (f.raise kind unit seen).close ended unit

/-! ### What a sound station is -/

/-- A sound fault entry (R177, R178): a count from 1 to 255, active only for a condition, acknowledged only while
active. -/
def FaultEntry.sound (e : FaultEntry) : Prop :=
  1 ≤ e.count ∧ e.count ≤ 255 ∧ (e.active = true → e.kind.isCondition = true) ∧ (e.acked = true → e.active = true)

/-- A sound fault list (R177): at most 16 entries, no two with the same key. -/
def FaultList.sound (l : FaultList) : Prop :=
  l.entries.length ≤ 16 ∧ (l.entries.map (fun e => (e.kind, e.unit))).Nodup ∧ ∀ e ∈ l.entries, e.sound

/-- A sound request queue (R20, R21, R28): at most 12 requests, at most 7 VEHICLE requests and one INTERVAL request for
each lane. -/
def requestsSound (q : List Request) : Prop :=
  q.length ≤ 12 ∧ vehicleCount q ≤ 7 ∧ ∀ k ∈ Lane.all, q.countP (Request.isIntervalOf k) ≤ 1

/-- A sound receiver between commands (Table 3-3): in IDLE without digits, or in the header of a frame taken over. -/
def Receiver.sound (r : Receiver) : Prop :=
  (r.phase = .idle ∧ r.digits = []) ∨ (r.gapSeen = false ∧ r.phase = .header ∧ r.digits.length < 12) ∨
    (r.gapSeen = false ∧ r.phase = .length ∧ r.digits.length = 12)

/-- A sound line interface (R47, R48, R51, R54, R56): at most 4 replies, counts to 255, the urgent flag never without the
pending mark, QUIET exactly when nothing waits, and a frame at hand while one is sent. -/
def Line.sound (l : Line) : Prop :=
  l.replies.length ≤ 4 ∧ l.rejected ≤ 255 ∧ l.aborts ≤ 255 ∧ (l.urgent = true → l.pending = true) ∧
    (l.tx = .quiet ↔ l.hasWork = false) ∧
    ((l.tx = .arbitrating ∨ l.tx = .sending) → l.abortHold = none → l.txFrame.isSome = true) ∧
    (l.abortHold.isSome = true → l.tx = .arbitrating ∨ l.tx = .sending) ∧ l.rx.sound

/-- Sound station control (R163, R164, R167, R168): the number lies in 1 to 62, a usable check has a number and an image
whose steps and windows lie in their ranges, and the station acts only after a usable check and a restore. -/
def Station.sound (c : Station) : Prop :=
  (∀ n, c.straps = .number n → 1 ≤ n ∧ n ≤ 62) ∧
    (c.check = .usable → c.straps.good = true ∧
      ∃ g, c.config = some g ∧ 2 ≤ g.laneCount ∧ g.laneCount ≤ 5 ∧ g.queueStep ≤ 6 ∧ g.isolationStep ≤ 6 ∧
        g.upWindow ≤ 4 ∧ g.downWindow ≤ 4) ∧
    (c.restored = true → c.check = .usable) ∧ (c.mode.acting = true → c.restored = true) ∧
    (c.mode = .configFault ↔ c.check = .failed)

/-- A sound neighbour table (R62 to R64, R71, R73): one entry for each number, in rising order, each in the window and
void exactly for CONFIG_FAULT; empty outside WARMING, RUNNING and ISOLATED; the isolation condition as the mode shows. -/
def State.neighboursSound (s : State) : Prop :=
  (s.neighbours.entries.map (·.station)).Pairwise (· < ·) ∧
    (∀ e ∈ s.neighbours.entries, s.inWindow e.station = true ∧ e.void = (e.record.mode == .configFault)) ∧
    (s.acting = false → s.neighbours = Neighbours.reset) ∧
    (s.mode = .isolated → s.neighbours.isolation = true) ∧ (s.mode = .running → s.neighbours.isolation = false)

/-- A sound closure entry (Table 7-1, R108): it applies at the station, its fields lie in their ranges. -/
def Closure.sound (c : Closure) (own : Nat) : Prop :=
  c.applies own = true ∧ 1 ≤ c.origin ∧ c.origin ≤ 62 ∧ c.serial ≤ 255 ∧ c.lanes ≠ 0 ∧ 1 ≤ c.taper ∧ c.taper ≤ 4 ∧
    c.extent ≤ 3 ∧ c.step ≤ 6

/-- A sound closure table (R108, R109): sound entries, no two of one origin, none before the restore. -/
def State.closuresSound (s : State) : Prop :=
  (∀ c ∈ s.entries, c.sound s.own) ∧ (s.entries.map (·.origin)).Nodup ∧
    (s.station.restored = false → s.closures = Slots.const none)

/-- A sound shoulder (R124, R128, R129): each timer runs in its own state alone; CLOSED without a shoulder lane, and
outside RUNNING and ISOLATED. -/
def State.shoulderSound (s : State) : Prop :=
  (s.shoulder.checkTimer.isSome = true ↔ s.shoulder.state = .checking) ∧
    (s.shoulder.clearanceTimer.isSome = true ↔ s.shoulder.state = .closing) ∧
    (s.shoulder.state ≠ .closed → s.cfg.shoulderLane = true ∧ (s.mode = .running ∨ s.mode = .isolated)) ∧
    (s.mode = .isolated → s.shoulder.state = .closed ∨ s.shoulder.state = .closing)

/-- Every step that can become a term of the lower bound lies in 0 to 6 (R82). -/
def State.stepsSound (s : State) : Prop :=
  s.speed.demand ≤ 6 ∧ (∀ o, s.speed.override = some o → o.step ≤ 6) ∧
    ∀ e ∈ s.neighbours.entries, (∀ k, e.record.planStep = some k → k ≤ 6) ∧ ∀ k, e.record.displacedStep = some k → k ≤ 6

/-- A sound speed control (R82, R86, R92): while the station acts, the bound is the lower bound of its terms, the queue
term and the END condition are as their inputs give them, and the plan step is never below the bound. -/
def State.speedSound (s : State) : Prop :=
  s.speed.bound ≤ s.speed.planStep ∧ s.speed.planStep ≤ 6 ∧
    (s.acting = true → s.queue.term = s.queueTerm ∧ s.speed.bound = s.lowerBound ∧ s.speed.endCondition = s.endHolds)

/-- A sound composer (R104, R141 to R143): the display is on exactly while the station acts; the QUEUE candidate goes with
the queue term; the next plan is the composition of its inputs; and it differs from the active plan only while a channel is
SETTING. -/
def State.composerSound (s : State) : Prop :=
  s.composer.display = s.acting ∧
    (s.composer.display = false → s.composer.next = Plan.allBlank ∧ s.composer.active = Plan.allBlank) ∧
    (s.composer.display = true →
      s.composer.queueCandidate = s.queue.term ∧ s.composer.next = s.compose ∧
        (s.composer.next = s.composer.active ∨ s.signs.anySetting = true))

/-- A sound channel (R148, R154, R157, R158): an attempt exactly in SETTING, a retry timer exactly in FAILED, a failure
reason in FAILED and at most in SETTING beside it, SHOWING only once identified, set numbers from 1 to 255. -/
def Channel.sound (c : Channel) : Prop :=
  (c.attempt.isSome = true ↔ c.state = .setting) ∧ (c.retryAt.isSome = true ↔ c.state = .failed) ∧
    (c.state = .failed → c.reason.isSome = true) ∧ (c.reason.isSome = true → c.state = .failed ∨ c.state = .setting) ∧
    (c.identifyBy.isSome = true → c.state = .identifying) ∧ (c.state = .showing → c.identified = true) ∧
    1 ≤ c.nextSet ∧ c.nextSet ≤ 255 ∧ ∀ a, c.attempt = some a → 1 ≤ a.set ∧ a.set ≤ 255

/-- A sound sign channel unit. -/
def Signs.sound (g : Signs) : Prop := ∀ c ∈ Chan.all, (g.get c).sound

/-- A slot holds an entry: it is VALID with a correct check, and the restore would read the entry from it (R172, R173). -/
def RetentionSlot.holds (r : RetentionSlot) (c : Closure) : Prop :=
  r.marker = markerValid ∧ r.check = r.image.check ∧ (r.image = c.image ∨ r.image.entry = some { c with source := .retained })

/-- The slot says what its position says (R172). -/
def RetentionSlot.agrees (r : RetentionSlot) (c : Option Closure) : Prop :=
  match c with
  | some c => r.holds c
  | none => r.marker = markerEmpty

/-- A sound retention store (R172): while the writer runs, a dirty slot waits only behind a write in flight, the slot of a
write is WRITING, a slot that is neither dirty nor being written agrees with its position, and the write in flight of a
slot that is not dirty carries its position's content. -/
def State.retentionSound (s : State) : Prop :=
  s.writerOn = true →
    (s.retention.write = none → s.retention.dirty = Slots.const false) ∧
      (∀ w, s.retention.write = some w → (s.retention.slots.get w.slot).marker = markerWriting ∧
        (s.retention.dirty.get w.slot = false → w.latched = (s.closures.get w.slot).map Closure.image)) ∧
      ∀ p ∈ Pos.all, s.retention.dirty.get p = false → (∀ w, s.retention.write = some w → w.slot ≠ p) →
        (s.retention.slots.get p).agrees (s.closures.get p)

/-- Nothing waits to be written before the restore (R171, R174). -/
def State.writerIdle (s : State) : Prop :=
  s.station.restored = false → s.retention.dirty = Slots.const false ∧ s.retention.write = none

end Sys2Proof.Machine
end

