-- ==== Sys2Proof/WellFormed.lean ====
section
/-!
DEFINITION. The well-formed commands: the operands that the event of a row can have at all, whatever the state.
-/
namespace Sys2Proof

/-- What can be wrong with a command's operands. -/
inductive Flaw where
  /-- A header has 12 marks (R50). -/
  | mark
  /-- A body holds at most 30 octets (section 3.2). -/
  | bodyLength
  /-- A neighbour is numbered 1 to 62 (R62). -/
  | station
  /-- A hold of 50 units or more is no hold of a run but a stuck line (R42). -/
  | hold
  /-- A run of holds that ends a reception has at least one hold (R44, R45). -/
  | noHold
  /-- A frame's source is not 0 (R46). -/
  | source
  /-- The kind code 0 stands for ALL, which is another row (R179). -/
  | kindAll
  /-- The action OPEN or CLOSE is another row (R125). -/
  | action
  /-- The type FAULTS, LANES or TRACE is another row (R180). -/
  | requestType
  /-- The kind is one of the six command kinds (Table 3-2). -/
  | commandKind
  /-- The image has 106 octets at most (section 13.6). -/
  | imageLength
  /-- No lane and no loop is visited twice (R16). -/
  | visit
  /-- The first hold is neither noise nor a start hold (R44). -/
  | firstHold
deriving DecidableEq, Repr

/-- A flaw, if a test fails. -/
def Flaw.unless (ok : Bool) (f : Flaw) : Option Flaw := if ok then none else some f

/-- A run of holds, none of them a stuck line. -/
def holdsOk (holds : List Nat) : Bool := holds.all (fun h => decide (h < 500))

/-- What is wrong with a run of holds that ends a reception. -/
def endingHolds (holds : List Nat) : Option Flaw :=
  if holds.isEmpty then some .noHold else Flaw.unless (holdsOk holds) .hold

/-- What is wrong with a frame of another station. -/
def frameFlaw (source : BitVec 6) (body : List Octet) : Option Flaw :=
  if source = 0 then some .source else Flaw.unless (decide (body.length ≤ 30)) .bodyLength

/-- What is wrong with the cause of a transmit abort. -/
def AbortCause.flaw (c : AbortCause) : Option Flaw :=
  match c with
  | .startHold _ => none
  | .headerLong holds _ => Flaw.unless (decide (holds.length < 12)) .mark
  | .sample _ _ => none
  | .slotEnd _ _ => none
  | .foundHeld _ => none

/-- What is wrong with the operands of a command, if anything. -/
def Instr.flaw (i : Instr) : Option Flaw :=
  match i with
  | .powerOnReset _ => none
  | .resetPin _ => none
  | .startUpCheck _ image => Flaw.unless (decide (image.length ≤ 106)) .imageLength
  | .restoreComplete _ => none
  | .warmingEntry _ => none
  | .warmUpTimerExpiry _ => none
  | .warmingExit _ _ _ => none
  | .loopPresenceStart _ _ => none
  | .qualifiedOnEdge _ _ => none
  | .releaseEdge _ _ => none
  | .presenceTimeout _ _ _ => none
  | .pairingDeadline _ _ => none
  | .intervalEnd _ lanes loops => Flaw.unless (decide (lanes.Nodup ∧ loops.Nodup)) .visit
  | .vehicleRequestCompletion _ _ => none
  | .intervalRequestCompletion _ _ => none
  | .traceFramePlaced _ => none
  | .idleGap _ => none
  | .transmitStart _ => none
  | .arbitrationLost _ mark => Flaw.unless (decide (mark.holds.length < 12)) .mark
  | .transmitAbort _ cause => cause.flaw
  | .abortHoldEnd _ => none
  | .transmitComplete _ => none
  | .publicationTimerExpiry _ => none
  | .lapse _ holds => Flaw.unless (holdsOk holds) .hold
  | .frameAborted _ holds => endingHolds holds
  | .frameRejected _ _ _ _ body _ => Flaw.unless (decide (body.length ≤ 30)) .bodyLength
  | .lineStuck _ holds _ => Flaw.unless (holdsOk holds) .hold
  | .lineStuckEnd _ => none
  | .statusFrame _ _ source body _ => frameFlaw source body
  | .reportFrameHeard _ _ source body => frameFlaw source body
  | .neighbourExpiry _ station => Flaw.unless (decide (1 ≤ station ∧ station ≤ 62)) .station
  | .neighbourRemoval _ station _ => Flaw.unless (decide (1 ≤ station ∧ station ≤ 62)) .station
  | .isolationTimerExpiry _ _ => none
  | .holdExpiry _ => none
  | .override _ _ _ _ _ _ _ => none
  | .overrideExpiry _ _ => none
  | .closeSet _ _ _ _ _ _ _ _ => none
  | .closeClear _ _ _ _ => none
  | .shoulderOpen _ _ _ _ => none
  | .shoulderClose _ _ _ _ => none
  | .checkTimerExpiry _ => none
  | .clearanceTimerExpiry _ => none
  | .faultAck _ _ kind _ => Flaw.unless (decide (kind ≠ 0)) .kindAll
  | .faultAckAll _ _ _ => none
  | .requestFaults _ _ _ _ => none
  | .requestLanes _ _ _ _ => none
  | .requestTrace _ _ _ _ => none
  | .identity _ _ _ _ _ => none
  | .identificationDeadline _ _ => none
  | .provingReport _ _ _ _ _ _ => none
  | .provingDeadline _ _ _ => none
  | .retryTimerExpiry _ _ => none
  | .restartNotice _ _ _ _ _ => none
  | .slotWriteCompletion _ => none
  | .frameLengthRejected _ holds => endingHolds holds
  | .firstHoldWrongClass _ held =>
      if held < 500 then Flaw.unless (decide (5 ≤ held ∧ ¬(35 ≤ held ∧ held < 45))) .firstHold else some .hold
  | .arbitrationWon sent => Flaw.unless (decide (sent.holds.length = 12)) .mark
  | .commandNotAddressed _ kind body =>
      if 2 ≤ kind.toNat ∧ kind.toNat ≤ 7 then Flaw.unless (decide (body.length ≤ 30)) .bodyLength else some .commandKind
  | .shoulderOtherAction _ _ _ action => Flaw.unless (decide (action ≠ 1 ∧ action ≠ 2)) .action
  | .requestOtherType _ _ type _ _ => Flaw.unless (decide (type ≠ 1 ∧ type ≠ 2 ∧ type ≠ 3)) .requestType

/-- The command's operands can occur. -/
def Instr.wellFormed (i : Instr) : Bool := i.flaw.isNone

end Sys2Proof
end

