-- ==== Sys2Proof/Certificates/Slice0/Obligations.lean ====
section
/-!
DEFINITION. The statements for the provers. A statement of what a command does concludes that `exec` answers a next
state, under hypotheses on the state and the operands alone, and says what that state holds and what it leaves alone.
-/

open Sys2Proof Sys2Proof.Machine

/-! ### The whole machine -/

/-- The command at the front of the queue runs on the queue's rest. On an empty queue the station idles, which is the
model's choice (log 1). -/
def Obligations.StepTakesTheFrontCommand : Prop :=
  (∀ (i : Instr) (s : State), step { s with pending := i :: s.pending } = exec i s) ∧
    ∀ (s : State), s.pending = [] → step s = .next s

/-- No command stops the station, none touches the queue of commands, and time passes by what the command says; a reset
starts the time afresh (log 1, log 8). -/
def Obligations.EveryCommandRunsAndTimePasses : Prop :=
  ∀ (i : Instr) (s : State), ∃ t, exec i s = .next t ∧ t.pending = s.pending ∧
    t.clock = (match elapsed i with | some dt => s.clock + dt | none => 0)

/-- The mode changes only as Table 11-1 gives, each change by its own cause (R163): CONFIG_FAULT by a start-up check that
fails (R165, R167), WARMING by the entry once the check, the restore and the identifications are done (R168), RUNNING or
ISOLATED from WARMING by the exit (R169), ISOLATED from RUNNING by the isolation condition (R70, R71), and RUNNING from
ISOLATED by a frame that has arrived (R71). CONFIG_FAULT is left by a reset alone (R170, R174), and a reset leads to
STARTING. -/
def Obligations.ModeChangesFollowTheTable : Prop :=
  ∀ (i : Instr) (s t : State), exec i s = .next t →
    (isReset i = true → t.mode = .starting) ∧
    (isReset i = false →
      modeStep s.mode t.mode = true ∧
      (s.mode = .starting → t.mode = .configFault →
        ∃ dt image, i = .startUpCheck dt image ∧ s.station.check = .underWay ∧
          (imagePasses image = false ∨ s.station.straps.good = false ∨
            (configOf (takenFields image)).lanesUsable = false ∨ (ladderBreak (configOf (takenFields image))).isSome = true)) ∧
      (s.mode = .starting → t.mode = .warming →
        ∃ dt, i = .warmingEntry dt ∧ s.station.check = .usable ∧ s.station.restored = true ∧ s.signs.anyIdentifying = false) ∧
      (s.mode = .warming → t.mode ≠ .warming →
        ∃ dt modeFirst o, i = .warmingExit dt modeFirst o ∧ s.station.warmedUp = true ∧ s.station.firstEvaluation = true ∧
          t.mode = if s.neighbours.isolation then .isolated else .running) ∧
      (s.mode = .running → t.mode = .isolated →
        t.neighbours.isolation = true ∧
          ((∃ dt o e, i = .isolationTimerExpiry dt o ∧ s.neighbours.isolationTimer = some e ∧ e ≤ s.clock + dt) ∨
            ∃ dt holds o, i = .lineStuck dt holds o ∧ s.line.stuck = false ∧ t.line.stuck = true)) ∧
      (s.mode = .isolated → t.mode = .running →
        t.neighbours.isolation = false ∧
          ((∃ dt cls source body o, i = .statusFrame dt cls source body o) ∨
            (∃ dt cls source body, i = .reportFrameHeard dt cls source body) ∨
            (∃ dt kind body, i = .commandNotAddressed dt kind body) ∨ (gatewayCommand i).isSome = true)))

/-! ### Invariants that every step keeps -/

/-- The state right after reset is sound in every respect. -/
def Obligations.ResetStateIsSound : Prop :=
  State.reset.faults.sound ∧ requestsSound State.reset.requests ∧ State.reset.line.sound ∧ State.reset.station.sound ∧
    State.reset.neighboursSound ∧ State.reset.closuresSound ∧ State.reset.shoulderSound ∧ State.reset.stepsSound ∧
    State.reset.speedSound ∧ State.reset.composerSound ∧ State.reset.signs.sound ∧ State.reset.retentionSound ∧
    State.reset.writerIdle

/-- R177, R178: every step keeps the fault list sound. -/
def Obligations.FaultListStaysSound : Prop :=
  ∀ (s t : State), s.faults.sound → step s = .next t → t.faults.sound

/-- R20, R21, R28: every step keeps the request queue within its 12 places and their shares. -/
def Obligations.RequestQueueStaysWithinItsPlaces : Prop :=
  ∀ (s t : State), requestsSound s.requests → step s = .next t → requestsSound t.requests

/-- R47, R48, R51, R54, R56: every step keeps the line interface sound. That between commands the receiver stands in IDLE,
or in the header of a frame taken over, is the model's choice: a row runs a whole reception (log 11). -/
def Obligations.LineInterfaceStaysSound : Prop :=
  ∀ (s t : State), s.line.sound → step s = .next t → t.line.sound

/-- R164, R166 to R168: every step keeps station control sound. -/
def Obligations.StationControlStaysSound : Prop :=
  ∀ (s t : State), s.station.sound → step s = .next t → t.station.sound

/-- R62 to R64, R71, R73: every step keeps the neighbour table sound, and a sound table holds at most 8 entries, at most
one for each number. That the entries stand in rising order of number is the model's choice (log 19). -/
def Obligations.NeighbourTableStaysSound : Prop :=
  (∀ (s t : State), s.station.sound → s.neighboursSound → step s = .next t → t.neighboursSound) ∧
    ∀ (s : State), s.station.sound → s.neighboursSound →
      s.neighbours.entries.length ≤ 8 ∧ (s.neighbours.entries.map (·.station)).Nodup

/-- R108, R109, R111, R114, R115: every step keeps the closure table sound, so that it never holds an entry that does not
apply, nor two entries of one origin. -/
def Obligations.ClosureTableStaysSound : Prop :=
  ∀ (s t : State), s.station.sound → s.closuresSound → step s = .next t → t.closuresSound

/-- R124, R126 to R130: every step keeps the shoulder sound. -/
def Obligations.ShoulderStaysSound : Prop :=
  ∀ (s t : State), s.shoulderSound → step s = .next t → t.shoulderSound

/-- R82, R85 to R87, R92: while the station acts, the bound is the largest term present, the plan step lies in 0 to 6 and
is never below it, and the END condition is as its inputs give it, after every step. -/
def Obligations.PlanStepIsNeverBelowItsBound : Prop :=
  ∀ (s t : State), s.station.sound → s.closuresSound → s.stepsSound → s.speedSound → step s = .next t →
    t.stepsSound ∧ t.speedSound

/-- R141 to R143: while the display is on, the next plan is the composition of its inputs and differs from the active
plan only while a channel is SETTING, after every step. -/
def Obligations.PlanWaitsOnlyForAChannelInSetting : Prop :=
  ∀ (s t : State), s.composerSound → step s = .next t → t.composerSound

/-- R148, R154, R157, R158: every step keeps the sign channels sound. -/
def Obligations.SignChannelsStaySound : Prop :=
  ∀ (s t : State), s.signs.sound → step s = .next t → t.signs.sound

/-- R171 to R173: every step keeps the retention store sound, so that with no slot dirty and no write in flight each slot
says what its position holds. -/
def Obligations.RetentionStoreAgreesWithTheTable : Prop :=
  ∀ (s t : State), s.station.sound → s.closuresSound → s.writerIdle → s.retentionSound → step s = .next t →
    t.retentionSound ∧ t.writerIdle

/-! ### Formats -/

/-- R61, R184: a station sends no unreadable status body, and a receiver reads from it the record that was assembled. -/
def Obligations.StatusBodyReadsBackAsSent : Prop :=
  ∀ (s : State), s.mode ≠ .starting → s.station.sound → s.closuresSound → s.stepsSound → s.speedSound → s.faults.sound →
    s.line.sound → readStatus s.statusRecord.body = some s.statusRecord

/-- R40, R41, R44: the holds of a frame's marks, heard after an idle gap, give the receiver the frame's digits, whole and
in order. -/
def Obligations.FrameMarksAreHeardAsItsDigits : Prop :=
  ∀ (f : Frame), f.body.length ≤ 30 →
    hearHolds { phase := .idle, gapSeen := true, digits := [] } (f.marks.map (fun m => 10 * m.held)) = some (.complete f.digits)

/-! ### Station control -/

/-- R164, R174, R162, R183: power-on reset and the reset pin act alike. Every block takes its reset values; the slots keep
their markers, and all but one cut short in the write of an entry keep their content; bad straps raise CONFIG FAULT. The
straps give a number from 1 to 62 when every pin gives a digit, pin 1 most significant. The values that the reset tables do
not give are the model's choice (log 7), and so is that the queue of commands and the levels of the loop inputs outlast a
reset (log 10). -/
def Obligations.ResetsRestartTheStation : Prop :=
  (∀ (straps : Straps) (s : State), ∃ t, exec (.powerOnReset straps) s = .next t ∧ exec (.resetPin straps) s = .next t ∧
    t.clock = 0 ∧ t.station = { Station.reset with straps := readStraps straps } ∧ t.detector = Detector.reset ∧
    t.trace = Trace.reset ∧ t.requests = [] ∧ t.records = Lanes.const LaneRecord.reset ∧
    t.measures = { speed := none, occupancy := none } ∧ t.line = Line.reset ∧ t.neighbours = Neighbours.reset ∧
    t.speed = Speed.reset ∧ t.queue = QueueMonitor.reset ∧ t.closures = Slots.const none ∧ t.shoulder = Shoulder.reset ∧
    t.composer = Composer.reset ∧ t.signs = Signs.reset ∧ t.retention.dirty = Slots.const false ∧
    t.retention.write = none ∧
    (∀ p ∈ Pos.all, (t.retention.slots.get p).marker = (s.retention.slots.get p).marker) ∧
    (∀ p ∈ Pos.all, (∀ w, s.retention.write = some w → w.slot = p → w.latched = none) →
      t.retention.slots.get p = s.retention.slots.get p) ∧
    t.faults = (if (readStraps straps).good then { entries := [], overflow := false }
      else { entries := [{ kind := .configFault, unit := 0, firstSeen := 0, count := 1, active := true, acked := false }], overflow := false }) ∧
    t.pending = s.pending ∧ t.inputs = s.inputs) ∧
  (∀ (n : Nat), 1 ≤ n → n ≤ 62 →
    let pin (i : Nat) : PinLevel := if n.testBit i then .high else .low
    readStraps { pin1 := pin 5, pin2 := pin 4, pin3 := pin 3, pin4 := pin 2, pin5 := pin 1, pin6 := pin 0 } = .number n) ∧
  (∀ (p : Straps), (p.pin1 = .floating ∨ p.pin2 = .floating ∨ p.pin3 = .floating ∨ p.pin4 = .floating ∨ p.pin5 = .floating ∨
      p.pin6 = .floating ∨ p = { pin1 := .low, pin2 := .low, pin3 := .low, pin4 := .low, pin5 := .low, pin6 := .low } ∨
      p = { pin1 := .high, pin2 := .high, pin3 := .high, pin4 := .high, pin5 := .high, pin6 := .high }) → readStraps p = .bad)

/-- R151, R152, R166, R167: a usable image is kept as clamped, every clamped field raises CONFIG CLAMPED, every configured
channel begins identification and every other becomes ABSENT; the station stays in STARTING. That the clamps are raised in
the ascending order of their field numbers is the model's choice (log 14). -/
def Obligations.StartUpCheckHandsOver : Prop :=
  ∀ (dt : Nat) (image : List Octet) (s : State) (n : Nat),
    s.mode = .starting → s.station.check = .underWay → s.station.straps = .number n → imagePasses image = true →
    (configOf (takenFields image)).lanesUsable = true → ladderBreak (configOf (takenFields image)) = none →
    ∃ t, exec (.startUpCheck dt image) s = .next t ∧ t.clock = s.clock + dt ∧
      t.station = { s.station with config := some (configOf (takenFields image)), check := .usable } ∧
      t.signs.handedOver = true ∧
      (∀ c ∈ Chan.all, t.signs.get c =
        if t.chanConfigured c then
          { Channel.reset with identifyBy := some (s.clock + dt + (configOf (takenFields image)).provingTimeout * 1000) }
        else { Channel.reset with state := .absent }) ∧
      t.signs.sent = (Chan.all.filter t.chanConfigured).map (fun c => (c, SignMessage.identify)) ∧
      t.faults = (clampedFields image).foldl (fun l f => l.raise .configClamped f ((s.clock + dt) / second)) s.faults ∧
      SameOutside [.clock, .station, .signs, .faults] s t

/-- R53, R160, R165, R167, R170: a failed image, bad straps, a lane count outside 2 to 5 or a ladder out of order ends the
check in CONFIG_FAULT: every channel ABSENT, BLANK sent once on all six lines, and with good straps the publication
started. A failed image raises CONFIG FAULT with unit 0 and is judged no further; the period it leaves open is the
model's free value (log 5). A passing image is kept as clamped, and raises CONFIG CLAMPED for each clamped field, CONFIG
FAULT with unit 1 for its lane count and with the number of the first field that breaks the ladder; the order of these is
the model's choice (log 14), and so is that of the three fields of one step (log 17). -/
def Obligations.StartUpCheckEndsInConfigFault : Prop :=
  (∀ (dt : Nat) (image : List Octet) (s : State),
    s.mode = .starting → s.station.check = .underWay → s.station.straps ≠ .unread →
    (imagePasses image = false ∨ s.station.straps = .bad ∨ (configOf (takenFields image)).lanesUsable = false ∨
      (ladderBreak (configOf (takenFields image))).isSome = true) →
    ∃ t, exec (.startUpCheck dt image) s = .next t ∧ t.clock = s.clock + dt ∧ t.mode = .configFault ∧
      t.station.check = .failed ∧ t.station.straps = s.station.straps ∧
      (∀ c ∈ Chan.all, (t.signs.get c).state = .absent) ∧
      t.signs.sent =
        [(.lane .l1, .laneAspect 0 .blank 0), (.lane .l2, .laneAspect 0 .blank 0), (.lane .l3, .laneAspect 0 .blank 0),
         (.lane .l4, .laneAspect 0 .blank 0), (.lane .l5, .laneAspect 0 .blank 0), (.legend, .legendAspect 0 .none false)] ∧
      (imagePasses image = false →
        t.faults = s.faults.raise .configFault 0 ((s.clock + dt) / second) ∧ t.station.config = s.station.config) ∧
      (imagePasses image = true →
        let c := configOf (takenFields image)
        let clamped := (clampedFields image).foldl (fun l f => l.raise .configClamped f ((s.clock + dt) / second)) s.faults
        let counted :=
          if 2 ≤ c.laneCount ∧ c.laneCount ≤ 5 then clamped else clamped.raise .configFault 1 ((s.clock + dt) / second)
        t.faults = (match ladderBreak c with
          | some n => counted.raise .configFault n ((s.clock + dt) / second)
          | none => counted) ∧
        t.station.config = some c) ∧
      (s.station.straps = .bad → t.line = s.line) ∧
      (s.station.straps.good = true → t.line.pending = true ∧
        ((s.station.config = none ∨ imagePasses image = true) →
          1 ≤ t.line.timerPeriod ∧ t.line.timerPeriod ≤ 10 ∧
            t.line.pubTimer = some (s.clock + dt + t.line.timerPeriod * second))) ∧
      SameOutside [.clock, .station, .signs, .faults, .line, .free] s t) ∧
  ∀ (c : StationConfig),
    let inOrder (k : Nat) : Prop :=
      c.limit.get k < c.limit.get (k - 1) ∧ c.sEnter.get k ≤ c.sEnter.get (k - 1) ∧ c.oEnter.get (k - 1) ≤ c.oEnter.get k
    (ladderBreak c = none ↔ ∀ k, 2 ≤ k → k ≤ 6 → inOrder k) ∧
      ∀ n, ladderBreak c = some n → ∃ k, 2 ≤ k ∧ k ≤ 6 ∧ (∀ j, 2 ≤ j → j < k → inOrder j) ∧
        n = if c.limit.get (k - 1) ≤ c.limit.get k then 29 + k
          else if c.sEnter.get (k - 1) < c.sEnter.get k then 35 + k
          else 41 + k

/-- R173: the restore keeps exactly the entries of the slots that are VALID, correctly checked, in their ranges and
applicable at the own number, one for each origin, the lowest-numbered slot first. RETENTION INTERRUPTED and RETENTION
CORRUPT are raised slot by slot, and a slot that is not kept and not EMPTY is left dirty or is being emptied. -/
def Obligations.RestoreKeepsTheUsableSlots : Prop :=
  ∀ (dt : Nat) (s : State),
    s.mode = .starting → s.station.check = .usable → s.station.restored = false → s.closures = Slots.const none →
    let usable (p : Pos) (c : Closure) : Prop :=
      (s.retention.slots.get p).marker = markerValid ∧
        (s.retention.slots.get p).check = (s.retention.slots.get p).image.check ∧
        (s.retention.slots.get p).image.entry = some c ∧ c.applies s.own = true
    let fault (p : Pos) : Option FaultKind :=
      let r := s.retention.slots.get p
      if r.marker = markerEmpty then none
      else if r.marker = markerWriting then some .retentionInterrupted
      else if r.marker = markerValid ∧ r.check = r.image.check ∧ r.image.entry.isSome = true then none
      else some .retentionCorrupt
    ∃ t, exec (.restoreComplete dt) s = .next t ∧ t.clock = s.clock + dt ∧
      t.station = { s.station with restored := true } ∧
      (∀ p ∈ Pos.all, ∀ c, t.closures.get p = some c ↔
        usable p c ∧ ∀ q ∈ Pos.all, q.num < p.num → ∀ d, usable q d → d.origin ≠ c.origin) ∧
      t.faults = Pos.all.foldl (fun l p =>
        match fault p with
        | some k => l.raise k p.num ((s.clock + dt) / second)
        | none => l) s.faults ∧
      (∀ p ∈ Pos.all, (s.retention.slots.get p).marker ≠ markerEmpty → t.closures.get p = none →
        t.retention.dirty.get p = true ∨ t.retention.write = some { slot := p, latched := none }) ∧
      SameOutside [.clock, .station, .closures, .retention, .faults] s t ∧ t.quiet

/-- R2, R53, R70, R86, R141, R147, R168, R169: at the entry into WARMING the warm-up timer, the publication, the isolation
timer, the interval timer and the display start, the first plan step is the first lower bound, and the first plan is the
composition of the inputs, committed unless a channel is SETTING. -/
def Obligations.WarmingEntryStartsTheBlocks : Prop :=
  ∀ (dt : Nat) (s : State),
    s.mode = .starting → s.station.check = .usable → s.station.restored = true → s.signs.anyIdentifying = false →
    s.speed = Speed.reset →
    ∃ t, exec (.warmingEntry dt) s = .next t ∧ t.clock = s.clock + dt ∧
      t.station = { s.station with mode := .warming, warmUp := some (s.clock + dt + s.cfg.expiryCount * s.cfg.period * second)
                                   warmedUp := false, firstEvaluation := false, markSetAt := none } ∧
      t.detector.intervalStart = t.tick ∧ t.detector.intervalEnd = some (t.tick + BitVec.ofNat 32 (s.cfg.intervalLength * 10000)) ∧
      (∀ k ∈ Lane.all, ∀ side, (t.detector.lanes.get k).loop side =
        { status := .ok, glitches := 0
          presence := if s.loopConfigured { lane := k, side := side } && s.input { lane := k, side := side } then
            some { on := t.tick, qualified := true, timing := true } else none }) ∧
      (∀ k ∈ Lane.all, (t.detector.lanes.get k).mode =
        if s.cfg.laneCount < k.num then .none else if (s.cfg.lanes.get k).loopB then .dual else .singleA) ∧
      t.neighbours = { s.neighbours with isolationTimer := some (s.clock + dt + s.cfg.isolationTime * second) } ∧
      t.line.pending = true ∧ t.line.pubTimer = some (s.clock + dt + s.cfg.period * second) ∧
      t.line.timerPeriod = s.cfg.period ∧ t.line.gapFrom = s.clock + dt ∧ t.line.heldFrom = s.clock + dt ∧
      t.composer.display = true ∧ t.speed.planStep = t.lowerBound ∧
      t.speed.heldSince = (if t.lowerBound = 0 then 0 else s.clock + dt) ∧
      t.composer.next = t.compose ∧ (t.composer.next = t.composer.active ∨ t.signs.anySetting = true) ∧
      SameOutside (andReaders [.clock, .station, .detector, .neighbours]) s t

/-- R71, R77, R169: the warm-up timer's expiry is noted; once it has expired and the mark is set, the station enters
RUNNING, or ISOLATED when the isolation condition is present. Only an evaluation made at this very moment, when the mode
change is taken first, becomes a demand evaluation. -/
def Obligations.WarmUpEndsInRunningOrIsolated : Prop :=
  (∀ (dt e : Nat) (s : State), s.mode = .warming → s.station.warmUp = some e → e ≤ s.clock + dt →
    ∃ t, exec (.warmUpTimerExpiry dt) s = .next t ∧ t.clock = s.clock + dt ∧
      t.station = { s.station with warmUp := none, warmedUp := true } ∧ SameOutside [.clock, .station] s t ∧ t.quiet) ∧
  ∀ (dt : Nat) (modeFirst : Bool) (o : Order) (s : State),
    s.mode = .warming → s.station.warmedUp = true → s.station.firstEvaluation = true →
    ∃ t, exec (.warmingExit dt modeFirst o) s = .next t ∧ t.clock = s.clock + dt ∧
      t.station = { s.station with mode := if s.neighbours.isolation then .isolated else .running } ∧
      (s.shoulder.state = .closed → t.shoulder = s.shoulder) ∧
      ((modeFirst = false ∨ s.station.markSetAt ≠ some (s.clock + dt)) →
        t.speed.demand = s.speed.demand ∧ t.speed.dwell = s.speed.dwell ∧ t.faults = s.faults) ∧
      ((modeFirst = true ∧ s.station.markSetAt = some (s.clock + dt) ∧ s.speed.demand ≤ s.candidate ∧
          (s.measures.speed ≠ none ∨ s.measures.occupancy ≠ none)) → t.speed.demand = s.candidate ∧ t.speed.dwell = 0) ∧
      SameOutside (andReaders [.clock, .station, .shoulder, .faults]) s t

/-- R172: at the completion of a write the slot holds the latched image with its check and is VALID, or is EMPTY with its
old image; the writer then starts the lowest-numbered dirty slot, which it latches and marks WRITING. -/
def Obligations.SlotWriteCompletes : Prop :=
  ∀ (dt : Nat) (s : State) (w : SlotWrite), s.writerOn = true → s.retention.write = some w →
    let done : RetentionSlot :=
      match w.latched with
      | some i => { marker := markerValid, image := i, check := checkOctets i.octets }
      | none => { s.retention.slots.get w.slot with marker := markerEmpty }
    let slots := s.retention.slots.set w.slot done
    ∃ t, exec (.slotWriteCompletion dt) s = .next t ∧ t.clock = s.clock + dt ∧
      (s.retention.dirty = Slots.const false → t.retention = { slots := slots, dirty := s.retention.dirty, write := none }) ∧
      (∀ p ∈ Pos.all, s.retention.dirty.get p = true → (∀ q ∈ Pos.all, s.retention.dirty.get q = true → p.num ≤ q.num) →
        t.retention =
          { slots := slots.set p { slots.get p with marker := markerWriting }, dirty := s.retention.dirty.set p false
            write := some { slot := p, latched := (s.closures.get p).map Closure.image } }) ∧
      SameOutside [.clock, .retention] s t ∧ t.quiet

/-! ### Detectors -/

/-- R2, R3: an input that becomes present begins an unqualified presence at the raw on time of a configured loop of an
acting station, and changes nothing but the level otherwise. A presence that releases before it has lasted G ticks is a
glitch, whose count saturates at 255. -/
def Obligations.PresencesBeginAndGlitchesCount : Prop :=
  (∀ (dt : Nat) (l : Loop) (s : State), s.input l = false →
    ∃ t, exec (.loopPresenceStart dt l) s = .next t ∧ t.clock = s.clock + dt ∧ t.input l = true ∧
      (∀ l', l' ≠ l → t.input l' = s.input l') ∧
      t.detector =
        (if s.acting && s.loopConfigured l then
          (s.setLoop l { s.loop l with presence := some { on := BitVec.ofNat 32 ((s.clock + dt) / 100), qualified := false, timing := false } }).detector
        else s.detector) ∧
      SameOutside [.clock, .inputs, .detector] s t ∧ t.quiet) ∧
  ∀ (dt : Nat) (l : Loop) (s : State) (p : Presence),
    s.input l = true → s.acting = true → s.loopConfigured l = true → (s.loop l).presence = some p → p.qualified = false →
    (s.advance dt).lasted p = false →
    ∃ t, exec (.releaseEdge dt l) s = .next t ∧ t.clock = s.clock + dt ∧ t.input l = false ∧
      (∀ l', l' ≠ l → t.input l' = s.input l') ∧
      t.detector = (s.setLoop l { s.loop l with presence := none, glitches := min ((s.loop l).glitches + 1) 255 }).detector ∧
      SameOutside [.clock, .inputs, .detector] s t ∧ t.quiet

/-- R3, R9, R10, R13, R15: a qualified on edge makes the presence qualified with its timeout running. Of an OK loop A in
DUAL it appends an arrival with the raw on time and sets the occupancy mark, the oldest of four completing first as a
vehicle not paired; of the counting loop in a single-loop mode it creates the one entry. Of an OK loop B in DUAL it is
offered to the oldest entry that is neither paired nor resolved: it is an orphan before it, pairs with it within Tmax, and
beyond Tmax resolves it and goes on to the next; every entry that this completes completes as a vehicle. Of two edges of
one lane the earlier raw on time is taken first, and loop A's with equal ones, whichever command comes first. -/
def Obligations.QualifiedEdgesAppendAndPair : Prop :=
  let qualified (p : Presence) : Presence := { on := p.on, qualified := true, timing := true }
  let fresh (p : Presence) : Arrival := { on := p.on, off := none, bOn := none, resolved := false }
  let marked (s : State) (p : Presence) : Option Tick :=
    some (if precedes p.on s.detector.intervalStart then s.detector.intervalStart else p.on)
  let edge (s : State) (dt : Nat) (l : Loop) (p : Presence) : Prop :=
    s.acting = true ∧ s.loopConfigured l = true ∧ (s.loop l).presence = some p ∧ p.qualified = false ∧
      (s.advance dt).lasted p = true ∧ (s.advance dt).edgeFree l p ∧ (s.loop l).status = .ok ∧
      (l.lane ≠ .l1 ∨ s.shoulder.state ≠ .checking)
  (∀ (dt : Nat) (k : Lane) (s : State) (p : Presence),
    let d := s.detector.lanes.get k
    edge s dt { lane := k, side := .a } p → d.mode = .dual → d.arrivals.length < 4 →
    ∃ t, exec (.qualifiedOnEdge dt { lane := k, side := .a }) s = .next t ∧ t.clock = s.clock + dt ∧
      t.detector = (s.setLane k
        { d with a := { d.a with presence := some (qualified p) }, arrivals := d.arrivals ++ [fresh p], mark := marked s p }).detector ∧
      SameOutside [.clock, .detector] s t ∧ t.quiet) ∧
  (∀ (dt : Nat) (k : Lane) (s : State) (p : Presence) (oldest : Arrival) (rest : List Arrival) (off : Tick),
    let d := s.detector.lanes.get k
    edge s dt { lane := k, side := .a } p → d.mode = .dual → d.arrivals = oldest :: rest → rest.length = 3 →
    oldest.off = some off → oldest.bOn = none → (∀ e ∈ rest, e.complete = false) →
    ∃ t, exec (.qualifiedOnEdge dt { lane := k, side := .a }) s = .next t ∧ t.clock = s.clock + dt ∧
      t.detector = (s.setLane k
        { d with a := { d.a with presence := some (qualified p) }, arrivals := rest ++ [fresh p], mark := marked s p
                 sums := { d.sums with n := d.sums.n + 1 } }).detector ∧
      s.delivered { lane := k, seconds := (s.clock + dt) / second, tick := BitVec.ofNat 32 ((s.clock + dt) / 100)
                    onA := (off - oldest.on).toNat, result := .unmeasured .notPaired } t ∧
      SameOutside [.clock, .detector, .trace, .queue] s t ∧ t.quiet) ∧
  (∀ (dt : Nat) (l : Loop) (s : State) (p : Presence),
    let d := s.detector.lanes.get l.lane
    edge s dt l p → ((d.mode = .singleA ∧ l.side = .a) ∨ (d.mode = .singleB ∧ l.side = .b)) →
    ∃ t, exec (.qualifiedOnEdge dt l) s = .next t ∧ t.clock = s.clock + dt ∧
      t.detector = (s.setLane l.lane
        { d.setLoop l.side { s.loop l with presence := some (qualified p) } with
          arrivals := [fresh p], mark := marked s p }).detector ∧
      SameOutside [.clock, .detector] s t ∧ t.quiet) ∧
  (∀ (dt : Nat) (k : Lane) (s : State) (p : Presence),
    let d := s.detector.lanes.get k
    let offered := offerEdge ((s.cfg.lanes.get k).spacing * 72) p.on d.arrivals
    edge s dt { lane := k, side := .b } p → d.mode = .dual →
    exec (.qualifiedOnEdge dt { lane := k, side := .b }) s =
      .next ((offered.filter (fun e => e.off.isSome && (e.bOn.isSome || e.resolved))).foldl (fun t e => t.completeVehicle k e)
        ((s.advance dt).setLane k
          { d with b := { d.b with presence := some (qualified p) }
                   arrivals := offered.filter (fun e => !(e.off.isSome && (e.bOn.isSome || e.resolved))) }))) ∧
  (∀ (tmax : Nat) (on : Tick) (pre post : List Arrival) (a : Arrival),
    (∀ e ∈ pre, e.bOn ≠ none ∨ e.resolved = true) → a.bOn = none → a.resolved = false →
    offerEdge tmax on pre = pre ∧
      offerEdge tmax on (pre ++ a :: post) = pre ++
        (if precedes on a.on then a :: post
        else if (on - a.on).toNat ≤ tmax then { a with bOn := some on } :: post
        else { a with resolved := true } :: offerEdge tmax on post)) ∧
  ∀ (dt : Nat) (l : Loop) (s : State) (p q : Presence),
    s.acting = true → s.loopConfigured l = true → s.loopConfigured (otherLoop l) = true →
    (s.loop l).presence = some p → p.qualified = false → (s.advance dt).lasted p = true →
    (s.loop (otherLoop l)).presence = some q → q.qualified = false → (s.advance dt).lasted q = true →
    (precedes q.on p.on = true ∨ (l.side = .b ∧ q.on = p.on)) → precedes p.on q.on = false →
    (l.lane ≠ .l1 ∨ s.shoulder.state ≠ .checking) →
    ∃ t u, exec (.qualifiedOnEdge dt (otherLoop l)) s = .next u ∧ exec (.qualifiedOnEdge 0 l) u = .next t ∧
      exec (.qualifiedOnEdge dt l) s = .next t

/-- R4, R8, R9, R12 to R15, R21: the release of the counting loop adds its held time to ΣOn. In DUAL it sets the A-off time
of the newest entry that has none, which completes if it is paired or resolved; in a single-loop mode the entry completes as
a single-loop vehicle, unless it was paired in DUAL; without such an entry no vehicle comes of it. A completed vehicle counts
by its outcome: measured, it also counts in m and ΣT and its VEHICLE request is taken while fewer than 7 are held and is else
a record with reason LOAD; with T = 0 it is IMPLAUSIBLE; without a pairing it is NOT PAIRED. The release of a STUCK loop ends
LOOP STUCK and settles the lane's mode. -/
def Obligations.ReleaseCompletesAPairedVehicle : Prop :=
  let released (s : State) (l : Loop) (p : Presence) : Prop :=
    s.input l = true ∧ s.acting = true ∧ s.loopConfigured l = true ∧ (s.loop l).presence = some p ∧ p.qualified = true ∧
      (s.loop l).status = .ok
  let left (s : State) (dt : Nat) (l : Loop) (arrivals : List Arrival) : State :=
    let d := s.detector.lanes.get l.lane
    let on := match d.mark with | some m => heldTicks m (BitVec.ofNat 32 ((s.clock + dt) / 100)) | none => 0
    ((s.advance dt).setInput l false).setLane l.lane
      { d.setLoop l.side { s.loop l with presence := none } with
        arrivals := arrivals, mark := none, sums := { d.sums with sumOn := d.sums.sumOn + on } }
  (∀ (dt : Nat) (k : Lane) (s : State) (p : Presence) (pre : List Arrival) (a : Arrival),
    let l : Loop := { lane := k, side := .a }
    let d := s.detector.lanes.get k
    let e : Arrival := { a with off := some (BitVec.ofNat 32 ((s.clock + dt) / 100)) }
    released s l p → d.mode = .dual → d.arrivals = pre ++ [a] → a.off = none → (∀ e ∈ pre, e.complete = false) →
    exec (.releaseEdge dt l) s =
      .next (if a.bOn ≠ none ∨ a.resolved = true then (left s dt l pre).completeVehicle k e else left s dt l (pre ++ [e]))) ∧
  (∀ (dt : Nat) (k : Lane) (s : State) (p : Presence),
    let l : Loop := { lane := k, side := .a }
    let d := s.detector.lanes.get k
    released s l p → d.mode = .dual → (∀ e ∈ d.arrivals, e.off ≠ none ∧ e.complete = false) →
    exec (.releaseEdge dt l) s = .next (left s dt l d.arrivals)) ∧
  (∀ (dt : Nat) (l : Loop) (s : State) (p : Presence) (a : Arrival),
    let d := s.detector.lanes.get l.lane
    let now : Tick := BitVec.ofNat 32 ((s.clock + dt) / 100)
    released s l p → ((d.mode = .singleA ∧ l.side = .a) ∨ (d.mode = .singleB ∧ l.side = .b)) →
    (d.arrivals = [] → exec (.releaseEdge dt l) s = .next (left s dt l [])) ∧
    (d.arrivals = [a] → d.mode = .singleA → a.bOn ≠ none →
      exec (.releaseEdge dt l) s = .next ((left s dt l []).completeVehicle l.lane { a with off := some now })) ∧
    (d.arrivals = [a] → (d.mode = .singleB ∨ a.bOn = none) →
      ∃ t, exec (.releaseEdge dt l) s = .next t ∧
        t.detector = ((left s dt l []).setSums l.lane
          { ((left s dt l []).detector.lanes.get l.lane).sums with n := d.sums.n + 1 }).detector ∧
        s.delivered { lane := l.lane, seconds := (s.clock + dt) / second, tick := now, onA := (now - a.on).toNat
                      result := .unmeasured .singleLoop } t ∧
        SameOutside [.clock, .inputs, .detector, .trace, .queue] s t ∧ t.quiet)) ∧
  (∀ (s : State) (k : Lane) (a : Arrival) (off : Tick), a.off = some off →
    let x := (s.detector.lanes.get k).sums
    let c := s.cfg.lanes.get k
    let t := s.completeVehicle k a
    let record (reason : UnmeasuredReason) : VehicleRecord :=
      { lane := k, seconds := s.seconds, tick := s.tick, onA := (off - a.on).toNat, result := .unmeasured reason }
    (∀ b, a.bOn = some b → b ≠ a.on → vehicleCount s.requests < 7 →
      t = (s.setSums k { x with n := x.n + 1, m := x.m + 1, sumT := x.sumT + (b - a.on).toNat }).setRequests
        (s.requests ++ [.vehicle
          { lane := k, spacing := c.spacing, transit := (b - a.on).toNat, onA := (off - a.on).toNat, loopLength := c.loopLength
            longThreshold := c.longThreshold, seconds := s.seconds, tick := s.tick }])) ∧
    (∀ b, a.bOn = some b → b ≠ a.on → 7 ≤ vehicleCount s.requests →
      t.detector = (s.setSums k { x with n := x.n + 1, m := x.m + 1, sumT := x.sumT + (b - a.on).toNat }).detector ∧
        s.delivered (record .load) t ∧ SameOutside [.detector, .trace, .queue] s t) ∧
    (a.bOn = some a.on →
      t.detector = (s.setSums k { x with n := x.n + 1, implausible := min (x.implausible + 1) 255 }).detector ∧
        s.delivered (record .implausible) t ∧ SameOutside [.detector, .trace, .queue] s t) ∧
    (a.bOn = none →
      t.detector = (s.setSums k { x with n := x.n + 1 }).detector ∧ s.delivered (record .notPaired) t ∧
        SameOutside [.detector, .trace, .queue] s t)) ∧
  ∀ (dt : Nat) (l : Loop) (s : State) (p : Presence),
    s.input l = true → s.acting = true → s.loopConfigured l = true → (s.loop l).presence = some p → p.qualified = true →
    (s.loop l).status = .stuck →
    let d := (s.detector.lanes.get l.lane).setLoop l.side { s.loop l with presence := none, status := .ok }
    ∃ t, exec (.releaseEdge dt l) s = .next t ∧ t.clock = s.clock + dt ∧ t.input l = false ∧
      (∀ l', l' ≠ l → t.input l' = s.input l') ∧ t.faults = s.faults.close .loopStuck (loopNumber l) ∧
      (s.advance dt).settledFrom l.lane d (BitVec.ofNat 32 ((s.clock + dt) / 100)) t ∧
      (let e := t.detector.lanes.get l.lane
      e.measured = (d.measured || (e.mode != d.mode && e.mode != .none))) ∧
      (∀ k, k ≠ l.lane → t.detector.lanes.get k = s.detector.lanes.get k) ∧
      SameOutside [.clock, .inputs, .detector, .requests, .trace, .queue, .faults] s t ∧ t.quiet

/-- R4, R6 to R8, R15: a presence timeout makes the loop STUCK and its timeout stands still; the held time of a counting
loop up to the expiry counts in ΣOn. LOOP STUCK is raised, a loop that was in CHATTER ends LOOP CHATTER at the same moment,
in the order the command names (log 3), and the lane's measurement mode is recomputed as of the expiry: a change of mode
settles its list, its occupancy and its slow-vehicle run. -/
def Obligations.PresenceTimeoutMakesTheLoopStuck : Prop :=
  ∀ (dt : Nat) (l : Loop) (endFirst : Bool) (s : State) (p : Presence),
    s.acting = true → s.loopConfigured l = true → (s.loop l).presence = some p → p.qualified = true → p.timing = true →
    (s.advance dt).reached (s.timeoutTick p) = true → (s.loop l).status ≠ .stuck →
    (l.lane ≠ .l1 ∨ s.shoulder.state ≠ .checking) →
    let moment := p.on + BitVec.ofNat 32 (s.cfg.presenceTimeout * 10000)
    let d0 := (s.detector.lanes.get l.lane).setLoop l.side
      { s.loop l with status := .stuck, presence := some { p with timing := false } }
    let on := match d0.mark with | some m => heldTicks m moment | none => 0
    let counts : Prop := (l.side = .a ∧ (d0.mode = .dual ∨ d0.mode = .singleA)) ∨ (l.side = .b ∧ d0.mode = .singleB)
    let d1 : LaneDetector := { d0 with mark := none, sums := { d0.sums with sumOn := d0.sums.sumOn + on } }
    ∃ t, exec (.presenceTimeout dt l endFirst) s = .next t ∧ t.clock = s.clock + dt ∧
      (counts → (s.advance dt).settledFrom l.lane d1 moment t) ∧
      (¬counts → (s.advance dt).settledFrom l.lane d0 moment t) ∧
      (let e := t.detector.lanes.get l.lane
      e.measured = (d0.measured || (e.mode != d0.mode && e.mode != .none))) ∧
      (∀ k, k ≠ l.lane → t.detector.lanes.get k = s.detector.lanes.get k) ∧
      t.detector.intervalStart = s.detector.intervalStart ∧ t.detector.intervalEnd = s.detector.intervalEnd ∧
      t.faults =
        (if (s.loop l).status = .ok then s.faults.raise .loopStuck (loopNumber l) ((s.clock + dt) / second)
        else if endFirst then
          (s.faults.close .loopChatter (loopNumber l)).raise .loopStuck (loopNumber l) ((s.clock + dt) / second)
        else (s.faults.raise .loopStuck (loopNumber l) ((s.clock + dt) / second)).close .loopChatter (loopNumber l)) ∧
      SameOutside [.clock, .detector, .requests, .trace, .queue, .faults] s t ∧ t.quiet

/-- R11, R12, R14: at its pairing deadline the oldest entry that is neither paired nor resolved is resolved. Without an
A-off time it stays in the list; with one it completes as a vehicle not paired, which counts in n alone. -/
def Obligations.PairingDeadlineResolvesTheOldest : Prop :=
  ∀ (dt : Nat) (k : Lane) (s : State) (pre post : List Arrival) (a : Arrival),
    let d := s.detector.lanes.get k
    s.acting = true → d.mode = .dual → d.arrivals = pre ++ a :: post →
    (∀ e ∈ pre, e.off = none ∧ (e.bOn ≠ none ∨ e.resolved = true)) → a.bOn = none → a.resolved = false →
    (∀ e ∈ post, e.complete = false) → (s.advance dt).reached (s.pairingDeadline k a) = true →
    ∃ t, exec (.pairingDeadline dt k) s = .next t ∧ t.clock = s.clock + dt ∧
      (a.off = none → t.detector = (s.setLane k
          { d with arrivals := pre ++ { a with resolved := true } :: post }).detector ∧ t.trace = s.trace ∧ t.queue = s.queue) ∧
      (a.off ≠ none → t.detector = (s.setLane k
          { d with arrivals := pre ++ post, sums := { d.sums with n := d.sums.n + 1 } }).detector) ∧
      SameOutside [.clock, .detector, .trace, .queue] s t ∧ t.quiet

/-- R5 to R8, R15, R16, R18, R28, R29: at the interval end every configured lane hands its sums, with the held time of a
counting loop still held up to that moment, as a new INTERVAL request or into the one it has. PAIR IMPLAUSIBLE is raised for
each lane with a count, the sums start again from zero, every loop is judged from its glitch count, with LOOP CHATTER raised
and ended, and the modes are recomputed, a change being settled in the new interval. The next interval runs for I × 10,000
ticks, and a capture is cut short at its 15th interval end. The order in which the lanes and the loops raise is the
command's (log 3). That a capture that ends so holds no record finished by this interval end itself, and that the pairing
deadline of an entry kept from SINGLE_A to DUAL is compared with the present tick, is the model's choice (log 13). -/
def Obligations.IntervalEndHandsTheSums : Prop :=
  ∀ (dt : Nat) (lanes : List Lane) (loops : List Loop) (s : State) (stop : Tick),
    s.acting = true → s.detector.intervalEnd = some stop → (s.advance dt).reached stop = true →
    s.shoulder.state ≠ .checking →
    let handed (k : Lane) : Snapshot :=
      let d := s.detector.lanes.get k
      let on := match d.mark with | some m => heldTicks m stop | none => 0
      { n := min d.sums.n 4294967295, m := min d.sums.m 4294967295, sumT := min d.sums.sumT 4294967295
        sumOn := min (d.sums.sumOn + on) 4294967295, nLong := min d.sums.nLong 4294967295
        covered := min (s.cfg.intervalLength * 10000) 4294967295, measured := d.measured, merges := 0 }
    let opened (k : Lane) : LaneDetector :=
      let d := s.detector.lanes.get k
      { d with a := if s.loopConfigured { lane := k, side := .a } then s.judged { lane := k, side := .a } else d.a
               b := if s.loopConfigured { lane := k, side := .b } then s.judged { lane := k, side := .b } else d.b
               sums := { n := 0, m := 0, sumT := 0, sumOn := 0, nLong := 0, implausible := 0 }
               mark := d.mark.map (fun m => if precedes m stop then stop else m) }
    ∃ t, exec (.intervalEnd dt lanes loops) s = .next t ∧ t.clock = s.clock + dt ∧
      t.detector.intervalStart = stop ∧ t.detector.intervalEnd = some (stop + BitVec.ofNat 32 (s.cfg.intervalLength * 10000)) ∧
      (∀ k ∈ s.laneList,
        (s.advance dt).settledFrom k (opened k) stop t ∧
        (t.detector.lanes.get k).measured = ((t.detector.lanes.get k).mode != .none) ∧
        t.requests.filter (Request.isIntervalOf k) =
          (if s.requests.any (Request.isIntervalOf k) then
            (s.requests.filter (Request.isIntervalOf k)).map (fun r =>
              match r with
              | .interval j x => .interval j (x.merge (handed k))
              | .vehicle v => .vehicle v)
          else [.interval k (handed k)])) ∧
      (∀ k, k ∉ s.laneList → t.detector.lanes.get k = s.detector.lanes.get k) ∧
      ((∀ k ∈ s.laneList, ∀ a ∈ (s.detector.lanes.get k).arrivals, a.off ≠ none → a.bOn = none) →
        t.requests.filter Request.isVehicle = s.requests.filter Request.isVehicle) ∧
      t.faults = s.intervalFaults (visitOrder lanes s.laneList) (visitOrder loops s.loopList) ((s.clock + dt) / second) ∧
      (s.trace.state ≠ .capturing → t.trace = s.trace) ∧
      (s.trace.state = .capturing → t.trace.intervals = s.trace.intervals + 1 ∧
        (s.trace.intervals + 1 = 15 → t.trace = { s.trace with intervals := 15, state := .draining, cutShort := true })) ∧
      t.queue.state = s.queue.state ∧
      SameOutside [.clock, .detector, .requests, .trace, .queue, .faults] s t ∧ t.quiet

/-- R18, R56, Table 13-7: a draining trace with a free place puts its oldest 4 records, or fewer, into one report frame of
2 octets and 7 for each record, numbered on, and is IDLE once its records are gone. -/
def Obligations.TraceFrameIsPlaced : Prop :=
  ∀ (dt : Nat) (s : State), s.acting = true → s.trace.state = .draining → s.line.replies.length < 4 →
    ∃ t, exec (.traceFramePlaced dt) s = .next t ∧ t.clock = s.clock + dt ∧
      t.trace = { s.trace with records := s.trace.records.drop 4, framesSent := s.trace.framesSent + 1
                               state := if s.trace.records.length ≤ 4 then .idle else .draining } ∧
      t.line.replies = s.line.replies ++ [traceBody s.trace.lane s.trace.cutShort (decide (s.trace.records.length ≤ 4))
        (s.trace.framesSent + 1) (s.trace.records.take 4)] ∧
      (∀ body, t.line.replies = s.line.replies ++ [body] → body.length = 2 + 7 * min 4 s.trace.records.length) ∧
      t.line = { s.line with replies := t.line.replies, tx := if s.line.tx = .quiet then .waiting else s.line.tx } ∧
      SameOutside [.clock, .trace, .line] s t ∧ t.quiet

/-! ### Arithmetic unit -/

/-- R25 to R27, R99, R100: a VEHICLE request completes with the truncated speed, at most 250 with the clamped mark above it, the
length from 0 to 3000 and the class by the long threshold; a transit time within Tmax gives at least 5 km/h. The record
keeps the completion time it was given, goes to a capture of its lane, and a LONG one raises n_long. An eligible slow
record raises its lane's run, which at the run length makes the queue PRESENT; any other eligible record zeroes it. With
T = 0 nothing is divided and the record is IMPLAUSIBLE (R24). -/
def Obligations.VehicleRequestCompletes : Prop :=
  (∀ (dt : Nat) (o : Order) (s : State) (r : VehicleRequest) (rest : List Request),
    s.requests = .vehicle r :: rest → 1 ≤ r.transit →
    let q := r.spacing * 360 / r.transit
    let speed := if 250 < q then 250 else q
    let len : Int := (r.spacing * r.onA / r.transit : Nat) - (r.loopLength : Int)
    let length : Nat := if len < 0 then 0 else if 3000 < len then 3000 else len.toNat
    let cls : VehicleClass := if r.longThreshold ≤ length then .long else .short
    let record : VehicleRecord :=
      { lane := r.lane, seconds := r.seconds, tick := r.tick, onA := r.onA
        result := .measured speed (decide (250 < q)) length cls }
    let eligible : Bool := s.runsForMeasurement r.lane && (s.detector.lanes.get r.lane).mode == .dual
    let run := s.queue.runs.get r.lane + 1
    (r.transit ≤ r.spacing * 72 → 5 ≤ speed) ∧
    ∃ t, exec (.vehicleRequestCompletion dt o) s = .next t ∧ t.clock = s.clock + dt ∧ t.requests = rest ∧
      (s.trace.state = .capturing ∧ s.trace.lane = r.lane.num → t.trace.records = s.trace.records ++ [record] ∧
        t.trace.captured = s.trace.captured + 1 ∧
        t.trace.state = if s.trace.captured + 1 = s.trace.requested then .draining else .capturing) ∧
      (¬(s.trace.state = .capturing ∧ s.trace.lane = r.lane.num) → t.trace = s.trace) ∧
      t.detector = (if cls = .long then
        (s.setSums r.lane { (s.detector.lanes.get r.lane).sums with nLong := (s.detector.lanes.get r.lane).sums.nLong + 1 }).detector
        else s.detector) ∧
      (eligible = false → t.queue = { s.queue with runs := s.queue.runs.set r.lane 0, term := t.queue.term }) ∧
      (eligible = true → s.cfg.shockSpeed ≤ speed → t.queue = { s.queue with runs := s.queue.runs.set r.lane 0, term := t.queue.term }) ∧
      (eligible = true → speed < s.cfg.shockSpeed → run < s.cfg.runLength →
        t.queue = { s.queue with runs := s.queue.runs.set r.lane run, term := t.queue.term }) ∧
      (eligible = true → speed < s.cfg.shockSpeed → s.cfg.runLength ≤ run →
        t.queue = { s.queue with state := .present, confirm := 0, clearCount := 0, firedAt := some (s.clock + dt)
                                 runs := s.queue.runs.set r.lane s.cfg.runLength, term := t.queue.term } ∧
          (s.acting = true → s.queue.state = .clear → t.line.urgent = true ∧ t.line.pending = true)) ∧
      SameOutside (andReaders [.clock, .requests, .trace, .detector]) s t) ∧
  ∀ (dt : Nat) (o : Order) (s : State) (r : VehicleRequest) (rest : List Request),
    s.requests = .vehicle r :: rest → r.transit = 0 →
    ∃ t, exec (.vehicleRequestCompletion dt o) s = .next t ∧ t.clock = s.clock + dt ∧ t.requests = rest ∧
      (s.trace.state = .capturing ∧ s.trace.lane = r.lane.num → t.trace.records = s.trace.records ++
        [{ lane := r.lane, seconds := r.seconds, tick := r.tick, onA := r.onA, result := .unmeasured .implausible }]) ∧
      (¬(s.trace.state = .capturing ∧ s.trace.lane = r.lane.num) → t.trace = s.trace) ∧
      t.queue.state = s.queue.state ∧ SameOutside [.clock, .requests, .trace, .queue] s t ∧ t.quiet

/-- R24, R30 to R35: an INTERVAL request completes with the flow, the occupancy and the speed of its snapshot, absent
where the measured mark is clear or the divisor is zero, and smooths S and Os by w / 8 and wo / 8 of the difference, cut toward zero. While
another INTERVAL request waits, nothing else changes. -/
def Obligations.IntervalRequestCompletes : Prop :=
  ∀ (dt : Nat) (o : Order) (s : State) (k : Lane) (x : Snapshot) (rest : List Request),
    s.requests = .interval k x :: rest →
    let r := s.records.get k
    let c := s.cfg.lanes.get k
    let q : Option Nat := if x.measured ∧ 1 ≤ x.covered then some (min (x.n * 36000000 / x.covered) 9999) else none
    let occ : Option Nat := if x.measured ∧ 1 ≤ x.covered then some (min (x.sumOn * 1000 / x.covered) 1000) else none
    let v : Option Nat :=
      if x.measured = false then none
      else if x.n = 0 then some s.cfg.vff
      else if x.m = 0 ∨ x.sumT = 0 then none
      else some (max 5 (min (c.spacing * 360 * x.m / x.sumT) 250))
    let smooth (old new : Option Nat) (w : Nat) : Option Nat :=
      match old, new with
      | _, none => old
      | none, some n => some n
      | some y, some n => some (if y ≤ n then y + (n - y) * w / 8 else y - (y - n) * w / 8)
    ∃ t, exec (.intervalRequestCompletion dt o) s = .next t ∧ t.clock = s.clock + dt ∧ t.requests = rest ∧
      (s.cfg.w ≤ 8 → s.cfg.wo ≤ 8 → t.records = s.records.set k
        { q := q, o := occ, v := v, empty := x.measured && x.n == 0, merged := decide (1 ≤ x.merges), nLong := x.nLong
          s := smooth r.s v s.cfg.w, os := smooth r.os occ s.cfg.wo }) ∧
      (rest.any (fun r => !r.isVehicle) = true → SameOutside [.clock, .requests, .records] s t ∧ t.quiet) ∧
      SameOutside (andReaders [.clock, .requests, .records, .measures, .station, .faults]) s t

/-- R36 to R38, R77 to R81, R96 to R98, R101, R102: the last INTERVAL completion makes the station evaluation. The station speed
is the least S of the running DUAL lanes, the occupancy the greatest Os of the running lanes not in NONE. In RUNNING and
ISOLATED a candidate, the highest step that a measure reaches, at or above the demand step becomes it at once; below it, the
release condition counts the dwell, at the end of which the demand falls by one; with both measures absent the demand is held
and detection is lost, until a measure comes. The queue condition counts the confirmation in CLEAR and its failure the
clearance in PRESENT, which the first evaluation after a shock of the same moment leaves standing (R101, log 24); a change of
the queue state is urgent. -/
def Obligations.StationEvaluationFollowsTheLastInterval : Prop :=
  (∀ (s : State),
    let runs (k : Lane) : Prop :=
      k.num ≤ s.cfg.laneCount ∧ s.composer.active.aspects.get k ≠ .closed ∧
        (s.cfg.shoulderLane = true → k = .l1 → s.shoulder.state = .opened)
    let lane (k : Lane) := s.detector.lanes.get k
    let reaches (k : Nat) : Prop :=
      (∃ v, s.measures.speed = some v ∧ v ≤ s.cfg.sEnter.get k) ∨ ∃ o, s.measures.occupancy = some o ∧ s.cfg.oEnter.get k ≤ o
    (∀ v, s.stationSpeed = some v ↔
      (∃ k, runs k ∧ (lane k).mode = .dual ∧ (s.records.get k).s = some v) ∧
        ∀ k w, runs k → (lane k).mode = .dual → (s.records.get k).s = some w → v ≤ w) ∧
    (∀ o, s.stationOccupancy = some o ↔
      (∃ k, runs k ∧ (lane k).mode ≠ .none ∧ (s.records.get k).os = some o) ∧
        ∀ k w, runs k → (lane k).mode ≠ .none → (s.records.get k).os = some w → w ≤ o) ∧
    s.candidate ≤ 6 ∧ (1 ≤ s.candidate → reaches s.candidate) ∧ (∀ k, s.candidate < k → k ≤ 6 → ¬reaches k) ∧
    (s.releaseHolds = true ↔
      (∀ v, s.measures.speed = some v → s.cfg.sEnter.get s.speed.demand + s.cfg.hs ≤ v) ∧
        ∀ o, s.measures.occupancy = some o → (o : Int) ≤ (s.cfg.oEnter.get s.speed.demand : Int) - (s.cfg.ho : Int)) ∧
    (s.queueCondition = true ↔
      ∃ v o, s.measures.speed = some v ∧ s.measures.occupancy = some o ∧ v ≤ s.cfg.queueSpeed ∧ s.cfg.queueOccupancy ≤ o)) ∧
  ∀ (dt : Nat) (o : Order) (s : State) (k : Lane) (x : Snapshot) (rest : List Request),
    s.requests = .interval k x :: rest → rest.all Request.isVehicle = true →
    ∃ t, exec (.intervalRequestCompletion dt o) s = .next t ∧
      let e : State := { s with records := t.records, measures := t.measures }
      t.measures.speed = e.stationSpeed ∧ t.measures.occupancy = e.stationOccupancy ∧
      ((s.mode = .running ∨ s.mode = .isolated) → (t.measures.speed ≠ none ∨ t.measures.occupancy ≠ none) →
        s.speed.demand ≤ e.candidate → t.speed.demand = e.candidate ∧ t.speed.dwell = 0) ∧
      ((s.mode = .running ∨ s.mode = .isolated) → (t.measures.speed ≠ none ∨ t.measures.occupancy ≠ none) →
        e.candidate < s.speed.demand → e.releaseHolds = false → t.speed.demand = s.speed.demand ∧ t.speed.dwell = 0) ∧
      ((s.mode = .running ∨ s.mode = .isolated) → (t.measures.speed ≠ none ∨ t.measures.occupancy ≠ none) →
        e.candidate < s.speed.demand → e.releaseHolds = true →
        (s.speed.dwell + 1 = s.cfg.dwellCount → t.speed.demand = s.speed.demand - 1 ∧ t.speed.dwell = 0) ∧
          (s.speed.dwell + 1 ≠ s.cfg.dwellCount → t.speed.demand = s.speed.demand ∧ t.speed.dwell = s.speed.dwell + 1)) ∧
      ((s.mode = .running ∨ s.mode = .isolated) → t.measures.speed = none → t.measures.occupancy = none →
        t.speed.demand = s.speed.demand ∧ t.speed.dwell = 0 ∧ t.speed.detectionLost = true ∧
          t.faults = if s.speed.detectionLost then s.faults else s.faults.raise .detectionLost 0 ((s.clock + dt) / second)) ∧
      ((s.mode = .running ∨ s.mode = .isolated) → (t.measures.speed ≠ none ∨ t.measures.occupancy ≠ none) →
        t.speed.detectionLost = false ∧
          t.faults = if s.speed.detectionLost then s.faults.close .detectionLost 0 else s.faults) ∧
      (s.mode = .warming → t.speed.demand = s.speed.demand ∧ t.speed.dwell = s.speed.dwell ∧ t.faults = s.faults ∧
        t.station.firstEvaluation = true) ∧
      (s.queue.state = .clear → e.queueCondition = false → t.queue = { s.queue with confirm := 0, term := t.queue.term }) ∧
      (s.queue.state = .clear → e.queueCondition = true → s.queue.confirm + 1 = s.cfg.confirmCount →
        t.queue = { s.queue with state := .present, confirm := 0, clearCount := 0, term := t.queue.term }) ∧
      (s.queue.state = .clear → e.queueCondition = true → s.queue.confirm + 1 ≠ s.cfg.confirmCount →
        t.queue = { s.queue with confirm := s.queue.confirm + 1, term := t.queue.term }) ∧
      (s.queue.state = .present → e.queueCondition = true → t.queue = { s.queue with clearCount := 0, term := t.queue.term }) ∧
      (s.queue.state = .present → e.queueCondition = false →
        (s.queue.clearCount + 1 < s.cfg.clearDwell ∨ (s.queue.firedAt = some (s.clock + dt) ∧ s.queue.clearCount = 0)) →
        t.queue = { s.queue with clearCount := s.queue.clearCount + 1, term := t.queue.term }) ∧
      (s.queue.state = .present → e.queueCondition = false → s.cfg.clearDwell ≤ s.queue.clearCount + 1 →
        (s.queue.firedAt ≠ some (s.clock + dt) ∨ s.queue.clearCount ≠ 0) →
        t.queue = { s.queue with state := .clear, confirm := 0, clearCount := 0, term := t.queue.term }) ∧
      (s.acting = true → t.queue.state ≠ s.queue.state → t.line.urgent = true ∧ t.line.pending = true) ∧
      SameOutside (andReaders [.clock, .requests, .records, .measures, .station, .faults]) s t

/-! ### Corridor line -/

/-- R44, R48, R49, R55, R58, R60: 12 released units in IDLE make the idle gap. A waiting station that has seen it begins its
start hold with an URGENT status when the urgent flag is set, else a ROUTINE status when the pending mark is set, else the
head of the reply queue as a BULK report; the status body is the record of that very moment. The receiver that a start
leaves behind, and the earliest moments since which the line can have been held or released, a hold already on the line at the
gap among them (R48), are the model's (log 11). -/
def Obligations.TransmissionStartsAfterTheGap : Prop :=
  (∀ (dt : Nat) (s : State), s.lineActive = true → s.line.listening = true → s.line.rx.phase = .idle →
    s.line.gapFrom + 120 ≤ s.clock + dt →
    ∃ t, exec (.idleGap dt) s = .next t ∧ t.clock = s.clock + dt ∧
      t.line = { s.line with rx := { s.line.rx with gapSeen := true }, gapFrom := s.clock + dt
                             heldFrom := max s.line.heldFrom (s.clock + dt - 120) } ∧ SameOutside [.clock, .line] s t ∧ t.quiet) ∧
  ∀ (dt : Nat) (s : State), s.lineActive = true → s.line.listening = true → s.line.tx = .waiting →
    s.line.rx.phase = .idle → s.line.rx.gapSeen = true → s.line.hasWork = true →
    let frame : Frame :=
      if s.line.pending then
        Frame.checked (if s.line.urgent then classUrgent else classRoutine) kindStatus (BitVec.ofNat 6 s.own) s.statusRecord.body
      else Frame.checked classBulk kindReport (BitVec.ofNat 6 s.own) (s.line.replies.headD [])
    ∃ t, exec (.transmitStart dt) s = .next t ∧ t.clock = s.clock + dt ∧
      t.line = { s.line with tx := .arbitrating, txFrame := some frame, urgentAgain := false, heldFrom := s.clock + dt
                             rx := { phase := .idle, gapSeen := false, digits := [] } } ∧
      SameOutside [.clock, .line] s t ∧ t.quiet

/-- R41, R50: the 12 header marks read back as sent, short ones released and long ones held at 1.5 units, lead from
ARBITRATING to SENDING; a header mark sent short that reads held, after marks that read back as sent, loses, and the receiver
goes on from the digits read, the losing digit read as 0, while the status slot stays as it was. Which way a sample at 1.5
units itself reads, and the earliest moments since which the line can have been held or released, are the model's (log 11): it can
have been held since the header mark before which the marks last ended within their slots. -/
def Obligations.ArbitrationIsWonOrLost : Prop :=
  (∀ (dt : Nat) (holds : List Nat) (s : State) (f : Frame), s.line.tx = .arbitrating → s.line.abortHold = none →
    s.line.txFrame = some f → holds.length = 12 → marksRead f.headerDigits holds →
    ∃ t, exec (.arbitrationWon ⟨dt, holds⟩) s = .next t ∧ t.clock = s.clock + dt ∧
      t.line = { s.line with tx := .sending, heldFrom := s.clock + dt } ∧ SameOutside [.clock, .line] s t ∧ t.quiet) ∧
  ∀ (dt : Nat) (holds : List Nat) (held : Nat) (s : State) (f : Frame), s.line.tx = .arbitrating → s.line.abortHold = none →
    s.line.txFrame = some f → marksRead f.headerDigits holds → f.headerDigits[holds.length]? = some true → 15 ≤ held →
    ∃ t n, exec (.arbitrationLost dt ⟨holds, held⟩) s = .next t ∧ t.clock = s.clock + dt ∧
      n ≤ holds.length ∧ (∀ h ∈ holds.drop (holds.length - n), 30 < h) ∧
      (∀ h, n < holds.length → holds[holds.length - n - 1]? = some h → h ≤ 30) ∧
      t.line = { s.line with tx := .waiting, txFrame := none, gapFrom := s.clock + dt
                             heldFrom := max s.line.heldFrom (s.clock + dt - (15 + 30 * n))
                             rx := { phase := if holds.length = 11 then .length else .header, gapSeen := false
                                     digits := f.headerDigits.take holds.length ++ [false] } } ∧
      t.line.rx.digits.length = holds.length + 1 ∧ SameOutside [.clock, .line] s t ∧ t.quiet

/-- R50, R51: a transmitter whose line disagrees, a start hold or a long header mark that reads released, or outside the
header a sample that does not match its mark, a line still held at the end of a slot or found held before the next mark,
holds it for 6 units and counts the abort, to 255; nothing leaves the status slot or the reply queue. At the end of the hold
it waits again. Which way a sample at 1.5 units and a release at the end of a slot read, and that the released time counts
from the end of the hold, are the model's (log 11), and so is the earliest moment since which the line can have been held:
the start of the mark that read held, of the slot at whose end it was held, or its last release. -/
def Obligations.AbortedTransmissionWaitsAgain : Prop :=
  (∀ (dt : Nat) (cause : AbortCause) (s : State) (f : Frame), s.line.txFrame = some f → s.line.abortHold = none →
    (match cause with
    | .startHold held => s.line.tx = .arbitrating ∧ (held ≤ 15 ∨ 60 ≤ held)
    | .headerLong holds held =>
        s.line.tx = .arbitrating ∧ marksRead f.headerDigits holds ∧ f.headerDigits[holds.length]? = some false ∧ held ≤ 15
    | .sample holds held =>
        s.line.tx = .sending ∧ marksRead f.bodyDigits holds ∧ (∀ h ∈ holds, h ≤ 30) ∧
          ∃ d, f.bodyDigits[holds.length]? = some d ∧ if d then 15 ≤ held else held ≤ 15
    | .slotEnd holds held =>
        s.line.tx = .sending ∧ marksRead f.bodyDigits holds ∧ (∀ h ∈ holds, h ≤ 30) ∧ holds.length < f.bodyDigits.length ∧
          30 ≤ held
    | .foundHeld holds =>
        s.line.tx = .sending ∧ marksRead f.bodyDigits holds ∧ (∀ h ∈ holds, h ≤ 30) ∧ holds.length < f.bodyDigits.length) →
    ∃ t, exec (.transmitAbort dt cause) s = .next t ∧ t.clock = s.clock + dt ∧
      t.line = { s.line with abortHold := some (s.clock + dt + 60), aborts := min (s.line.aborts + 1) 255, txFrame := none
                             heldFrom := match cause with
                               | .startHold held => max s.line.heldFrom (s.clock + dt - if held ≤ 15 then 0 else 60)
                               | .headerLong _ _ => max s.line.heldFrom (s.clock + dt)
                               | .sample _ held => max s.line.heldFrom (s.clock + dt - if held < 15 then 0 else 15)
                               | .slotEnd _ _ => max s.line.heldFrom (s.clock + dt - 30)
                               | .foundHeld holds =>
                                   match holds.getLast? with
                                   | some h => max s.line.heldFrom (s.clock + dt - (30 - h))
                                   | none => s.line.heldFrom } ∧
      SameOutside [.clock, .line] s t ∧ t.quiet) ∧
  ∀ (dt e : Nat) (s : State), s.line.abortHold = some e → e ≤ s.clock + dt →
    ∃ t, exec (.abortHoldEnd dt) s = .next t ∧ t.clock = s.clock + dt ∧
      t.line = { s.line with abortHold := none, tx := .waiting, txFrame := none, gapFrom := s.clock + dt
                             rx := { phase := .idle, gapSeen := false, digits := [] } } ∧
      SameOutside [.clock, .line] s t ∧ t.quiet

/-- R52, R53, R55, R56: a frame whose marks read back as sent to the last completes. A completed STATUS frame restarts the
publication timer for P and clears the marks, unless the urgent flag was set again during the frame, when both stay set; a
completed REPORT frame leaves the head of the reply queue; the station is then WAITING if anything is pending and QUIET
otherwise. The timer's expiry sets the pending mark. That a mark held for exactly 1.5 units, or released exactly at the end of
its slot, can read back as sent is the model's choice (log 11). -/
def Obligations.TransmissionCompletes : Prop :=
  (∀ (dt : Nat) (holds : List Nat) (s : State) (f : Frame), s.line.tx = .sending → s.line.abortHold = none →
    s.line.txFrame = some f → holds.length = f.bodyDigits.length → marksRead f.bodyDigits holds → (∀ h ∈ holds, h ≤ 30) →
    ∃ t, exec (.transmitComplete ⟨dt, holds⟩) s = .next t ∧ t.clock = s.clock + dt ∧
      (f.kind = kindStatus →
        t.line.pubTimer = some (s.clock + dt + s.line.timerPeriod * second) ∧ t.line.pending = s.line.urgentAgain ∧
          t.line.urgent = s.line.urgentAgain ∧ t.line.replies = s.line.replies) ∧
      (f.kind ≠ kindStatus →
        t.line.pubTimer = s.line.pubTimer ∧ t.line.pending = s.line.pending ∧ t.line.urgent = s.line.urgent ∧
          t.line.replies = s.line.replies.drop 1) ∧
      t.line = { s.line with pubTimer := t.line.pubTimer, pending := t.line.pending, urgent := t.line.urgent
                             replies := t.line.replies, txFrame := none, gapFrom := s.clock + dt, heldFrom := s.clock + dt
                             tx := if t.line.hasWork then .waiting else .quiet
                             rx := { phase := .idle, gapSeen := false, digits := [] } } ∧
      SameOutside [.clock, .line] s t ∧ t.quiet) ∧
  ∀ (dt e : Nat) (s : State), s.line.pubTimer = some e → e ≤ s.clock + dt →
    ∃ t, exec (.publicationTimerExpiry dt) s = .next t ∧ t.clock = s.clock + dt ∧
      t.line = { s.line with pubTimer := none, pending := true, tx := if s.line.tx = .quiet then .waiting else s.line.tx } ∧
      SameOutside [.clock, .line] s t ∧ t.quiet

/-- R44 to R47: a frame lost by a lapse, by a break or a start hold inside it, by a length above 30 or by a rejection
counts once in the rejected-frame count, which saturates at 255, and leaves the receiver in IDLE with no gap seen; the
released time of a lapse still counts. A lapse comes 4 units after the last release that was not noise, the earliest moment of
which is the model's (log 11): the hold that begins the frame may be on the line when the idle gap is seen. A first hold of the wrong class counts nothing. That a row runs a whole reception
and leaves no idle gap seen is the model's choice (log 11). -/
def Obligations.LostFramesAreCountedOnce : Prop :=
  let lost (s : State) (dt since : Nat) (t : State) : Prop :=
    t.line = { s.line with rejected := min (s.line.rejected + 1) 255, gapFrom := since, heldFrom := s.clock + dt
                           rx := { phase := .idle, gapSeen := false, digits := [] } }
  (∀ (dt : Nat) (holds : List Nat) (s : State) (rx : Receiver), s.hear holds = some (.waiting rx) → rx.inProgress = true →
    s.line.releasedAt holds + 40 ≤ s.clock + dt →
    ∃ t, exec (.lapse dt holds) s = .next t ∧ t.clock = s.clock + dt ∧ lost s dt (s.clock + dt - 40) t ∧
      SameOutside [.clock, .line] s t ∧ t.quiet) ∧
  (∀ (dt : Nat) (holds : List Nat) (s : State), s.clock + dt < s.line.releasedAt holds + 40 →
    exec (.lapse dt holds) s = .next (s.advance dt)) ∧
  (∀ (l : Line) (holds noise : List Nat) (h : Nat), 5 ≤ h → (∀ x ∈ noise, x < 5) →
    l.releasedAt noise = l.gapFrom ∧
      l.releasedAt (holds ++ h :: noise) =
        l.gapFrom + if l.rx.inProgress then holds.sum + h else if holds = [] then 0 else (holds.drop 1).sum + h) ∧
  (∀ (dt : Nat) (holds : List Nat) (s : State), s.hear holds = some .aborted →
    ∃ t, exec (.frameAborted dt holds) s = .next t ∧ t.clock = s.clock + dt ∧ lost s dt (s.clock + dt) t ∧
      SameOutside [.clock, .line] s t ∧ t.quiet) ∧
  (∀ (dt : Nat) (holds : List Nat) (s : State), s.hear holds = some .badLength →
    ∃ t, exec (.frameLengthRejected dt holds) s = .next t ∧ t.clock = s.clock + dt ∧ lost s dt (s.clock + dt) t ∧
      SameOutside [.clock, .line] s t ∧ t.quiet) ∧
  (∀ (dt : Nat) (f : Frame) (s : State), s.canHear f = true →
    (f.check ≠ checkOf f.checkedDigits ∨ f.kind = 0 ∨ 9 ≤ f.kind.toNat ∨ f.source = 0 ∨ f.source.toNat = s.own ∨
      (2 ≤ f.kind.toNat ∧ f.kind.toNat ≤ 7 ∧ f.source ≠ 63)) →
    ∃ t, exec (.frameRejected dt f.cls f.kind f.source f.body f.check) s = .next t ∧ t.clock = s.clock + dt ∧
      lost s dt (s.clock + dt) t ∧ SameOutside [.clock, .line] s t ∧ t.quiet) ∧
  ∀ (dt held : Nat) (s : State), s.lineActive = true → s.line.listening = true → s.line.rx.gapSeen = true →
    s.line.rx.phase = .idle → 5 ≤ held → held < 500 → ¬(35 ≤ held ∧ held < 45) →
    ∃ t, exec (.firstHoldWrongClass dt held) s = .next t ∧ t.clock = s.clock + dt ∧
      t.line = { s.line with gapFrom := s.clock + dt, heldFrom := s.clock + dt, rx := { phase := .idle, gapSeen := false, digits := [] } } ∧
      SameOutside [.clock, .line] s t ∧ t.quiet

/-- R42, R45, R51, R70, R71: a line that has been held for 50 units after the holds is stuck. LINE STUCK is raised, a frame in
progress is counted, a transmission is given up and counted, the isolation condition of an acting station becomes present,
and a RUNNING station becomes ISOLATED. The earliest moment since which the line can have been held, after holds that
the receiver has heard, is the model's (log 11). At the release LINE STUCK ends, and the isolation condition stays. -/
def Obligations.StuckLineIsolatesTheStation : Prop :=
  (∀ (dt : Nat) (holds : List Nat) (o : Order) (s : State), s.lineActive = true → s.line.stuck = false →
    s.line.heldAt holds + 500 ≤ s.clock + dt →
    ∃ t, exec (.lineStuck dt holds o) s = .next t ∧ t.clock = s.clock + dt ∧ t.line.stuck = true ∧
      t.line.rx = { phase := .idle, gapSeen := false, digits := [] } ∧ t.line.txFrame = none ∧ t.line.abortHold = none ∧
      t.line.aborts = (if (s.line.tx = .arbitrating ∨ s.line.tx = .sending) ∧ s.line.abortHold = none then
        min (s.line.aborts + 1) 255 else s.line.aborts) ∧
      ((∀ rx, s.hear holds = some (.waiting rx) → rx.inProgress = false) → t.line.rejected = s.line.rejected) ∧
      (∀ rx, s.hear holds = some (.waiting rx) → rx.inProgress = true → t.line.rejected = min (s.line.rejected + 1) 255) ∧
      t.line.replies = s.line.replies ∧ t.line.pubTimer = s.line.pubTimer ∧
      t.faults = s.faults.raise .lineStuck 0 ((s.clock + dt) / second) ∧
      t.neighbours = (if s.acting then { s.neighbours with isolation := true } else s.neighbours) ∧
      t.mode = (if s.mode = .running then .isolated else s.mode) ∧
      SameOutside (andReaders [.clock, .station, .neighbours, .faults, .shoulder]) s t) ∧
  (∀ (dt : Nat) (holds : List Nat) (o : Order) (s : State), s.clock + dt < s.line.heldAt holds + 500 →
    exec (.lineStuck dt holds o) s = .next (s.advance dt)) ∧
  (∀ (l : Line) (holds : List Nat), l.heldAt holds =
    if holds = [] then l.heldFrom
    else max (l.heldFrom + holds.sum) (l.gapFrom + if l.rx.inProgress then holds.sum else (holds.drop 1).sum)) ∧
  ∀ (dt : Nat) (s : State), s.line.stuck = true →
    ∃ t, exec (.lineStuckEnd dt) s = .next t ∧ t.clock = s.clock + dt ∧
      t.line = { s.line with stuck := false, gapFrom := s.clock + dt, heldFrom := s.clock + dt, rx := { phase := .idle, gapSeen := false, digits := [] } } ∧
      t.faults = s.faults.close .lineStuck 0 ∧ SameOutside [.clock, .line, .faults] s t ∧ t.quiet

/-! ### Neighbours -/

/-- R46, R61 to R64, R67, R70, R71: a valid STATUS frame of a station in the window with a readable body makes or
replaces the entry of its source, LIVE, arrived now, void exactly for CONFIG_FAULT; any valid STATUS frame restarts the
isolation timer, clears the isolation condition, ends ISOLATED and NEIGHBOUR LOST of its source. A frame that can be
received at all is `canHear` (log 11), and the order of the readers is an operand (log 3). -/
def Obligations.StatusFrameIsStoredOrHeard : Prop :=
  ∀ (dt : Nat) (cls : BitVec 2) (source : BitVec 6) (body : List Octet) (o : Order) (s : State),
    s.acting = true → s.canHear (Frame.checked cls kindStatus source body) = true → source ≠ 0 → source.toNat ≠ s.own →
    (s.shoulder.state ≠ .checking) →
    ∃ t, exec (.statusFrame dt cls source body o) s = .next t ∧ t.clock = s.clock + dt ∧
      t.station = { s.station with mode := s.mode.heard } ∧
      t.faults = s.faults.close .neighbourLost source.toNat ∧
      t.neighbours.isolation = false ∧
      t.neighbours.isolationTimer = some (s.clock + dt + s.cfg.isolationTime * second) ∧
      (∀ r, s.inWindow source.toNat = true → readStatus body = some r →
        ∃ e ∈ t.neighbours.entries, e = { station := source.toNat, record := r, arrival := s.clock + dt, state := .live
                                          void := r.mode == .configFault }) ∧
      (∀ e, e.station ≠ source.toNat → (e ∈ t.neighbours.entries ↔ e ∈ s.neighbours.entries)) ∧
      ((s.inWindow source.toNat = false ∨ readStatus body = none) → t.neighbours.entries = s.neighbours.entries) ∧
      t.line.rx = { phase := .idle, gapSeen := false, digits := [] } ∧ t.line.rejected = s.line.rejected ∧
      SameOutside (andReaders [.clock, .station, .neighbours, .faults, .closures, .retention]) s t

/-- R113 to R115: a record of a RUNNING or ISOLATED station teaches its own closure. One that applies here and is not held
is inserted as LEARNED at the lowest free position; one held with equal fields stays as it is; without a closure that
applies, a LEARNED entry of that origin is removed and any other stays. -/
def Obligations.ClosuresAreLearnedFromTheirOrigin : Prop :=
  ∀ (dt : Nat) (cls : BitVec 2) (source : BitVec 6) (body : List Octet) (o : Order) (s : State) (r : StatusRecord),
    s.acting = true → s.canHear (Frame.checked cls kindStatus source body) = true → source ≠ 0 → source ≠ 63 →
    source.toNat ≠ s.own → readStatus body = some r →
    ∃ t, exec (.statusFrame dt cls source body o) s = .next t ∧
      ((r.mode = .running ∨ r.mode = .isolated) →
        (∀ c p, r.ownClosure = some c → (c.learned source.toNat).applies s.own = true → s.positionOf source.toNat = none →
          s.freePosition = some p → t.closures = s.closures.set p (some (c.learned source.toNat))) ∧
        (∀ c p h, r.ownClosure = some c → (c.learned source.toNat).applies s.own = true →
          s.holding source.toNat = some (p, h) →
          t.closures = s.closures.set p (some
            { c.learned source.toNat with source := if h.serial = c.serial then h.source else .learned })) ∧
        ((∀ c, r.ownClosure = some c → (c.learned source.toNat).applies s.own = false) →
          (∀ p h, s.holding source.toNat = some (p, h) →
            t.closures = if h.source = .learned then s.closures.set p none else s.closures) ∧
          (s.holding source.toNat = none → t.closures = s.closures))) ∧
      ((r.mode ≠ .running ∧ r.mode ≠ .isolated) → t.closures = s.closures)

/-- R46, R67, R70, R71, R175: a valid REPORT frame, and a command that is unreadable or does not address the station, count as
an arrival and nothing more: only an ISOLATED station, which becomes RUNNING, has readers that act on it. -/
def Obligations.OtherFramesAreHeardOnly : Prop :=
  (∀ (dt : Nat) (cls : BitVec 2) (source : BitVec 6) (body : List Octet) (s : State),
    s.acting = true → s.canHear (Frame.checked cls kindReport source body) = true → source ≠ 0 → source.toNat ≠ s.own →
    ∃ t, exec (.reportFrameHeard dt cls source body) s = .next t ∧ t.clock = s.clock + dt ∧
      t.station = { s.station with mode := s.mode.heard } ∧ t.neighbours = s.heardNeighbours dt ∧
      t.faults = s.faults.close .neighbourLost source.toNat ∧
      Line.slotOnly (s.line.toIdle (s.clock + dt)) t.line ∧
      (s.mode ≠ .isolated → t.line = s.line.toIdle (s.clock + dt) ∧
        SameOutside [.clock, .station, .neighbours, .faults, .line] s t ∧ t.quiet) ∧
      SameOutside (andReaders [.clock, .station, .neighbours, .faults]) s t) ∧
  ∀ (dt : Nat) (k : CommandKind) (body : List Octet) (s : State),
    s.acting = true → s.own ≠ 63 → s.canHear (commandFrame k body) = true →
    (∀ c, readCommand k body = some c → s.addresses c = false) →
    ∃ t, exec (.commandNotAddressed dt (BitVec.ofNat 4 k.code) body) s = .next t ∧ t.clock = s.clock + dt ∧
      t.station = { s.station with mode := s.mode.heard } ∧ t.neighbours = s.heardNeighbours dt ∧
      t.faults = s.faults.close .neighbourLost 63 ∧
      Line.slotOnly (s.line.toIdle (s.clock + dt)) t.line ∧
      (s.mode ≠ .isolated → t.line = s.line.toIdle (s.clock + dt) ∧
        SameOutside [.clock, .station, .neighbours, .faults, .line] s t ∧ t.quiet) ∧
      SameOutside (andReaders [.clock, .station, .neighbours, .faults]) s t

/-- R65, R66, R70, R71: a LIVE entry is STALE from its arrival plus expiry count × P, with its record kept and nothing
reported; after the stale hold it leaves the table and NEIGHBOUR LOST is raised, and no closure is touched. At the expiry
of the isolation timer the isolation condition becomes present, and a RUNNING station becomes ISOLATED. -/
def Obligations.SilenceAgesTheNeighbours : Prop :=
  (∀ (dt station : Nat) (s : State) (e : Neighbour), s.acting = true → s.neighbour station = some e → e.state = .live →
    e.arrival + s.cfg.expiryCount * s.cfg.period * second ≤ s.clock + dt →
    ∃ t, exec (.neighbourExpiry dt station) s = .next t ∧ t.clock = s.clock + dt ∧
      t.neighbours = { s.neighbours with entries := s.neighbours.entries.map (fun x =>
        if x.station = station then { x with state := .stale } else x) } ∧
      SameOutside [.clock, .neighbours] s t ∧ t.quiet) ∧
  (∀ (dt station : Nat) (o : Order) (s : State) (e : Neighbour), s.acting = true → s.neighbour station = some e →
    e.arrival + s.cfg.expiryCount * s.cfg.period * second + s.cfg.staleHold * second ≤ s.clock + dt →
    ∃ t, exec (.neighbourRemoval dt station o) s = .next t ∧ t.clock = s.clock + dt ∧
      t.neighbours = { s.neighbours with entries := s.neighbours.entries.filter (fun x => x.station != station) } ∧
      t.faults = s.faults.raise .neighbourLost station ((s.clock + dt) / second) ∧
      Line.slotOnly s.line t.line ∧
      SameOutside (andReaders [.clock, .neighbours, .faults]) s t) ∧
  ∀ (dt e : Nat) (o : Order) (s : State), s.acting = true → s.neighbours.isolationTimer = some e → e ≤ s.clock + dt →
    ∃ t, exec (.isolationTimerExpiry dt o) s = .next t ∧ t.clock = s.clock + dt ∧
      t.neighbours = { s.neighbours with isolationTimer := none, isolation := true } ∧
      t.station = { s.station with mode := if s.mode = .running then .isolated else s.mode } ∧
      (s.mode = .running → (s.shoulder.state = .opened ∨ s.shoulder.state = .checking) →
        t.shoulder = { state := .closing, checkTimer := none, clearanceTimer := some (s.clock + dt + s.cfg.clearanceTime * second) }) ∧
      ((s.mode ≠ .running ∨ s.shoulder.state = .closed ∨ s.shoulder.state = .closing) → t.shoulder = s.shoulder) ∧
      Line.slotOnly s.line t.line ∧
      SameOutside (andReaders [.clock, .neighbours, .station, .shoulder]) s t

/-! ### Speed control -/

/-- R68, R82 to R88, R91, R92, R103: the lower bound is the largest term present, or 0: the demand outside WARMING, the
plan step of each downstream neighbour less its hop, the steps of the closures that apply, the queue step, the override, the
displaced step of the nearest downstream neighbour, and the isolation step in ISOLATED; void entries give none. The queue term
and the END condition are as their inputs give them. A bound that changes is applied: a rise at once, a fall once the hold is over, by its moment
past or by its expiry taken at this moment (log 25). At the expiry of the hold a plan step above its bound falls to it in one
move, and the hold counts from the expiry itself, which is the model's reading of the moment (log 15). -/
def Obligations.HoldExpiryLetsThePlanStepFall : Prop :=
  (∀ (s : State),
    let applies (c : Closure) : Prop := c ∈ s.entries ∧ c.origin ≤ s.own + c.taper ∧ s.own ≤ c.origin + c.extent
    let term (n : Nat) : Prop :=
      (s.mode ≠ .warming ∧ n = s.speed.demand) ∨
        (∃ e ∈ s.neighbours.entries, s.own < e.station ∧ e.void = false ∧
          ∃ p, e.record.planStep = some p ∧ n = p - (e.station - s.own)) ∨
        (∃ c, applies c ∧ n = c.step) ∨ (s.queue.term = true ∧ n = s.cfg.queueStep) ∨
        (∃ o, s.speed.override = some o ∧ n = o.step) ∨
        (∃ e, s.nearestDown = some e ∧ e.void = false ∧ e.record.displacedStep = some n) ∨
        (s.mode = .isolated ∧ n = s.cfg.isolationStep)
    (∀ n, term n → n ≤ s.lowerBound) ∧ (s.lowerBound = 0 ∨ term s.lowerBound) ∧
    (∀ e, s.nearestDown = some e → e ∈ s.neighbours.entries ∧ s.own < e.station ∧
      ∀ x ∈ s.neighbours.entries, s.own < x.station → e.station ≤ x.station) ∧
    (s.nearestDown = none → ∀ x ∈ s.neighbours.entries, x.station ≤ s.own) ∧
    (∀ e, s.nearestUp = some e → e ∈ s.neighbours.entries ∧ e.station < s.own ∧
      ∀ x ∈ s.neighbours.entries, x.station < s.own → x.station ≤ e.station) ∧
    (s.nearestUp = none → ∀ x ∈ s.neighbours.entries, s.own ≤ x.station) ∧
    (s.queueTerm = true ↔ s.queue.state = .present ∨
      ∃ e ∈ s.neighbours.entries, s.own < e.station ∧ e.station ≤ s.own + s.cfg.warningDistance ∧ e.void = false ∧
        e.record.queueFlag = some true) ∧
    (s.endHolds = true ↔ s.speed.planStep = 0 ∧ (∀ c, ¬applies c) ∧ s.queue.term = false ∧
      ∃ e p, s.nearestUp = some e ∧ e.void = false ∧ e.record.planStep = some p ∧ 1 ≤ p)) ∧
  (∀ (s : State), s.lowerBound ≠ s.speed.bound →
    let past : Prop := s.speed.holdEnded = true ∨ s.speed.heldSince + s.cfg.minDisplay * second < s.clock
    ((s.speed.planStep < s.lowerBound ∨ (s.lowerBound < s.speed.planStep ∧ past)) →
      s.applyBound = { s with speed := { s.speed with bound := s.lowerBound, planStep := s.lowerBound, heldSince := s.clock
                                                      holdEnded := false } }) ∧
    ((s.lowerBound = s.speed.planStep ∨ (s.lowerBound < s.speed.planStep ∧ ¬past)) →
      s.applyBound = { s with speed := { s.speed with bound := s.lowerBound } })) ∧
  ∀ (dt : Nat) (s : State), s.acting = true → s.speed.heldSince + s.cfg.minDisplay * second ≤ s.clock + dt →
    ∃ t, exec (.holdExpiry dt) s = .next t ∧ t.clock = s.clock + dt ∧
      (s.speed.bound < s.speed.planStep →
        t.speed = { s.speed with planStep := s.speed.bound, heldSince := s.speed.heldSince + s.cfg.minDisplay * second
                                 holdEnded := false, endCondition := t.endHolds } ∧
        Line.slotOnly s.line t.line ∧ SameOutside [.clock, .speed, .composer, .signs, .line] s t) ∧
      (s.speed.planStep ≤ s.speed.bound →
        t.speed = { s.speed with holdEnded := true } ∧ SameOutside [.clock, .speed] s t ∧ t.quiet)

/-- R89, R90, R175, R176: an OVERRIDE for the station with a step above 6 or an unknown legend is refused with
REFUSED-RANGE; one with duration 0 removes the record; any other sets it whole, for at most 240 minutes; all these are
ACCEPTED. When the remaining time has run out, the record is removed and the bound recomputed. The remaining time is kept
as the moment it ends (log 15). -/
def Obligations.OverrideSetsItsRecordUntilItExpires : Prop :=
  (∀ (dt : Nat) (low high step legend : Octet) (minutes : BitVec 16) (o : Order) (s : State),
    s.acting = true → s.own ≠ 63 → low.toNat ≤ s.own → s.own ≤ high.toNat →
    s.canHear (commandFrame .override [low, high, step, legend, highOctet minutes, lowOctet minutes]) = true →
    ∃ t, exec (.override dt low high step legend minutes o) s = .next t ∧
      s.commanded dt .override (if 6 < step.toNat ∨ legendOf legend.toNat = none then .refusedRange else .accepted) t ∧
      ((6 < step.toNat ∨ legendOf legend.toNat = none) → t.speed.override = s.speed.override) ∧
      (∀ l, step.toNat ≤ 6 → legendOf legend.toNat = some l →
        t.speed.override =
          (if minutes = 0 then none
          else some { step := step.toNat, legend := l, expires := s.clock + dt + min minutes.toNat 240 * 60 * second })) ∧
      t.speed.demand = s.speed.demand ∧ t.faults = s.faults.close .neighbourLost 63 ∧
      Line.slotOnly (s.line.toIdle (s.clock + dt)) t.line ∧
      SameOutside (andReaders [.clock, .station, .neighbours, .faults]) s t) ∧
  ∀ (dt : Nat) (o : Order) (s : State) (r : Override), s.acting = true → s.speed.override = some r → r.expires ≤ s.clock + dt →
    ∃ t, exec (.overrideExpiry dt o) s = .next t ∧ t.clock = s.clock + dt ∧ t.speed.override = none ∧
      t.speed.demand = s.speed.demand ∧ t.speed.bound = t.lowerBound ∧ t.speed.endCondition = t.endHolds ∧
      Line.slotOnly s.line t.line ∧ SameOutside (andReaders [.clock]) s t

/-- R119 to R122, R131, R132, R135 to R140: every lane of a composed plan takes its aspect by the cases. The CLOSED case, from
the shoulder, a closure or a take-over, gives CLOSED; the MERGE case, from a taper, the closing shoulder, the interlock or a
take-over downstream, gives an arrow toward a nearest running lane, a tie going to the higher number, and without a
running lane the open aspect, or CLOSED on the closing shoulder; any other lane takes LIMIT at the plan step, else END,
else BLANK; a lane above the lane count stays BLANK. The legend is
the highest candidate raised; the shoulder lane raises none while only its state closes it, which a taper closure does not
alter (log 18). The flashers go with INCIDENT, LANES CLOSED and QUEUE. -/
def Obligations.CompositionFollowsItsCases : Prop :=
  ∀ (s : State) (k : Lane),
    let plan := s.compose
    let open_ : Aspect :=
      if 1 ≤ s.speed.planStep then .limit s.speed.planStep else if s.speed.endCondition then .ended else .blank
    let gap (j : Lane) : Nat := if j.num ≤ k.num then k.num - j.num else j.num - k.num
    let best (j : Lane) : Prop :=
      j ∈ s.planRunning ∧ ∀ i ∈ s.planRunning, gap j < gap i ∨ (gap j = gap i ∧ i.num ≤ j.num)
    let shoulder : Prop := s.cfg.shoulderLane = true ∧ k = .l1
    let closure : Prop := ∃ c ∈ s.entries, c.origin ≤ s.own ∧ s.own ≤ c.origin + c.extent ∧ c.lanes.getLsbD (k.num - 1) = true
    let taper : Prop := ∃ c ∈ s.entries, c.origin ≤ s.own + c.taper ∧ s.own < c.origin ∧ c.lanes.getLsbD (k.num - 1) = true
    let down (v : LaneView) : Prop :=
      ∃ e, s.nearestDown = some e ∧ e.void = false ∧ e.record.lanes[k.num - 1]? = some v
    let overtaken : Prop := k.num ≤ s.cfg.laneCount ∧ ∃ v, down v ∧ v.displaced = true
    (s.closedCase k = true ↔
      (shoulder ∧ (s.shoulder.state = .closed ∨ s.shoulder.state = .checking)) ∨ closure ∨ overtaken) ∧
    (s.mergeCase k = true ↔ s.closedCase k = false ∧
      (taper ∨ (shoulder ∧ s.shoulder.state = .closing) ∨
        (shoulder ∧ s.shoulder.state = .opened ∧
          ∃ e x, s.nearestDown = some e ∧ e.void = false ∧ e.record.shoulder = some x ∧ x ≠ .opened) ∨
        ∃ v, down v ∧ v.takenOver = true ∧ v.displaced = false)) ∧
    (plan.taken.get k = true ↔ overtaken) ∧
    (s.cfg.laneCount < k.num → plan.aspects.get k = .blank ∧ plan.taken.get k = false) ∧
      (k.num ≤ s.cfg.laneCount →
        (s.closedCase k = true → plan.aspects.get k = .closed) ∧
        (s.mergeCase k = true → s.planRunning ≠ [] →
          ∃ j, best j ∧ j ≠ k ∧ plan.aspects.get k = if j.num < k.num then .mergeNear else .mergeOff) ∧
        (s.mergeCase k = true → s.planRunning = [] →
          plan.aspects.get k = if s.shoulderClosing k then .closed else open_) ∧
        (s.closedCase k = false → s.mergeCase k = false → k ∈ s.planRunning ∧ plan.aspects.get k = open_)) ∧
      ((plan.aspects.get k = .mergeNear ∨ plan.aspects.get k = .mergeOff) → s.planRunning ≠ []) ∧
      (let legend (l : Legend) : Prop := ∃ o, s.speed.override = some o ∧ o.legend = l
      let applies (c : Closure) : Prop := c ∈ s.entries ∧ c.origin ≤ s.own + c.taper ∧ s.own ≤ c.origin + c.extent
      let incident : Prop :=
        (∃ c, applies c ∧ ∀ j : Lane, j.num ≤ s.cfg.laneCount → c.lanes.getLsbD (j.num - 1) = true) ∨ s.planRunning = [] ∨
          legend .incident
      let lanesClosed : Prop :=
        (∃ j : Lane, j.num ≤ s.cfg.laneCount ∧
          (plan.aspects.get j = .closed ∨ plan.aspects.get j = .mergeNear ∨ plan.aspects.get j = .mergeOff) ∧
          (s.shoulderCloses j = true → s.closedByEntry j = true ∨ s.takenOver j = true)) ∨ legend .lanesClosed
      let queue : Prop := s.composer.queueCandidate = true ∨ legend .queue
      (plan.legend = .incident ↔ incident) ∧ (plan.legend = .lanesClosed ↔ ¬incident ∧ lanesClosed) ∧
        (plan.legend = .queue ↔ ¬incident ∧ ¬lanesClosed ∧ queue) ∧
        (plan.legend = .caution ↔ ¬incident ∧ ¬lanesClosed ∧ ¬queue ∧ legend .caution)) ∧
      (plan.flashers = true ↔ plan.legend = .incident ∨ plan.legend = .lanesClosed ∨ plan.legend = .queue)

/-! ### Closures -/

/-- R110, R111, R117, R176: a CLOSE-SET that addresses the station is refused with REFUSED-RANGE for an origin outside 1
to 62, a serial of 0 or no lane. Otherwise it is ACCEPTED: its entry, clamped, is inserted as COMMAND at the lowest free
position or replaces the entry of its origin in place, and an entry that it moves away from the station is removed. -/
def Obligations.CloseSetInsertsReplacesOrRemoves : Prop :=
  ∀ (dt : Nat) (origin serial lanes taper extent step : Octet) (o : Order) (s : State),
    let c : Closure :=
      { origin := origin.toNat, serial := serial.toNat, lanes := lanes.setWidth 5
        taper := if taper = 0 then 1 else min taper.toNat 4, extent := min extent.toNat 3, step := min step.toNat 6, source := .command }
    let bad : Prop := origin.toNat < 1 ∨ 62 < origin.toNat ∨ serial = 0 ∨ lanes.setWidth 5 = 0#5
    s.acting = true → s.own ≠ 63 → (bad ∨ c.applies s.own = true ∨ s.positionOf origin.toNat ≠ none) →
    s.canHear (commandFrame .closeSet [origin, serial, lanes, taper, extent, step]) = true →
    s.shoulder.state ≠ .checking →
    ∃ t, exec (.closeSet dt origin serial lanes taper extent step o) s = .next t ∧
      (bad → s.commanded dt .closeSet .refusedRange t ∧ t.closures = s.closures ∧ t.retention = s.retention) ∧
      (¬bad → s.commanded dt .closeSet .accepted t ∧
        (∀ p, s.positionOf origin.toNat = none → s.freePosition = some p → t.closures = s.closures.set p (some c) ∧
          (t.retention.dirty.get p = true ∨ t.retention.write = some { slot := p, latched := some c.image })) ∧
        (∀ p, s.positionOf origin.toNat = some p →
          t.closures = s.closures.set p (if c.applies s.own then some c else none))) ∧
      t.faults = s.faults.close .neighbourLost 63 ∧
      SameOutside (andReaders [.clock, .station, .neighbours, .faults, .closures, .retention]) s t

/-- R112, R176: a CLOSE-CLEAR that addresses the station removes the entry of its origin and serial, whatever its source;
it is refused with REFUSED-SERIAL for another serial, and ACCEPTED with nothing to remove when no entry of that origin is
held. -/
def Obligations.CloseClearRemovesBySerial : Prop :=
  ∀ (dt : Nat) (origin serial : Octet) (o : Order) (s : State),
    s.acting = true → s.own ≠ 63 → 1 ≤ origin.toNat → origin.toNat ≤ 62 →
    ((s.own ≤ origin.toNat + 3 ∧ origin.toNat ≤ s.own + 4) ∨ s.positionOf origin.toNat ≠ none) →
    s.canHear (commandFrame .closeClear [origin, serial]) = true →
    ∃ t, exec (.closeClear dt origin serial o) s = .next t ∧
      (∀ p h, s.holding origin.toNat = some (p, h) → h.serial = serial.toNat →
        s.commanded dt .closeClear .accepted t ∧ t.closures = s.closures.set p none ∧
          (t.retention.dirty.get p = true ∨ t.retention.write = some { slot := p, latched := none })) ∧
      (∀ p h, s.holding origin.toNat = some (p, h) → h.serial ≠ serial.toNat →
        s.commanded dt .closeClear .refusedSerial t ∧ t.closures = s.closures) ∧
      (s.holding origin.toNat = none → s.commanded dt .closeClear .accepted t ∧ t.closures = s.closures) ∧
      t.faults = s.faults.close .neighbourLost 63 ∧
      SameOutside (andReaders [.clock, .station, .neighbours, .faults, .closures, .retention]) s t

/-! ### Shoulder -/

/-- R125, R126, R131, Table 8-2: a SHOULDER command for a station without a shoulder lane is refused with REFUSED-CONFIG,
and an action other than OPEN and CLOSE with REFUSED-RANGE. OPEN begins a check from CLOSED and opens at once from CLOSING,
unless a condition of R126 refuses it; CLOSE ends a check, and begins the clearance from OPEN; the rest changes nothing.
That the OPEN that ends ISOLATED is judged in RUNNING, its arrival being noted before its delivery (R46, R71, R124), is the
model's choice (log 11), and the conditions are read before the command when no reader takes that return ahead of it
(log 3). -/
def Obligations.ShoulderCommandsActByTheState : Prop :=
  (∀ (dt : Nat) (low high : Octet) (o : Order) (s : State),
    s.acting = true → s.own ≠ 63 → low.toNat ≤ s.own → s.own ≤ high.toNat →
    s.canHear (commandFrame .shoulder [low, high, 1]) = true → (s.mode = .isolated → o.early = []) →
    let refused : Bool := s.mode.heard != .running || s.laneNamed .l1 || (s.signs.lanes.get .l1).state == .failed ||
      (s.signs.lanes.get .l1).state == .mismatch || (s.detector.lanes.get .l1).mode == .none
    ∃ t, exec (.shoulderOpen dt low high o) s = .next t ∧
      s.commanded dt .shoulder
        (if s.cfg.shoulderLane = false then .refusedConfig
        else if (s.shoulder.state = .closed ∨ s.shoulder.state = .closing) ∧ refused = true then .refusedState
        else .accepted) t ∧
      t.shoulder =
        (if s.cfg.shoulderLane = false ∨ ((s.shoulder.state = .closed ∨ s.shoulder.state = .closing) ∧ refused = true) then s.shoulder
        else if s.shoulder.state = .closed then
          { s.shoulder with state := .checking, checkTimer := some (s.clock + dt + s.cfg.checkTime * second) }
        else if s.shoulder.state = .closing then { state := .opened, checkTimer := none, clearanceTimer := none }
        else s.shoulder) ∧
      (t.shoulder.state ≠ s.shoulder.state → t.line.urgent = true ∧ t.line.pending = true) ∧
      t.faults = s.faults.close .neighbourLost 63 ∧ Line.slotOnly (s.line.toIdle (s.clock + dt)) t.line ∧
      SameOutside (andReaders [.clock, .station, .neighbours, .faults, .shoulder]) s t) ∧
  (∀ (dt : Nat) (low high : Octet) (o : Order) (s : State),
    s.acting = true → s.own ≠ 63 → low.toNat ≤ s.own → s.own ≤ high.toNat →
    s.canHear (commandFrame .shoulder [low, high, 2]) = true →
    ∃ t, exec (.shoulderClose dt low high o) s = .next t ∧
      s.commanded dt .shoulder (if s.cfg.shoulderLane then .accepted else .refusedConfig) t ∧
      t.shoulder =
        (if s.cfg.shoulderLane = false then s.shoulder
        else if s.shoulder.state = .checking then { state := .closed, checkTimer := none, clearanceTimer := none }
        else if s.shoulder.state = .opened then
          { state := .closing, checkTimer := none, clearanceTimer := some (s.clock + dt + s.cfg.clearanceTime * second) }
        else s.shoulder) ∧
      (t.shoulder.state ≠ s.shoulder.state → t.line.urgent = true ∧ t.line.pending = true) ∧
      t.faults = s.faults.close .neighbourLost 63 ∧ Line.slotOnly (s.line.toIdle (s.clock + dt)) t.line ∧
      SameOutside (andReaders [.clock, .station, .neighbours, .faults, .shoulder]) s t) ∧
  ∀ (dt : Nat) (low high action : Octet) (s : State),
    s.acting = true → s.own ≠ 63 → low.toNat ≤ s.own → s.own ≤ high.toNat → action ≠ 1 → action ≠ 2 →
    s.canHear (commandFrame .shoulder [low, high, action]) = true →
    ∃ t, exec (.shoulderOtherAction dt low high action) s = .next t ∧
      s.commanded dt .shoulder (if s.cfg.shoulderLane then .refusedRange else .refusedConfig) t ∧
      t.faults = s.faults.close .neighbourLost 63 ∧ Line.slotOnly (s.line.toIdle (s.clock + dt)) t.line ∧
      SameOutside (andReaders [.clock, .station, .neighbours, .faults]) s t

/-- R127 to R129, R131: the expiry of the check timer opens the shoulder, and the expiry of the clearance timer closes it. A
qualified on edge of an OK loop of lane 1, a change of its measurement mode to NONE, and a closure that applies and newly
names it, by command or learned, each end the opening check: the shoulder is CLOSED and SHOULDER CHECK FAILED is raised. All
these changes are urgent. -/
def Obligations.ShoulderTimersOpenAndClose : Prop :=
  (∀ (dt e : Nat) (s : State), s.acting = true → s.shoulder.state = .checking → s.shoulder.checkTimer = some e →
    e ≤ s.clock + dt →
    ∃ t, exec (.checkTimerExpiry dt) s = .next t ∧ t.clock = s.clock + dt ∧
      t.shoulder = { state := .opened, checkTimer := none, clearanceTimer := none } ∧ t.line.urgent = true ∧
      t.line.pending = true ∧ Line.slotOnly s.line t.line ∧ SameOutside (andReaders [.clock, .shoulder]) s t) ∧
  (∀ (dt e : Nat) (s : State), s.acting = true → s.shoulder.state = .closing → s.shoulder.clearanceTimer = some e →
    e ≤ s.clock + dt →
    ∃ t, exec (.clearanceTimerExpiry dt) s = .next t ∧ t.clock = s.clock + dt ∧
      t.shoulder = { state := .closed, checkTimer := none, clearanceTimer := none } ∧ t.line.urgent = true ∧
      t.line.pending = true ∧ Line.slotOnly s.line t.line ∧ SameOutside (andReaders [.clock, .shoulder]) s t) ∧
  (∀ (dt : Nat) (l : Loop) (s : State) (p : Presence), s.acting = true → s.shoulder.state = .checking →
    l.lane = .l1 → s.loopConfigured l = true → (s.loop l).presence = some p → p.qualified = false →
    (s.advance dt).lasted p = true → (s.loop l).status = .ok →
    ∃ t, exec (.qualifiedOnEdge dt l) s = .next t ∧ s.checkAborted dt s.faults t ∧ Line.slotOnly s.line t.line ∧
      SameOutside (andReaders [.clock, .detector, .requests, .trace, .faults, .shoulder]) s t) ∧
  (∀ (dt : Nat) (l : Loop) (endFirst : Bool) (s : State) (p : Presence), s.acting = true → s.shoulder.state = .checking →
    l.lane = .l1 → s.loopConfigured l = true → (s.loop l).presence = some p → p.qualified = true → p.timing = true →
    (s.advance dt).reached (s.timeoutTick p) = true → (s.loop l).status = .ok → (s.detector.lanes.get .l1).mode ≠ .none →
    ((s.loop (otherLoop l)).status ≠ .ok ∨ (l.side = .a ∧ (s.cfg.lanes.get .l1).loopB = false)) →
    ∃ t, exec (.presenceTimeout dt l endFirst) s = .next t ∧ (t.detector.lanes.get .l1).mode = .none ∧
      s.checkAborted dt (s.faults.raise .loopStuck (loopNumber l) ((s.clock + dt) / second)) t ∧ Line.slotOnly s.line t.line ∧
      SameOutside (andReaders [.clock, .detector, .requests, .trace, .faults, .shoulder]) s t) ∧
  (∀ (dt : Nat) (lanes : List Lane) (loops : List Loop) (s : State) (stop : Tick), s.acting = true →
    s.shoulder.state = .checking → 1 ≤ s.cfg.laneCount → s.detector.intervalEnd = some stop →
    (s.advance dt).reached stop = true → (s.detector.lanes.get .l1).mode ≠ .none →
    (s.judged { lane := .l1, side := .a }).status ≠ .ok →
    ((s.cfg.lanes.get .l1).loopB = false ∨ (s.judged { lane := .l1, side := .b }).status ≠ .ok) →
    ∃ t, exec (.intervalEnd dt lanes loops) s = .next t ∧ (t.detector.lanes.get .l1).mode = .none ∧
      s.checkAborted dt
        (s.intervalFaults (visitOrder lanes s.laneList) (visitOrder loops s.loopList) ((s.clock + dt) / second)) t ∧
      Line.slotOnly s.line t.line ∧
      SameOutside (andReaders [.clock, .detector, .requests, .trace, .faults, .shoulder]) s t) ∧
  (∀ (dt : Nat) (origin serial lanes taper extent step : Octet) (o : Order) (s : State),
    let c : Closure :=
      { origin := origin.toNat, serial := serial.toNat, lanes := lanes.setWidth 5
        taper := if taper = 0 then 1 else min taper.toNat 4, extent := min extent.toNat 3, step := min step.toNat 6, source := .command }
    s.mode = .running → s.shoulder.state = .checking → s.own ≠ 63 → 1 ≤ origin.toNat → origin.toNat ≤ 62 → serial ≠ 0 →
    c.applies s.own = true → c.lanes.getLsbD 0 = true → s.laneNamed .l1 = false →
    (s.positionOf origin.toNat ≠ none ∨ s.freePosition ≠ none) →
    s.canHear (commandFrame .closeSet [origin, serial, lanes, taper, extent, step]) = true →
    ∃ t, exec (.closeSet dt origin serial lanes taper extent step o) s = .next t ∧
      s.checkAborted dt (s.faults.close .neighbourLost 63) t ∧
      SameOutside (andReaders [.clock, .station, .neighbours, .faults, .closures, .retention, .shoulder]) s t) ∧
  ∀ (dt : Nat) (cls : BitVec 2) (source : BitVec 6) (body : List Octet) (o : Order) (s : State) (r : StatusRecord)
    (c : OwnClosure),
    s.mode = .running → s.shoulder.state = .checking → source ≠ 0 → source ≠ 63 → source.toNat ≠ s.own →
    s.canHear (Frame.checked cls kindStatus source body) = true → readStatus body = some r →
    (r.mode = .running ∨ r.mode = .isolated) → r.ownClosure = some c → (c.learned source.toNat).applies s.own = true →
    c.lanes.getLsbD 0 = true → s.laneNamed .l1 = false → (s.positionOf source.toNat ≠ none ∨ s.freePosition ≠ none) →
    ∃ t, exec (.statusFrame dt cls source body o) s = .next t ∧
      s.checkAborted dt (s.faults.close .neighbourLost source.toNat) t ∧
      SameOutside (andReaders [.clock, .station, .neighbours, .faults, .closures, .retention, .shoulder]) s t

/-! ### Sign channels -/

/-- R143, R144, R150, R152 to R154, R157: an IDENTITY of the expected kind, with a good check, makes an IDENTIFYING channel
SHOWING, identified, and sends BLANK with set number 0; any other kind makes it MISMATCH, sends the same BLANK and raises SIGN
MISMATCH. During the attempt of an unidentified channel the expected kind sets the identified mark and the attempt goes on,
and any other kind makes it MISMATCH, which ends the fault of its failure reason, and a plan that waits may commit; in any
other state the message changes nothing. -/
def Obligations.IdentityActsByTheState : Prop :=
  let expected (c : Chan) : Octet := match c with | .lane _ => 1 | .legend => 2
  let mismatch (ch : Channel) : Channel :=
    { ch with state := .mismatch, reason := none, attempt := none, identifyBy := none, retryAt := none }
  (∀ (dt : Nat) (c : Chan) (kind : Octet) (check : BitVec 16) (endFirst : Bool) (s : State),
    check = checkOctets [0x21, kind] → s.chanUsable c = true → (s.signs.get c).state = .identifying →
    ∃ t, exec (.identity dt c kind check endFirst) s = .next t ∧ t.clock = s.clock + dt ∧
      t.signs.sent = [blankOn c] ∧ (∀ c', c' ≠ c → t.signs.get c' = s.signs.get c') ∧
      (kind = expected c →
        t.signs.get c = { s.signs.get c with state := .showing, identified := true, identifyBy := none } ∧ t.faults = s.faults) ∧
      (kind ≠ expected c →
        t.signs.get c = mismatch (s.signs.get c) ∧
        t.faults = s.faults.replaced (s.signs.get c).reason .signMismatch c.num ((s.clock + dt) / second) endFirst) ∧
      Line.slotOnly s.line t.line ∧ SameOutside [.clock, .signs, .faults, .line] s t) ∧
  (∀ (dt : Nat) (c : Chan) (kind : Octet) (check : BitVec 16) (endFirst : Bool) (s : State),
    check = checkOctets [0x21, kind] → s.chanUsable c = true → (s.signs.get c).state ≠ .identifying →
    (kind = expected c ∨ (s.signs.get c).state ≠ .setting ∨ (s.signs.get c).identified = true) →
    ∃ t, exec (.identity dt c kind check endFirst) s = .next t ∧ t.clock = s.clock + dt ∧
      t.signs.get c =
        (if (s.signs.get c).state = .setting then { s.signs.get c with identified := true } else s.signs.get c) ∧
      (∀ c', c' ≠ c → t.signs.get c' = s.signs.get c') ∧ t.quiet ∧ SameOutside [.clock, .signs] s t) ∧
  ∀ (dt : Nat) (c : Chan) (kind : Octet) (check : BitVec 16) (endFirst : Bool) (s : State),
    check = checkOctets [0x21, kind] → s.chanUsable c = true → (s.signs.get c).state = .setting →
    (s.signs.get c).identified = false → kind ≠ expected c →
    ∃ t, exec (.identity dt c kind check endFirst) s = .next t ∧ t.clock = s.clock + dt ∧
      (s.advance dt).gateTried { s.signs.set c (mismatch (s.signs.get c)) with sent := [blankOn c] } t ∧
      (t.signs.get c).state = .mismatch ∧
      t.faults = s.faults.replaced (s.signs.get c).reason .signMismatch c.num ((s.clock + dt) / second) endFirst ∧
      Line.slotOnly s.line t.line ∧ SameOutside [.clock, .signs, .composer, .faults, .line] s t

/-- R143, R144, R150, R154, R155, R157, R159: a counting PROVING REPORT ends the attempt. PROVED and PARTIAL make the channel SHOWING and
end the fault of its failure reason, PARTIAL raising SIGN DEGRADED; FAILED makes it FAILED for a retry period, is answered
with BLANK, and changes a failure reason NO RESPONSE. A plan that has waited for the attempt then commits, and sets every
channel whose part changes. That the identified mark alone decides, so that the report also ends an attempt begun
unidentified which only a RESTART NOTICE has identified (R154, R159), is the model's choice (log 21). -/
def Obligations.ProvingReportEndsTheAttempt : Prop :=
  ∀ (dt : Nat) (c : Chan) (set result : Octet) (check : BitVec 16) (endFirst : Bool) (s : State) (a : Attempt),
    let ch := s.signs.get c
    let now := s.clock + dt
    let showing : Channel := { ch with state := .showing, reason := none, attempt := none }
    let failed : Channel :=
      { ch with state := .failed, reason := some .failed, attempt := none, identifyBy := none
                retryAt := some (now + s.cfg.retryPeriod * second) }
    check = checkOctets [0x22, set, result] → s.chanUsable c = true → ch.state = .setting → ch.identified = true →
    ch.attempt = some a → a.set = set.toNat → 1 ≤ result.toNat → result.toNat ≤ 3 →
    ∃ t, exec (.provingReport dt c set result check endFirst) s = .next t ∧ t.clock = now ∧
      (result ≠ 3 → (s.advance dt).gateTried { s.signs.set c showing with sent := [] } t) ∧
      (result = 3 → (s.advance dt).gateTried { s.signs.set c failed with sent := [blankOn c] } t) ∧
      (result ≠ 3 → s.composer.next = s.composer.active → t.quiet ∧ t.line = s.line) ∧
      (result = 1 → t.faults = match ch.reason with
        | none => s.faults
        | some .failed => s.faults.close .signFailed c.num
        | some .noResponse => s.faults.close .signNoResponse c.num) ∧
      (result = 2 → t.faults = s.faults.replaced ch.reason .signDegraded c.num (now / second) endFirst) ∧
      (result = 3 → t.faults =
        if ch.reason = some .failed then s.faults
        else s.faults.replaced ch.reason .signFailed c.num (now / second) endFirst) ∧
      Line.slotOnly s.line t.line ∧ SameOutside [.clock, .signs, .composer, .faults, .line] s t

/-- R143, R144, R152, R156, R157, R161: at the identification deadline a silent channel is FAILED with NO RESPONSE; at the
proving deadline a channel in SETTING is FAILED, with NO RESPONSE while it is unidentified and with FAILED otherwise. BLANK is
sent with set number 0, the retry timer runs, and the fault is raised, replacing that of another failure reason; a beginning
displacement is urgent. A plan that has waited for the attempt then commits. -/
def Obligations.DeadlinesFailTheChannel : Prop :=
  let channel (s : State) (c : Chan) (reason : FailureReason) (now : Nat) : Channel :=
    { s.signs.get c with state := .failed, reason := some reason, attempt := none, identifyBy := none
                         retryAt := some (now + s.cfg.retryPeriod * second) }
  let failed (s : State) (c : Chan) (reason : FailureReason) (now : Nat) (endFirst : Bool) (t : State) : Prop :=
    t.clock = now ∧
      t.faults = (if (s.signs.get c).reason = some reason then s.faults
        else s.faults.replaced (s.signs.get c).reason
          (match reason with | .failed => .signFailed | .noResponse => .signNoResponse) c.num (now / second) endFirst) ∧
      (∀ k, c = .lane k → s.acting = true →
        (s.composer.active.aspects.get k = .closed ∨ ∃ n, s.composer.active.aspects.get k = .limit n) →
        t.line.urgent = true ∧ t.line.pending = true) ∧
      Line.slotOnly s.line t.line
  (∀ (dt e : Nat) (c : Chan) (s : State), s.chanUsable c = true → (s.signs.get c).state = .identifying →
    (s.signs.get c).identifyBy = some e → e ≤ s.clock + dt →
    ∃ t, exec (.identificationDeadline dt c) s = .next t ∧ failed s c .noResponse (s.clock + dt) false t ∧
      t.signs = { s.signs.set c (channel s c .noResponse (s.clock + dt)) with sent := [blankOn c] } ∧
      SameOutside [.clock, .signs, .faults, .line] s t) ∧
  ∀ (dt : Nat) (c : Chan) (endFirst : Bool) (s : State) (a : Attempt), s.chanUsable c = true →
    (s.signs.get c).state = .setting → (s.signs.get c).attempt = some a → a.deadline ≤ s.clock + dt →
    let reason : FailureReason := if (s.signs.get c).identified then .failed else .noResponse
    ∃ t, exec (.provingDeadline dt c endFirst) s = .next t ∧ failed s c reason (s.clock + dt) endFirst t ∧
      (s.advance dt).gateTried { s.signs.set c (channel s c reason (s.clock + dt)) with sent := [blankOn c] } t ∧
      SameOutside [.clock, .signs, .composer, .faults, .line] s t

/-- R149, R154, R158: a due retry of a FAILED channel begins an attempt with its active aspect under a fresh proving set
number, which rises by one and returns from 255 to 1; an unidentified channel is sent IDENTIFY first. The failure reason
and its fault stay. -/
def Obligations.RetryBeginsAnAttempt : Prop :=
  ∀ (dt e : Nat) (c : Chan) (s : State), s.chanUsable c = true → (s.signs.get c).state = .failed →
    (s.signs.get c).retryAt = some e → e ≤ s.clock + dt →
    let ch := s.signs.get c
    let message : SignMessage :=
      match c with
      | .lane k =>
          .laneAspect ch.nextSet (s.composer.active.aspects.get k).cls
            (match s.composer.active.aspects.get k with | .limit n => s.cfg.limit.get n | _ => 0)
      | .legend => .legendAspect ch.nextSet s.composer.active.legend s.composer.active.flashers
    ∃ t, exec (.retryTimerExpiry dt c) s = .next t ∧ t.clock = s.clock + dt ∧
      t.signs.get c = { ch with state := .setting, nextSet := if ch.nextSet = 255 then 1 else ch.nextSet + 1
                                attempt := some { set := ch.nextSet, deadline := s.clock + dt + s.cfg.provingTimeout * 1000 }
                                identifyBy := none, retryAt := none } ∧
      (∀ c', c' ≠ c → t.signs.get c' = s.signs.get c') ∧
      t.signs.sent = (if ch.identified then [(c, message)] else [(c, .identify), (c, message)]) ∧
      Line.slotOnly s.line t.line ∧ SameOutside [.clock, .signs, .line] s t

/-- R143, R144, R153, R157, R159, R160: a RESTART NOTICE of the expected kind sets a SHOWING or FAILED channel again under a
fresh number, in SETTING sends the aspect again and keeps the deadline, and from a MISMATCH channel, as from any line in CONFIG_FAULT, is
answered with BLANK; another kind makes any other channel MISMATCH and ends the fault of its failure reason. Only
the end of an attempt in SETTING lets a waiting plan commit; otherwise the other channels and the plans stay as they were. -/
def Obligations.RestartNoticeSetsTheChannelAgain : Prop :=
  ∀ (dt : Nat) (c : Chan) (kind : Octet) (check : BitVec 16) (endFirst : Bool) (s : State),
    let ch := s.signs.get c
    let fresh := if ch.nextSet = 255 then 1 else ch.nextSet + 1
    let mismatch : Channel :=
      { ch with state := .mismatch, reason := none, attempt := none, identifyBy := none, retryAt := none }
    let good : Prop := kind = (match c with | .lane _ => 1 | .legend => 2)
    check = checkOctets [0x23, kind] → (s.mode = .configFault ∨ s.chanUsable c = true) →
    ∃ t, exec (.restartNotice dt c kind check endFirst) s = .next t ∧ t.clock = s.clock + dt ∧
      ((s.mode = .configFault ∨ ch.state = .mismatch) → t.signs.sent = [blankOn c] ∧ t.signs.get c = ch ∧ t.faults = s.faults) ∧
      (s.mode ≠ .configFault → good → (ch.state = .showing ∨ ch.state = .failed) →
        t.signs.get c = { ch with state := .setting, identified := true, nextSet := fresh
                                  attempt := some { set := ch.nextSet, deadline := s.clock + dt + s.cfg.provingTimeout * 1000 }
                                  identifyBy := none, retryAt := none } ∧
        t.signs.sent = [(c, s.aspectSet ch.nextSet (s.composer.active.part c))] ∧ t.faults = s.faults) ∧
      (∀ a, s.mode ≠ .configFault → good → ch.state = .setting → ch.attempt = some a →
        t.signs.get c = { ch with identified := true, nextSet := fresh, attempt := some { set := ch.nextSet, deadline := a.deadline } } ∧
        t.signs.sent = [(c, s.aspectSet ch.nextSet (s.composer.active.part c))] ∧ t.faults = s.faults) ∧
      (s.mode ≠ .configFault → good → ch.state = .identifying →
        t.signs.get c = { ch with state := .showing, identified := true, identifyBy := none } ∧ t.signs.sent = [blankOn c] ∧
        t.faults = s.faults) ∧
      (s.mode ≠ .configFault → ¬good → ch.state ≠ .mismatch → ch.state ≠ .absent → ch.state ≠ .setting →
        t.signs.get c = mismatch ∧ t.signs.sent = [blankOn c] ∧
        t.faults = s.faults.replaced ch.reason .signMismatch c.num ((s.clock + dt) / second) endFirst) ∧
      (s.mode ≠ .configFault → ¬good → ch.state = .setting →
        (s.advance dt).gateTried { s.signs.set c mismatch with sent := [blankOn c] } t ∧ t.signs.get c = mismatch ∧
        t.faults = s.faults.replaced ch.reason .signMismatch c.num ((s.clock + dt) / second) endFirst) ∧
      ((s.mode = .configFault ∨ good ∨ ch.state ≠ .setting) →
        (∀ c', c' ≠ c → t.signs.get c' = s.signs.get c') ∧ t.composer = s.composer) ∧
      Line.slotOnly s.line t.line ∧ SameOutside [.clock, .signs, .faults, .line, .composer] s t

/-! ### Centre -/

/-- R178, R179: a FAULT-ACK of a listed kind, or of ALL, removes the selected entries that are inactive, marks the active
ones acknowledged, leaves every other entry, and clears the overflow flag when it removes anything; a kind code outside the
list is refused with REFUSED-RANGE. -/
def Obligations.AcknowledgementRemovesEndedFaults : Prop :=
  let acknowledged (l : FaultList) (sel : FaultEntry → Bool) : FaultList :=
    { entries := l.entries.filterMap (fun e =>
        if sel e then (if e.active then some { e with acked := true } else none) else some e)
      overflow := l.overflow && !l.entries.any (fun e => sel e && !e.active) }
  (∀ (dt : Nat) (station kind unit : Octet) (s : State), s.acting = true → s.own ≠ 63 → station.toNat = s.own → kind ≠ 0 →
    s.canHear (commandFrame .faultAck [station, kind, unit]) = true →
    ∃ t, exec (.faultAck dt station kind unit) s = .next t ∧
      s.commanded dt .faultAck (if (faultKindOf kind.toNat).isSome then .accepted else .refusedRange) t ∧
      t.faults = (match faultKindOf kind.toNat with
        | some k => acknowledged (s.faults.close .neighbourLost 63) (fun e => e.kind == k && e.unit == unit.toNat)
        | none => s.faults.close .neighbourLost 63) ∧
      Line.slotOnly (s.line.toIdle (s.clock + dt)) t.line ∧
      SameOutside (andReaders [.clock, .station, .neighbours, .faults]) s t) ∧
  ∀ (dt : Nat) (station unit : Octet) (s : State), s.acting = true → s.own ≠ 63 → station.toNat = s.own →
    s.canHear (commandFrame .faultAck [station, 0, unit]) = true →
    ∃ t, exec (.faultAckAll dt station unit) s = .next t ∧ s.commanded dt .faultAck .accepted t ∧
      t.faults = acknowledged (s.faults.close .neighbourLost 63) (fun _ => true) ∧
      Line.slotOnly (s.line.toIdle (s.clock + dt)) t.line ∧
      SameOutside (andReaders [.clock, .station, .neighbours, .faults]) s t

/-- R56, R180, R181: a REQUEST for FAULTS is BUSY without room for its whole answer, which takes one place for every 4
entries and at least 1; else it is ACCEPTED, and its frames, which carry the last command before it, enter the reply queue
in order. It is taken in CONFIG_FAULT too. -/
def Obligations.FaultsRequestAnswersWholeOrNotAtAll : Prop :=
  ∀ (dt : Nat) (station lane count : Octet) (s : State),
    (s.acting = true ∨ s.mode = .configFault) → s.own ≠ 63 → station.toNat = s.own →
    s.canHear (commandFrame .request [station, 1, lane, count]) = true →
    let u : State := if s.acting then { s with faults := s.faults.close .neighbourLost 63, station := { s.station with mode := s.mode.heard } } else s
    let places := max 1 ((u.faults.entries.length + 3) / 4)
    ∃ t, exec (.requestFaults dt station lane count) s = .next t ∧ t.clock = s.clock + dt ∧ t.faults = u.faults ∧
      t.station = { u.station with
        lastCommand := some ⟨.request, if 4 - s.line.replies.length < places then .busy else .accepted⟩ } ∧
      t.neighbours = (if s.acting then s.heardNeighbours dt else s.neighbours) ∧
      t.line.replies = s.line.replies ++
        (if 4 - s.line.replies.length < places then [] else (List.range places).map (fun i => u.faultsBody (i + 1))) ∧
      Line.slotOnly { s.line.toIdle (s.clock + dt) with replies := t.line.replies } t.line ∧
      SameOutside (andReaders [.clock, .station, .neighbours, .faults]) s t

/-- R17, R180, R182: a REQUEST for LANES needs one place and enters one frame of the lanes' modes and records; a station in
WARMING that has made no evaluation reports every result absent, and that the EMPTY mark then goes clear, while the merged
mark and n_long go as they stand, is the model's reading (log 23); a REQUEST for TRACE is judged by its lane and count,
taken by an IDLE trace buffer and BUSY otherwise; any other type is refused with REFUSED-RANGE. -/
def Obligations.OtherRequestsAreTakenOrRefused : Prop :=
  (∀ (dt : Nat) (station lane count : Octet) (s : State), s.acting = true → s.own ≠ 63 → station.toNat = s.own →
    s.canHear (commandFrame .request [station, 2, lane, count]) = true →
    ∃ t, exec (.requestLanes dt station lane count) s = .next t ∧
      s.commanded dt .request (if s.line.replies.length < 4 then .accepted else .busy) t ∧
      t.line.replies = s.line.replies ++ (if s.line.replies.length < 4 then [s.lanesReport] else []) ∧
      s.lanesReport = reportHead .lanes true 1 :: packDigits (digitsOf 2 (s.cfg.laneCount - 2) ++
        s.laneList.flatMap (fun k => laneDigits (s.detector.lanes.get k).mode
          (if s.mode = .warming ∧ s.station.firstEvaluation = false then
            { s.records.get k with q := none, o := none, v := none, empty := false, s := none, os := none }
          else s.records.get k))) ∧
      (s.cfg.laneCount ≤ 5 → s.lanesReport.length = 1 + (2 + 46 * s.cfg.laneCount + 7) / 8) ∧
      Line.slotOnly { s.line.toIdle (s.clock + dt) with replies := t.line.replies } t.line ∧
      t.faults = s.faults.close .neighbourLost 63 ∧
      SameOutside (andReaders [.clock, .station, .neighbours, .faults]) s t) ∧
  (∀ (dt : Nat) (station lane count : Octet) (s : State), s.acting = true → s.own ≠ 63 → station.toNat = s.own →
    s.canHear (commandFrame .request [station, 3, lane, count]) = true →
    let bad : Prop := lane.toNat < 1 ∨ s.cfg.laneCount < lane.toNat ∨ count.toNat < 1 ∨ 32 < count.toNat
    ∃ t, exec (.requestTrace dt station lane count) s = .next t ∧
      (bad → s.commanded dt .request .refusedRange t ∧ t.trace = s.trace) ∧
      (¬bad → s.trace.state = .idle → s.commanded dt .request .accepted t ∧
        t.trace = { state := .capturing, lane := lane.toNat, requested := count.toNat, captured := 0, intervals := 0
                    framesSent := 0, cutShort := false, records := [] }) ∧
      (¬bad → s.trace.state ≠ .idle → s.commanded dt .request .busy t ∧ t.trace = s.trace) ∧
      t.faults = s.faults.close .neighbourLost 63 ∧ Line.slotOnly (s.line.toIdle (s.clock + dt)) t.line ∧
      SameOutside (andReaders [.clock, .station, .neighbours, .faults, .trace]) s t) ∧
  ∀ (dt : Nat) (station type lane count : Octet) (s : State), s.acting = true → s.own ≠ 63 → station.toNat = s.own →
    type ≠ 1 → type ≠ 2 → type ≠ 3 → s.canHear (commandFrame .request [station, type, lane, count]) = true →
    ∃ t, exec (.requestOtherType dt station type lane count) s = .next t ∧ s.commanded dt .request .refusedRange t ∧
      t.faults = s.faults.close .neighbourLost 63 ∧ Line.slotOnly (s.line.toIdle (s.clock + dt)) t.line ∧
      SameOutside (andReaders [.clock, .station, .neighbours, .faults]) s t

/-- R175, R176: in CONFIG_FAULT every command that addresses the station, except a REQUEST for FAULTS, is refused with
REFUSED-STATE whatever its fields; in every mode one that does not address it leaves the last-command record as it was. -/
def Obligations.CommandsAreRefusedOrIgnored : Prop :=
  ∀ (i : Instr) (c : Command) (body : List Octet) (s : State),
    gatewayCommand i = some (c, body) → s.own ≠ 63 → s.canHear (commandFrame c.kind body) = true →
    ∃ t, exec i s = .next t ∧
      (s.mode = .configFault → s.addresses c = true → (∀ dt station lane count, i ≠ .requestFaults dt station lane count) →
        t.station = { s.station with lastCommand := some { kind := c.kind, result := .refusedState } } ∧
        SameOutside [.clock, .station, .line, .signs] s t) ∧
      (s.addresses c = false → t.station.lastCommand = s.station.lastCommand ∧ t.closures = s.closures ∧
        t.shoulder = s.shoulder ∧ t.speed.override = s.speed.override ∧ t.trace = s.trace ∧
        t.line.replies = s.line.replies ∧ t.faults.entries.length ≤ s.faults.entries.length)
end

