-- ==== Sys2Proof/Laws/State.lean ====
section
/-!
SUPPORT. Each field of the state after each update of one field, and the small tables after an update of one place.
-/
namespace Sys2Proof.Machine

/-! ### After setPending -/

@[simp] theorem State.setPending_pending (s : State) (x : List Instr) : (s.setPending x).pending = x := rfl
@[simp] theorem State.setPending_clock (s : State) (x : List Instr) : (s.setPending x).clock = s.clock := rfl
@[simp] theorem State.setPending_inputs (s : State) (x : List Instr) : (s.setPending x).inputs = s.inputs := rfl
@[simp] theorem State.setPending_station (s : State) (x : List Instr) : (s.setPending x).station = s.station := rfl
@[simp] theorem State.setPending_detector (s : State) (x : List Instr) : (s.setPending x).detector = s.detector := rfl
@[simp] theorem State.setPending_trace (s : State) (x : List Instr) : (s.setPending x).trace = s.trace := rfl
@[simp] theorem State.setPending_requests (s : State) (x : List Instr) : (s.setPending x).requests = s.requests := rfl
@[simp] theorem State.setPending_records (s : State) (x : List Instr) : (s.setPending x).records = s.records := rfl
@[simp] theorem State.setPending_measures (s : State) (x : List Instr) : (s.setPending x).measures = s.measures := rfl
@[simp] theorem State.setPending_line (s : State) (x : List Instr) : (s.setPending x).line = s.line := rfl
@[simp] theorem State.setPending_neighbours (s : State) (x : List Instr) : (s.setPending x).neighbours = s.neighbours := rfl
@[simp] theorem State.setPending_speed (s : State) (x : List Instr) : (s.setPending x).speed = s.speed := rfl
@[simp] theorem State.setPending_queue (s : State) (x : List Instr) : (s.setPending x).queue = s.queue := rfl
@[simp] theorem State.setPending_closures (s : State) (x : List Instr) : (s.setPending x).closures = s.closures := rfl
@[simp] theorem State.setPending_shoulder (s : State) (x : List Instr) : (s.setPending x).shoulder = s.shoulder := rfl
@[simp] theorem State.setPending_composer (s : State) (x : List Instr) : (s.setPending x).composer = s.composer := rfl
@[simp] theorem State.setPending_signs (s : State) (x : List Instr) : (s.setPending x).signs = s.signs := rfl
@[simp] theorem State.setPending_retention (s : State) (x : List Instr) : (s.setPending x).retention = s.retention := rfl
@[simp] theorem State.setPending_faults (s : State) (x : List Instr) : (s.setPending x).faults = s.faults := rfl
@[simp] theorem State.setPending_free (s : State) (x : List Instr) : (s.setPending x).free = s.free := rfl

/-! ### After setClock -/

@[simp] theorem State.setClock_pending (s : State) (x : Nat) : (s.setClock x).pending = s.pending := rfl
@[simp] theorem State.setClock_clock (s : State) (x : Nat) : (s.setClock x).clock = x := rfl
@[simp] theorem State.setClock_inputs (s : State) (x : Nat) : (s.setClock x).inputs = s.inputs := rfl
@[simp] theorem State.setClock_station (s : State) (x : Nat) : (s.setClock x).station = s.station := rfl
@[simp] theorem State.setClock_detector (s : State) (x : Nat) : (s.setClock x).detector = s.detector := rfl
@[simp] theorem State.setClock_trace (s : State) (x : Nat) : (s.setClock x).trace = s.trace := rfl
@[simp] theorem State.setClock_requests (s : State) (x : Nat) : (s.setClock x).requests = s.requests := rfl
@[simp] theorem State.setClock_records (s : State) (x : Nat) : (s.setClock x).records = s.records := rfl
@[simp] theorem State.setClock_measures (s : State) (x : Nat) : (s.setClock x).measures = s.measures := rfl
@[simp] theorem State.setClock_line (s : State) (x : Nat) : (s.setClock x).line = s.line := rfl
@[simp] theorem State.setClock_neighbours (s : State) (x : Nat) : (s.setClock x).neighbours = s.neighbours := rfl
@[simp] theorem State.setClock_speed (s : State) (x : Nat) : (s.setClock x).speed = s.speed := rfl
@[simp] theorem State.setClock_queue (s : State) (x : Nat) : (s.setClock x).queue = s.queue := rfl
@[simp] theorem State.setClock_closures (s : State) (x : Nat) : (s.setClock x).closures = s.closures := rfl
@[simp] theorem State.setClock_shoulder (s : State) (x : Nat) : (s.setClock x).shoulder = s.shoulder := rfl
@[simp] theorem State.setClock_composer (s : State) (x : Nat) : (s.setClock x).composer = s.composer := rfl
@[simp] theorem State.setClock_signs (s : State) (x : Nat) : (s.setClock x).signs = s.signs := rfl
@[simp] theorem State.setClock_retention (s : State) (x : Nat) : (s.setClock x).retention = s.retention := rfl
@[simp] theorem State.setClock_faults (s : State) (x : Nat) : (s.setClock x).faults = s.faults := rfl
@[simp] theorem State.setClock_free (s : State) (x : Nat) : (s.setClock x).free = s.free := rfl

/-! ### After setInputs -/

@[simp] theorem State.setInputs_pending (s : State) (x : Lanes LoopInputs) : (s.setInputs x).pending = s.pending := rfl
@[simp] theorem State.setInputs_clock (s : State) (x : Lanes LoopInputs) : (s.setInputs x).clock = s.clock := rfl
@[simp] theorem State.setInputs_inputs (s : State) (x : Lanes LoopInputs) : (s.setInputs x).inputs = x := rfl
@[simp] theorem State.setInputs_station (s : State) (x : Lanes LoopInputs) : (s.setInputs x).station = s.station := rfl
@[simp] theorem State.setInputs_detector (s : State) (x : Lanes LoopInputs) : (s.setInputs x).detector = s.detector := rfl
@[simp] theorem State.setInputs_trace (s : State) (x : Lanes LoopInputs) : (s.setInputs x).trace = s.trace := rfl
@[simp] theorem State.setInputs_requests (s : State) (x : Lanes LoopInputs) : (s.setInputs x).requests = s.requests := rfl
@[simp] theorem State.setInputs_records (s : State) (x : Lanes LoopInputs) : (s.setInputs x).records = s.records := rfl
@[simp] theorem State.setInputs_measures (s : State) (x : Lanes LoopInputs) : (s.setInputs x).measures = s.measures := rfl
@[simp] theorem State.setInputs_line (s : State) (x : Lanes LoopInputs) : (s.setInputs x).line = s.line := rfl
@[simp] theorem State.setInputs_neighbours (s : State) (x : Lanes LoopInputs) : (s.setInputs x).neighbours = s.neighbours := rfl
@[simp] theorem State.setInputs_speed (s : State) (x : Lanes LoopInputs) : (s.setInputs x).speed = s.speed := rfl
@[simp] theorem State.setInputs_queue (s : State) (x : Lanes LoopInputs) : (s.setInputs x).queue = s.queue := rfl
@[simp] theorem State.setInputs_closures (s : State) (x : Lanes LoopInputs) : (s.setInputs x).closures = s.closures := rfl
@[simp] theorem State.setInputs_shoulder (s : State) (x : Lanes LoopInputs) : (s.setInputs x).shoulder = s.shoulder := rfl
@[simp] theorem State.setInputs_composer (s : State) (x : Lanes LoopInputs) : (s.setInputs x).composer = s.composer := rfl
@[simp] theorem State.setInputs_signs (s : State) (x : Lanes LoopInputs) : (s.setInputs x).signs = s.signs := rfl
@[simp] theorem State.setInputs_retention (s : State) (x : Lanes LoopInputs) : (s.setInputs x).retention = s.retention := rfl
@[simp] theorem State.setInputs_faults (s : State) (x : Lanes LoopInputs) : (s.setInputs x).faults = s.faults := rfl
@[simp] theorem State.setInputs_free (s : State) (x : Lanes LoopInputs) : (s.setInputs x).free = s.free := rfl

/-! ### After setStation -/

@[simp] theorem State.setStation_pending (s : State) (x : Station) : (s.setStation x).pending = s.pending := rfl
@[simp] theorem State.setStation_clock (s : State) (x : Station) : (s.setStation x).clock = s.clock := rfl
@[simp] theorem State.setStation_inputs (s : State) (x : Station) : (s.setStation x).inputs = s.inputs := rfl
@[simp] theorem State.setStation_station (s : State) (x : Station) : (s.setStation x).station = x := rfl
@[simp] theorem State.setStation_detector (s : State) (x : Station) : (s.setStation x).detector = s.detector := rfl
@[simp] theorem State.setStation_trace (s : State) (x : Station) : (s.setStation x).trace = s.trace := rfl
@[simp] theorem State.setStation_requests (s : State) (x : Station) : (s.setStation x).requests = s.requests := rfl
@[simp] theorem State.setStation_records (s : State) (x : Station) : (s.setStation x).records = s.records := rfl
@[simp] theorem State.setStation_measures (s : State) (x : Station) : (s.setStation x).measures = s.measures := rfl
@[simp] theorem State.setStation_line (s : State) (x : Station) : (s.setStation x).line = s.line := rfl
@[simp] theorem State.setStation_neighbours (s : State) (x : Station) : (s.setStation x).neighbours = s.neighbours := rfl
@[simp] theorem State.setStation_speed (s : State) (x : Station) : (s.setStation x).speed = s.speed := rfl
@[simp] theorem State.setStation_queue (s : State) (x : Station) : (s.setStation x).queue = s.queue := rfl
@[simp] theorem State.setStation_closures (s : State) (x : Station) : (s.setStation x).closures = s.closures := rfl
@[simp] theorem State.setStation_shoulder (s : State) (x : Station) : (s.setStation x).shoulder = s.shoulder := rfl
@[simp] theorem State.setStation_composer (s : State) (x : Station) : (s.setStation x).composer = s.composer := rfl
@[simp] theorem State.setStation_signs (s : State) (x : Station) : (s.setStation x).signs = s.signs := rfl
@[simp] theorem State.setStation_retention (s : State) (x : Station) : (s.setStation x).retention = s.retention := rfl
@[simp] theorem State.setStation_faults (s : State) (x : Station) : (s.setStation x).faults = s.faults := rfl
@[simp] theorem State.setStation_free (s : State) (x : Station) : (s.setStation x).free = s.free := rfl

/-! ### After setDetector -/

@[simp] theorem State.setDetector_pending (s : State) (x : Detector) : (s.setDetector x).pending = s.pending := rfl
@[simp] theorem State.setDetector_clock (s : State) (x : Detector) : (s.setDetector x).clock = s.clock := rfl
@[simp] theorem State.setDetector_inputs (s : State) (x : Detector) : (s.setDetector x).inputs = s.inputs := rfl
@[simp] theorem State.setDetector_station (s : State) (x : Detector) : (s.setDetector x).station = s.station := rfl
@[simp] theorem State.setDetector_detector (s : State) (x : Detector) : (s.setDetector x).detector = x := rfl
@[simp] theorem State.setDetector_trace (s : State) (x : Detector) : (s.setDetector x).trace = s.trace := rfl
@[simp] theorem State.setDetector_requests (s : State) (x : Detector) : (s.setDetector x).requests = s.requests := rfl
@[simp] theorem State.setDetector_records (s : State) (x : Detector) : (s.setDetector x).records = s.records := rfl
@[simp] theorem State.setDetector_measures (s : State) (x : Detector) : (s.setDetector x).measures = s.measures := rfl
@[simp] theorem State.setDetector_line (s : State) (x : Detector) : (s.setDetector x).line = s.line := rfl
@[simp] theorem State.setDetector_neighbours (s : State) (x : Detector) : (s.setDetector x).neighbours = s.neighbours := rfl
@[simp] theorem State.setDetector_speed (s : State) (x : Detector) : (s.setDetector x).speed = s.speed := rfl
@[simp] theorem State.setDetector_queue (s : State) (x : Detector) : (s.setDetector x).queue = s.queue := rfl
@[simp] theorem State.setDetector_closures (s : State) (x : Detector) : (s.setDetector x).closures = s.closures := rfl
@[simp] theorem State.setDetector_shoulder (s : State) (x : Detector) : (s.setDetector x).shoulder = s.shoulder := rfl
@[simp] theorem State.setDetector_composer (s : State) (x : Detector) : (s.setDetector x).composer = s.composer := rfl
@[simp] theorem State.setDetector_signs (s : State) (x : Detector) : (s.setDetector x).signs = s.signs := rfl
@[simp] theorem State.setDetector_retention (s : State) (x : Detector) : (s.setDetector x).retention = s.retention := rfl
@[simp] theorem State.setDetector_faults (s : State) (x : Detector) : (s.setDetector x).faults = s.faults := rfl
@[simp] theorem State.setDetector_free (s : State) (x : Detector) : (s.setDetector x).free = s.free := rfl

/-! ### After setTrace -/

@[simp] theorem State.setTrace_pending (s : State) (x : Trace) : (s.setTrace x).pending = s.pending := rfl
@[simp] theorem State.setTrace_clock (s : State) (x : Trace) : (s.setTrace x).clock = s.clock := rfl
@[simp] theorem State.setTrace_inputs (s : State) (x : Trace) : (s.setTrace x).inputs = s.inputs := rfl
@[simp] theorem State.setTrace_station (s : State) (x : Trace) : (s.setTrace x).station = s.station := rfl
@[simp] theorem State.setTrace_detector (s : State) (x : Trace) : (s.setTrace x).detector = s.detector := rfl
@[simp] theorem State.setTrace_trace (s : State) (x : Trace) : (s.setTrace x).trace = x := rfl
@[simp] theorem State.setTrace_requests (s : State) (x : Trace) : (s.setTrace x).requests = s.requests := rfl
@[simp] theorem State.setTrace_records (s : State) (x : Trace) : (s.setTrace x).records = s.records := rfl
@[simp] theorem State.setTrace_measures (s : State) (x : Trace) : (s.setTrace x).measures = s.measures := rfl
@[simp] theorem State.setTrace_line (s : State) (x : Trace) : (s.setTrace x).line = s.line := rfl
@[simp] theorem State.setTrace_neighbours (s : State) (x : Trace) : (s.setTrace x).neighbours = s.neighbours := rfl
@[simp] theorem State.setTrace_speed (s : State) (x : Trace) : (s.setTrace x).speed = s.speed := rfl
@[simp] theorem State.setTrace_queue (s : State) (x : Trace) : (s.setTrace x).queue = s.queue := rfl
@[simp] theorem State.setTrace_closures (s : State) (x : Trace) : (s.setTrace x).closures = s.closures := rfl
@[simp] theorem State.setTrace_shoulder (s : State) (x : Trace) : (s.setTrace x).shoulder = s.shoulder := rfl
@[simp] theorem State.setTrace_composer (s : State) (x : Trace) : (s.setTrace x).composer = s.composer := rfl
@[simp] theorem State.setTrace_signs (s : State) (x : Trace) : (s.setTrace x).signs = s.signs := rfl
@[simp] theorem State.setTrace_retention (s : State) (x : Trace) : (s.setTrace x).retention = s.retention := rfl
@[simp] theorem State.setTrace_faults (s : State) (x : Trace) : (s.setTrace x).faults = s.faults := rfl
@[simp] theorem State.setTrace_free (s : State) (x : Trace) : (s.setTrace x).free = s.free := rfl

/-! ### After setRequests -/

@[simp] theorem State.setRequests_pending (s : State) (x : List Request) : (s.setRequests x).pending = s.pending := rfl
@[simp] theorem State.setRequests_clock (s : State) (x : List Request) : (s.setRequests x).clock = s.clock := rfl
@[simp] theorem State.setRequests_inputs (s : State) (x : List Request) : (s.setRequests x).inputs = s.inputs := rfl
@[simp] theorem State.setRequests_station (s : State) (x : List Request) : (s.setRequests x).station = s.station := rfl
@[simp] theorem State.setRequests_detector (s : State) (x : List Request) : (s.setRequests x).detector = s.detector := rfl
@[simp] theorem State.setRequests_trace (s : State) (x : List Request) : (s.setRequests x).trace = s.trace := rfl
@[simp] theorem State.setRequests_requests (s : State) (x : List Request) : (s.setRequests x).requests = x := rfl
@[simp] theorem State.setRequests_records (s : State) (x : List Request) : (s.setRequests x).records = s.records := rfl
@[simp] theorem State.setRequests_measures (s : State) (x : List Request) : (s.setRequests x).measures = s.measures := rfl
@[simp] theorem State.setRequests_line (s : State) (x : List Request) : (s.setRequests x).line = s.line := rfl
@[simp] theorem State.setRequests_neighbours (s : State) (x : List Request) : (s.setRequests x).neighbours = s.neighbours := rfl
@[simp] theorem State.setRequests_speed (s : State) (x : List Request) : (s.setRequests x).speed = s.speed := rfl
@[simp] theorem State.setRequests_queue (s : State) (x : List Request) : (s.setRequests x).queue = s.queue := rfl
@[simp] theorem State.setRequests_closures (s : State) (x : List Request) : (s.setRequests x).closures = s.closures := rfl
@[simp] theorem State.setRequests_shoulder (s : State) (x : List Request) : (s.setRequests x).shoulder = s.shoulder := rfl
@[simp] theorem State.setRequests_composer (s : State) (x : List Request) : (s.setRequests x).composer = s.composer := rfl
@[simp] theorem State.setRequests_signs (s : State) (x : List Request) : (s.setRequests x).signs = s.signs := rfl
@[simp] theorem State.setRequests_retention (s : State) (x : List Request) : (s.setRequests x).retention = s.retention := rfl
@[simp] theorem State.setRequests_faults (s : State) (x : List Request) : (s.setRequests x).faults = s.faults := rfl
@[simp] theorem State.setRequests_free (s : State) (x : List Request) : (s.setRequests x).free = s.free := rfl

/-! ### After setRecords -/

@[simp] theorem State.setRecords_pending (s : State) (x : Lanes LaneRecord) : (s.setRecords x).pending = s.pending := rfl
@[simp] theorem State.setRecords_clock (s : State) (x : Lanes LaneRecord) : (s.setRecords x).clock = s.clock := rfl
@[simp] theorem State.setRecords_inputs (s : State) (x : Lanes LaneRecord) : (s.setRecords x).inputs = s.inputs := rfl
@[simp] theorem State.setRecords_station (s : State) (x : Lanes LaneRecord) : (s.setRecords x).station = s.station := rfl
@[simp] theorem State.setRecords_detector (s : State) (x : Lanes LaneRecord) : (s.setRecords x).detector = s.detector := rfl
@[simp] theorem State.setRecords_trace (s : State) (x : Lanes LaneRecord) : (s.setRecords x).trace = s.trace := rfl
@[simp] theorem State.setRecords_requests (s : State) (x : Lanes LaneRecord) : (s.setRecords x).requests = s.requests := rfl
@[simp] theorem State.setRecords_records (s : State) (x : Lanes LaneRecord) : (s.setRecords x).records = x := rfl
@[simp] theorem State.setRecords_measures (s : State) (x : Lanes LaneRecord) : (s.setRecords x).measures = s.measures := rfl
@[simp] theorem State.setRecords_line (s : State) (x : Lanes LaneRecord) : (s.setRecords x).line = s.line := rfl
@[simp] theorem State.setRecords_neighbours (s : State) (x : Lanes LaneRecord) : (s.setRecords x).neighbours = s.neighbours := rfl
@[simp] theorem State.setRecords_speed (s : State) (x : Lanes LaneRecord) : (s.setRecords x).speed = s.speed := rfl
@[simp] theorem State.setRecords_queue (s : State) (x : Lanes LaneRecord) : (s.setRecords x).queue = s.queue := rfl
@[simp] theorem State.setRecords_closures (s : State) (x : Lanes LaneRecord) : (s.setRecords x).closures = s.closures := rfl
@[simp] theorem State.setRecords_shoulder (s : State) (x : Lanes LaneRecord) : (s.setRecords x).shoulder = s.shoulder := rfl
@[simp] theorem State.setRecords_composer (s : State) (x : Lanes LaneRecord) : (s.setRecords x).composer = s.composer := rfl
@[simp] theorem State.setRecords_signs (s : State) (x : Lanes LaneRecord) : (s.setRecords x).signs = s.signs := rfl
@[simp] theorem State.setRecords_retention (s : State) (x : Lanes LaneRecord) : (s.setRecords x).retention = s.retention := rfl
@[simp] theorem State.setRecords_faults (s : State) (x : Lanes LaneRecord) : (s.setRecords x).faults = s.faults := rfl
@[simp] theorem State.setRecords_free (s : State) (x : Lanes LaneRecord) : (s.setRecords x).free = s.free := rfl

/-! ### After setMeasures -/

@[simp] theorem State.setMeasures_pending (s : State) (x : Measures) : (s.setMeasures x).pending = s.pending := rfl
@[simp] theorem State.setMeasures_clock (s : State) (x : Measures) : (s.setMeasures x).clock = s.clock := rfl
@[simp] theorem State.setMeasures_inputs (s : State) (x : Measures) : (s.setMeasures x).inputs = s.inputs := rfl
@[simp] theorem State.setMeasures_station (s : State) (x : Measures) : (s.setMeasures x).station = s.station := rfl
@[simp] theorem State.setMeasures_detector (s : State) (x : Measures) : (s.setMeasures x).detector = s.detector := rfl
@[simp] theorem State.setMeasures_trace (s : State) (x : Measures) : (s.setMeasures x).trace = s.trace := rfl
@[simp] theorem State.setMeasures_requests (s : State) (x : Measures) : (s.setMeasures x).requests = s.requests := rfl
@[simp] theorem State.setMeasures_records (s : State) (x : Measures) : (s.setMeasures x).records = s.records := rfl
@[simp] theorem State.setMeasures_measures (s : State) (x : Measures) : (s.setMeasures x).measures = x := rfl
@[simp] theorem State.setMeasures_line (s : State) (x : Measures) : (s.setMeasures x).line = s.line := rfl
@[simp] theorem State.setMeasures_neighbours (s : State) (x : Measures) : (s.setMeasures x).neighbours = s.neighbours := rfl
@[simp] theorem State.setMeasures_speed (s : State) (x : Measures) : (s.setMeasures x).speed = s.speed := rfl
@[simp] theorem State.setMeasures_queue (s : State) (x : Measures) : (s.setMeasures x).queue = s.queue := rfl
@[simp] theorem State.setMeasures_closures (s : State) (x : Measures) : (s.setMeasures x).closures = s.closures := rfl
@[simp] theorem State.setMeasures_shoulder (s : State) (x : Measures) : (s.setMeasures x).shoulder = s.shoulder := rfl
@[simp] theorem State.setMeasures_composer (s : State) (x : Measures) : (s.setMeasures x).composer = s.composer := rfl
@[simp] theorem State.setMeasures_signs (s : State) (x : Measures) : (s.setMeasures x).signs = s.signs := rfl
@[simp] theorem State.setMeasures_retention (s : State) (x : Measures) : (s.setMeasures x).retention = s.retention := rfl
@[simp] theorem State.setMeasures_faults (s : State) (x : Measures) : (s.setMeasures x).faults = s.faults := rfl
@[simp] theorem State.setMeasures_free (s : State) (x : Measures) : (s.setMeasures x).free = s.free := rfl

/-! ### After setLine -/

@[simp] theorem State.setLine_pending (s : State) (x : Line) : (s.setLine x).pending = s.pending := rfl
@[simp] theorem State.setLine_clock (s : State) (x : Line) : (s.setLine x).clock = s.clock := rfl
@[simp] theorem State.setLine_inputs (s : State) (x : Line) : (s.setLine x).inputs = s.inputs := rfl
@[simp] theorem State.setLine_station (s : State) (x : Line) : (s.setLine x).station = s.station := rfl
@[simp] theorem State.setLine_detector (s : State) (x : Line) : (s.setLine x).detector = s.detector := rfl
@[simp] theorem State.setLine_trace (s : State) (x : Line) : (s.setLine x).trace = s.trace := rfl
@[simp] theorem State.setLine_requests (s : State) (x : Line) : (s.setLine x).requests = s.requests := rfl
@[simp] theorem State.setLine_records (s : State) (x : Line) : (s.setLine x).records = s.records := rfl
@[simp] theorem State.setLine_measures (s : State) (x : Line) : (s.setLine x).measures = s.measures := rfl
@[simp] theorem State.setLine_line (s : State) (x : Line) : (s.setLine x).line = x := rfl
@[simp] theorem State.setLine_neighbours (s : State) (x : Line) : (s.setLine x).neighbours = s.neighbours := rfl
@[simp] theorem State.setLine_speed (s : State) (x : Line) : (s.setLine x).speed = s.speed := rfl
@[simp] theorem State.setLine_queue (s : State) (x : Line) : (s.setLine x).queue = s.queue := rfl
@[simp] theorem State.setLine_closures (s : State) (x : Line) : (s.setLine x).closures = s.closures := rfl
@[simp] theorem State.setLine_shoulder (s : State) (x : Line) : (s.setLine x).shoulder = s.shoulder := rfl
@[simp] theorem State.setLine_composer (s : State) (x : Line) : (s.setLine x).composer = s.composer := rfl
@[simp] theorem State.setLine_signs (s : State) (x : Line) : (s.setLine x).signs = s.signs := rfl
@[simp] theorem State.setLine_retention (s : State) (x : Line) : (s.setLine x).retention = s.retention := rfl
@[simp] theorem State.setLine_faults (s : State) (x : Line) : (s.setLine x).faults = s.faults := rfl
@[simp] theorem State.setLine_free (s : State) (x : Line) : (s.setLine x).free = s.free := rfl

/-! ### After setNeighbours -/

@[simp] theorem State.setNeighbours_pending (s : State) (x : Neighbours) : (s.setNeighbours x).pending = s.pending := rfl
@[simp] theorem State.setNeighbours_clock (s : State) (x : Neighbours) : (s.setNeighbours x).clock = s.clock := rfl
@[simp] theorem State.setNeighbours_inputs (s : State) (x : Neighbours) : (s.setNeighbours x).inputs = s.inputs := rfl
@[simp] theorem State.setNeighbours_station (s : State) (x : Neighbours) : (s.setNeighbours x).station = s.station := rfl
@[simp] theorem State.setNeighbours_detector (s : State) (x : Neighbours) : (s.setNeighbours x).detector = s.detector := rfl
@[simp] theorem State.setNeighbours_trace (s : State) (x : Neighbours) : (s.setNeighbours x).trace = s.trace := rfl
@[simp] theorem State.setNeighbours_requests (s : State) (x : Neighbours) : (s.setNeighbours x).requests = s.requests := rfl
@[simp] theorem State.setNeighbours_records (s : State) (x : Neighbours) : (s.setNeighbours x).records = s.records := rfl
@[simp] theorem State.setNeighbours_measures (s : State) (x : Neighbours) : (s.setNeighbours x).measures = s.measures := rfl
@[simp] theorem State.setNeighbours_line (s : State) (x : Neighbours) : (s.setNeighbours x).line = s.line := rfl
@[simp] theorem State.setNeighbours_neighbours (s : State) (x : Neighbours) : (s.setNeighbours x).neighbours = x := rfl
@[simp] theorem State.setNeighbours_speed (s : State) (x : Neighbours) : (s.setNeighbours x).speed = s.speed := rfl
@[simp] theorem State.setNeighbours_queue (s : State) (x : Neighbours) : (s.setNeighbours x).queue = s.queue := rfl
@[simp] theorem State.setNeighbours_closures (s : State) (x : Neighbours) : (s.setNeighbours x).closures = s.closures := rfl
@[simp] theorem State.setNeighbours_shoulder (s : State) (x : Neighbours) : (s.setNeighbours x).shoulder = s.shoulder := rfl
@[simp] theorem State.setNeighbours_composer (s : State) (x : Neighbours) : (s.setNeighbours x).composer = s.composer := rfl
@[simp] theorem State.setNeighbours_signs (s : State) (x : Neighbours) : (s.setNeighbours x).signs = s.signs := rfl
@[simp] theorem State.setNeighbours_retention (s : State) (x : Neighbours) : (s.setNeighbours x).retention = s.retention := rfl
@[simp] theorem State.setNeighbours_faults (s : State) (x : Neighbours) : (s.setNeighbours x).faults = s.faults := rfl
@[simp] theorem State.setNeighbours_free (s : State) (x : Neighbours) : (s.setNeighbours x).free = s.free := rfl

/-! ### After setSpeed -/

@[simp] theorem State.setSpeed_pending (s : State) (x : Speed) : (s.setSpeed x).pending = s.pending := rfl
@[simp] theorem State.setSpeed_clock (s : State) (x : Speed) : (s.setSpeed x).clock = s.clock := rfl
@[simp] theorem State.setSpeed_inputs (s : State) (x : Speed) : (s.setSpeed x).inputs = s.inputs := rfl
@[simp] theorem State.setSpeed_station (s : State) (x : Speed) : (s.setSpeed x).station = s.station := rfl
@[simp] theorem State.setSpeed_detector (s : State) (x : Speed) : (s.setSpeed x).detector = s.detector := rfl
@[simp] theorem State.setSpeed_trace (s : State) (x : Speed) : (s.setSpeed x).trace = s.trace := rfl
@[simp] theorem State.setSpeed_requests (s : State) (x : Speed) : (s.setSpeed x).requests = s.requests := rfl
@[simp] theorem State.setSpeed_records (s : State) (x : Speed) : (s.setSpeed x).records = s.records := rfl
@[simp] theorem State.setSpeed_measures (s : State) (x : Speed) : (s.setSpeed x).measures = s.measures := rfl
@[simp] theorem State.setSpeed_line (s : State) (x : Speed) : (s.setSpeed x).line = s.line := rfl
@[simp] theorem State.setSpeed_neighbours (s : State) (x : Speed) : (s.setSpeed x).neighbours = s.neighbours := rfl
@[simp] theorem State.setSpeed_speed (s : State) (x : Speed) : (s.setSpeed x).speed = x := rfl
@[simp] theorem State.setSpeed_queue (s : State) (x : Speed) : (s.setSpeed x).queue = s.queue := rfl
@[simp] theorem State.setSpeed_closures (s : State) (x : Speed) : (s.setSpeed x).closures = s.closures := rfl
@[simp] theorem State.setSpeed_shoulder (s : State) (x : Speed) : (s.setSpeed x).shoulder = s.shoulder := rfl
@[simp] theorem State.setSpeed_composer (s : State) (x : Speed) : (s.setSpeed x).composer = s.composer := rfl
@[simp] theorem State.setSpeed_signs (s : State) (x : Speed) : (s.setSpeed x).signs = s.signs := rfl
@[simp] theorem State.setSpeed_retention (s : State) (x : Speed) : (s.setSpeed x).retention = s.retention := rfl
@[simp] theorem State.setSpeed_faults (s : State) (x : Speed) : (s.setSpeed x).faults = s.faults := rfl
@[simp] theorem State.setSpeed_free (s : State) (x : Speed) : (s.setSpeed x).free = s.free := rfl

/-! ### After setQueue -/

@[simp] theorem State.setQueue_pending (s : State) (x : QueueMonitor) : (s.setQueue x).pending = s.pending := rfl
@[simp] theorem State.setQueue_clock (s : State) (x : QueueMonitor) : (s.setQueue x).clock = s.clock := rfl
@[simp] theorem State.setQueue_inputs (s : State) (x : QueueMonitor) : (s.setQueue x).inputs = s.inputs := rfl
@[simp] theorem State.setQueue_station (s : State) (x : QueueMonitor) : (s.setQueue x).station = s.station := rfl
@[simp] theorem State.setQueue_detector (s : State) (x : QueueMonitor) : (s.setQueue x).detector = s.detector := rfl
@[simp] theorem State.setQueue_trace (s : State) (x : QueueMonitor) : (s.setQueue x).trace = s.trace := rfl
@[simp] theorem State.setQueue_requests (s : State) (x : QueueMonitor) : (s.setQueue x).requests = s.requests := rfl
@[simp] theorem State.setQueue_records (s : State) (x : QueueMonitor) : (s.setQueue x).records = s.records := rfl
@[simp] theorem State.setQueue_measures (s : State) (x : QueueMonitor) : (s.setQueue x).measures = s.measures := rfl
@[simp] theorem State.setQueue_line (s : State) (x : QueueMonitor) : (s.setQueue x).line = s.line := rfl
@[simp] theorem State.setQueue_neighbours (s : State) (x : QueueMonitor) : (s.setQueue x).neighbours = s.neighbours := rfl
@[simp] theorem State.setQueue_speed (s : State) (x : QueueMonitor) : (s.setQueue x).speed = s.speed := rfl
@[simp] theorem State.setQueue_queue (s : State) (x : QueueMonitor) : (s.setQueue x).queue = x := rfl
@[simp] theorem State.setQueue_closures (s : State) (x : QueueMonitor) : (s.setQueue x).closures = s.closures := rfl
@[simp] theorem State.setQueue_shoulder (s : State) (x : QueueMonitor) : (s.setQueue x).shoulder = s.shoulder := rfl
@[simp] theorem State.setQueue_composer (s : State) (x : QueueMonitor) : (s.setQueue x).composer = s.composer := rfl
@[simp] theorem State.setQueue_signs (s : State) (x : QueueMonitor) : (s.setQueue x).signs = s.signs := rfl
@[simp] theorem State.setQueue_retention (s : State) (x : QueueMonitor) : (s.setQueue x).retention = s.retention := rfl
@[simp] theorem State.setQueue_faults (s : State) (x : QueueMonitor) : (s.setQueue x).faults = s.faults := rfl
@[simp] theorem State.setQueue_free (s : State) (x : QueueMonitor) : (s.setQueue x).free = s.free := rfl

/-! ### After setClosures -/

@[simp] theorem State.setClosures_pending (s : State) (x : Slots (Option Closure)) : (s.setClosures x).pending = s.pending := rfl
@[simp] theorem State.setClosures_clock (s : State) (x : Slots (Option Closure)) : (s.setClosures x).clock = s.clock := rfl
@[simp] theorem State.setClosures_inputs (s : State) (x : Slots (Option Closure)) : (s.setClosures x).inputs = s.inputs := rfl
@[simp] theorem State.setClosures_station (s : State) (x : Slots (Option Closure)) : (s.setClosures x).station = s.station := rfl
@[simp] theorem State.setClosures_detector (s : State) (x : Slots (Option Closure)) : (s.setClosures x).detector = s.detector := rfl
@[simp] theorem State.setClosures_trace (s : State) (x : Slots (Option Closure)) : (s.setClosures x).trace = s.trace := rfl
@[simp] theorem State.setClosures_requests (s : State) (x : Slots (Option Closure)) : (s.setClosures x).requests = s.requests := rfl
@[simp] theorem State.setClosures_records (s : State) (x : Slots (Option Closure)) : (s.setClosures x).records = s.records := rfl
@[simp] theorem State.setClosures_measures (s : State) (x : Slots (Option Closure)) : (s.setClosures x).measures = s.measures := rfl
@[simp] theorem State.setClosures_line (s : State) (x : Slots (Option Closure)) : (s.setClosures x).line = s.line := rfl
@[simp] theorem State.setClosures_neighbours (s : State) (x : Slots (Option Closure)) : (s.setClosures x).neighbours = s.neighbours := rfl
@[simp] theorem State.setClosures_speed (s : State) (x : Slots (Option Closure)) : (s.setClosures x).speed = s.speed := rfl
@[simp] theorem State.setClosures_queue (s : State) (x : Slots (Option Closure)) : (s.setClosures x).queue = s.queue := rfl
@[simp] theorem State.setClosures_closures (s : State) (x : Slots (Option Closure)) : (s.setClosures x).closures = x := rfl
@[simp] theorem State.setClosures_shoulder (s : State) (x : Slots (Option Closure)) : (s.setClosures x).shoulder = s.shoulder := rfl
@[simp] theorem State.setClosures_composer (s : State) (x : Slots (Option Closure)) : (s.setClosures x).composer = s.composer := rfl
@[simp] theorem State.setClosures_signs (s : State) (x : Slots (Option Closure)) : (s.setClosures x).signs = s.signs := rfl
@[simp] theorem State.setClosures_retention (s : State) (x : Slots (Option Closure)) : (s.setClosures x).retention = s.retention := rfl
@[simp] theorem State.setClosures_faults (s : State) (x : Slots (Option Closure)) : (s.setClosures x).faults = s.faults := rfl
@[simp] theorem State.setClosures_free (s : State) (x : Slots (Option Closure)) : (s.setClosures x).free = s.free := rfl

/-! ### After setShoulder -/

@[simp] theorem State.setShoulder_pending (s : State) (x : Shoulder) : (s.setShoulder x).pending = s.pending := rfl
@[simp] theorem State.setShoulder_clock (s : State) (x : Shoulder) : (s.setShoulder x).clock = s.clock := rfl
@[simp] theorem State.setShoulder_inputs (s : State) (x : Shoulder) : (s.setShoulder x).inputs = s.inputs := rfl
@[simp] theorem State.setShoulder_station (s : State) (x : Shoulder) : (s.setShoulder x).station = s.station := rfl
@[simp] theorem State.setShoulder_detector (s : State) (x : Shoulder) : (s.setShoulder x).detector = s.detector := rfl
@[simp] theorem State.setShoulder_trace (s : State) (x : Shoulder) : (s.setShoulder x).trace = s.trace := rfl
@[simp] theorem State.setShoulder_requests (s : State) (x : Shoulder) : (s.setShoulder x).requests = s.requests := rfl
@[simp] theorem State.setShoulder_records (s : State) (x : Shoulder) : (s.setShoulder x).records = s.records := rfl
@[simp] theorem State.setShoulder_measures (s : State) (x : Shoulder) : (s.setShoulder x).measures = s.measures := rfl
@[simp] theorem State.setShoulder_line (s : State) (x : Shoulder) : (s.setShoulder x).line = s.line := rfl
@[simp] theorem State.setShoulder_neighbours (s : State) (x : Shoulder) : (s.setShoulder x).neighbours = s.neighbours := rfl
@[simp] theorem State.setShoulder_speed (s : State) (x : Shoulder) : (s.setShoulder x).speed = s.speed := rfl
@[simp] theorem State.setShoulder_queue (s : State) (x : Shoulder) : (s.setShoulder x).queue = s.queue := rfl
@[simp] theorem State.setShoulder_closures (s : State) (x : Shoulder) : (s.setShoulder x).closures = s.closures := rfl
@[simp] theorem State.setShoulder_shoulder (s : State) (x : Shoulder) : (s.setShoulder x).shoulder = x := rfl
@[simp] theorem State.setShoulder_composer (s : State) (x : Shoulder) : (s.setShoulder x).composer = s.composer := rfl
@[simp] theorem State.setShoulder_signs (s : State) (x : Shoulder) : (s.setShoulder x).signs = s.signs := rfl
@[simp] theorem State.setShoulder_retention (s : State) (x : Shoulder) : (s.setShoulder x).retention = s.retention := rfl
@[simp] theorem State.setShoulder_faults (s : State) (x : Shoulder) : (s.setShoulder x).faults = s.faults := rfl
@[simp] theorem State.setShoulder_free (s : State) (x : Shoulder) : (s.setShoulder x).free = s.free := rfl

/-! ### After setComposer -/

@[simp] theorem State.setComposer_pending (s : State) (x : Composer) : (s.setComposer x).pending = s.pending := rfl
@[simp] theorem State.setComposer_clock (s : State) (x : Composer) : (s.setComposer x).clock = s.clock := rfl
@[simp] theorem State.setComposer_inputs (s : State) (x : Composer) : (s.setComposer x).inputs = s.inputs := rfl
@[simp] theorem State.setComposer_station (s : State) (x : Composer) : (s.setComposer x).station = s.station := rfl
@[simp] theorem State.setComposer_detector (s : State) (x : Composer) : (s.setComposer x).detector = s.detector := rfl
@[simp] theorem State.setComposer_trace (s : State) (x : Composer) : (s.setComposer x).trace = s.trace := rfl
@[simp] theorem State.setComposer_requests (s : State) (x : Composer) : (s.setComposer x).requests = s.requests := rfl
@[simp] theorem State.setComposer_records (s : State) (x : Composer) : (s.setComposer x).records = s.records := rfl
@[simp] theorem State.setComposer_measures (s : State) (x : Composer) : (s.setComposer x).measures = s.measures := rfl
@[simp] theorem State.setComposer_line (s : State) (x : Composer) : (s.setComposer x).line = s.line := rfl
@[simp] theorem State.setComposer_neighbours (s : State) (x : Composer) : (s.setComposer x).neighbours = s.neighbours := rfl
@[simp] theorem State.setComposer_speed (s : State) (x : Composer) : (s.setComposer x).speed = s.speed := rfl
@[simp] theorem State.setComposer_queue (s : State) (x : Composer) : (s.setComposer x).queue = s.queue := rfl
@[simp] theorem State.setComposer_closures (s : State) (x : Composer) : (s.setComposer x).closures = s.closures := rfl
@[simp] theorem State.setComposer_shoulder (s : State) (x : Composer) : (s.setComposer x).shoulder = s.shoulder := rfl
@[simp] theorem State.setComposer_composer (s : State) (x : Composer) : (s.setComposer x).composer = x := rfl
@[simp] theorem State.setComposer_signs (s : State) (x : Composer) : (s.setComposer x).signs = s.signs := rfl
@[simp] theorem State.setComposer_retention (s : State) (x : Composer) : (s.setComposer x).retention = s.retention := rfl
@[simp] theorem State.setComposer_faults (s : State) (x : Composer) : (s.setComposer x).faults = s.faults := rfl
@[simp] theorem State.setComposer_free (s : State) (x : Composer) : (s.setComposer x).free = s.free := rfl

/-! ### After setSigns -/

@[simp] theorem State.setSigns_pending (s : State) (x : Signs) : (s.setSigns x).pending = s.pending := rfl
@[simp] theorem State.setSigns_clock (s : State) (x : Signs) : (s.setSigns x).clock = s.clock := rfl
@[simp] theorem State.setSigns_inputs (s : State) (x : Signs) : (s.setSigns x).inputs = s.inputs := rfl
@[simp] theorem State.setSigns_station (s : State) (x : Signs) : (s.setSigns x).station = s.station := rfl
@[simp] theorem State.setSigns_detector (s : State) (x : Signs) : (s.setSigns x).detector = s.detector := rfl
@[simp] theorem State.setSigns_trace (s : State) (x : Signs) : (s.setSigns x).trace = s.trace := rfl
@[simp] theorem State.setSigns_requests (s : State) (x : Signs) : (s.setSigns x).requests = s.requests := rfl
@[simp] theorem State.setSigns_records (s : State) (x : Signs) : (s.setSigns x).records = s.records := rfl
@[simp] theorem State.setSigns_measures (s : State) (x : Signs) : (s.setSigns x).measures = s.measures := rfl
@[simp] theorem State.setSigns_line (s : State) (x : Signs) : (s.setSigns x).line = s.line := rfl
@[simp] theorem State.setSigns_neighbours (s : State) (x : Signs) : (s.setSigns x).neighbours = s.neighbours := rfl
@[simp] theorem State.setSigns_speed (s : State) (x : Signs) : (s.setSigns x).speed = s.speed := rfl
@[simp] theorem State.setSigns_queue (s : State) (x : Signs) : (s.setSigns x).queue = s.queue := rfl
@[simp] theorem State.setSigns_closures (s : State) (x : Signs) : (s.setSigns x).closures = s.closures := rfl
@[simp] theorem State.setSigns_shoulder (s : State) (x : Signs) : (s.setSigns x).shoulder = s.shoulder := rfl
@[simp] theorem State.setSigns_composer (s : State) (x : Signs) : (s.setSigns x).composer = s.composer := rfl
@[simp] theorem State.setSigns_signs (s : State) (x : Signs) : (s.setSigns x).signs = x := rfl
@[simp] theorem State.setSigns_retention (s : State) (x : Signs) : (s.setSigns x).retention = s.retention := rfl
@[simp] theorem State.setSigns_faults (s : State) (x : Signs) : (s.setSigns x).faults = s.faults := rfl
@[simp] theorem State.setSigns_free (s : State) (x : Signs) : (s.setSigns x).free = s.free := rfl

/-! ### After setRetention -/

@[simp] theorem State.setRetention_pending (s : State) (x : Retention) : (s.setRetention x).pending = s.pending := rfl
@[simp] theorem State.setRetention_clock (s : State) (x : Retention) : (s.setRetention x).clock = s.clock := rfl
@[simp] theorem State.setRetention_inputs (s : State) (x : Retention) : (s.setRetention x).inputs = s.inputs := rfl
@[simp] theorem State.setRetention_station (s : State) (x : Retention) : (s.setRetention x).station = s.station := rfl
@[simp] theorem State.setRetention_detector (s : State) (x : Retention) : (s.setRetention x).detector = s.detector := rfl
@[simp] theorem State.setRetention_trace (s : State) (x : Retention) : (s.setRetention x).trace = s.trace := rfl
@[simp] theorem State.setRetention_requests (s : State) (x : Retention) : (s.setRetention x).requests = s.requests := rfl
@[simp] theorem State.setRetention_records (s : State) (x : Retention) : (s.setRetention x).records = s.records := rfl
@[simp] theorem State.setRetention_measures (s : State) (x : Retention) : (s.setRetention x).measures = s.measures := rfl
@[simp] theorem State.setRetention_line (s : State) (x : Retention) : (s.setRetention x).line = s.line := rfl
@[simp] theorem State.setRetention_neighbours (s : State) (x : Retention) : (s.setRetention x).neighbours = s.neighbours := rfl
@[simp] theorem State.setRetention_speed (s : State) (x : Retention) : (s.setRetention x).speed = s.speed := rfl
@[simp] theorem State.setRetention_queue (s : State) (x : Retention) : (s.setRetention x).queue = s.queue := rfl
@[simp] theorem State.setRetention_closures (s : State) (x : Retention) : (s.setRetention x).closures = s.closures := rfl
@[simp] theorem State.setRetention_shoulder (s : State) (x : Retention) : (s.setRetention x).shoulder = s.shoulder := rfl
@[simp] theorem State.setRetention_composer (s : State) (x : Retention) : (s.setRetention x).composer = s.composer := rfl
@[simp] theorem State.setRetention_signs (s : State) (x : Retention) : (s.setRetention x).signs = s.signs := rfl
@[simp] theorem State.setRetention_retention (s : State) (x : Retention) : (s.setRetention x).retention = x := rfl
@[simp] theorem State.setRetention_faults (s : State) (x : Retention) : (s.setRetention x).faults = s.faults := rfl
@[simp] theorem State.setRetention_free (s : State) (x : Retention) : (s.setRetention x).free = s.free := rfl

/-! ### After setFaults -/

@[simp] theorem State.setFaults_pending (s : State) (x : FaultList) : (s.setFaults x).pending = s.pending := rfl
@[simp] theorem State.setFaults_clock (s : State) (x : FaultList) : (s.setFaults x).clock = s.clock := rfl
@[simp] theorem State.setFaults_inputs (s : State) (x : FaultList) : (s.setFaults x).inputs = s.inputs := rfl
@[simp] theorem State.setFaults_station (s : State) (x : FaultList) : (s.setFaults x).station = s.station := rfl
@[simp] theorem State.setFaults_detector (s : State) (x : FaultList) : (s.setFaults x).detector = s.detector := rfl
@[simp] theorem State.setFaults_trace (s : State) (x : FaultList) : (s.setFaults x).trace = s.trace := rfl
@[simp] theorem State.setFaults_requests (s : State) (x : FaultList) : (s.setFaults x).requests = s.requests := rfl
@[simp] theorem State.setFaults_records (s : State) (x : FaultList) : (s.setFaults x).records = s.records := rfl
@[simp] theorem State.setFaults_measures (s : State) (x : FaultList) : (s.setFaults x).measures = s.measures := rfl
@[simp] theorem State.setFaults_line (s : State) (x : FaultList) : (s.setFaults x).line = s.line := rfl
@[simp] theorem State.setFaults_neighbours (s : State) (x : FaultList) : (s.setFaults x).neighbours = s.neighbours := rfl
@[simp] theorem State.setFaults_speed (s : State) (x : FaultList) : (s.setFaults x).speed = s.speed := rfl
@[simp] theorem State.setFaults_queue (s : State) (x : FaultList) : (s.setFaults x).queue = s.queue := rfl
@[simp] theorem State.setFaults_closures (s : State) (x : FaultList) : (s.setFaults x).closures = s.closures := rfl
@[simp] theorem State.setFaults_shoulder (s : State) (x : FaultList) : (s.setFaults x).shoulder = s.shoulder := rfl
@[simp] theorem State.setFaults_composer (s : State) (x : FaultList) : (s.setFaults x).composer = s.composer := rfl
@[simp] theorem State.setFaults_signs (s : State) (x : FaultList) : (s.setFaults x).signs = s.signs := rfl
@[simp] theorem State.setFaults_retention (s : State) (x : FaultList) : (s.setFaults x).retention = s.retention := rfl
@[simp] theorem State.setFaults_faults (s : State) (x : FaultList) : (s.setFaults x).faults = x := rfl
@[simp] theorem State.setFaults_free (s : State) (x : FaultList) : (s.setFaults x).free = s.free := rfl

/-! ### After setFree -/

@[simp] theorem State.setFree_pending (s : State) (x : Nat) : (s.setFree x).pending = s.pending := rfl
@[simp] theorem State.setFree_clock (s : State) (x : Nat) : (s.setFree x).clock = s.clock := rfl
@[simp] theorem State.setFree_inputs (s : State) (x : Nat) : (s.setFree x).inputs = s.inputs := rfl
@[simp] theorem State.setFree_station (s : State) (x : Nat) : (s.setFree x).station = s.station := rfl
@[simp] theorem State.setFree_detector (s : State) (x : Nat) : (s.setFree x).detector = s.detector := rfl
@[simp] theorem State.setFree_trace (s : State) (x : Nat) : (s.setFree x).trace = s.trace := rfl
@[simp] theorem State.setFree_requests (s : State) (x : Nat) : (s.setFree x).requests = s.requests := rfl
@[simp] theorem State.setFree_records (s : State) (x : Nat) : (s.setFree x).records = s.records := rfl
@[simp] theorem State.setFree_measures (s : State) (x : Nat) : (s.setFree x).measures = s.measures := rfl
@[simp] theorem State.setFree_line (s : State) (x : Nat) : (s.setFree x).line = s.line := rfl
@[simp] theorem State.setFree_neighbours (s : State) (x : Nat) : (s.setFree x).neighbours = s.neighbours := rfl
@[simp] theorem State.setFree_speed (s : State) (x : Nat) : (s.setFree x).speed = s.speed := rfl
@[simp] theorem State.setFree_queue (s : State) (x : Nat) : (s.setFree x).queue = s.queue := rfl
@[simp] theorem State.setFree_closures (s : State) (x : Nat) : (s.setFree x).closures = s.closures := rfl
@[simp] theorem State.setFree_shoulder (s : State) (x : Nat) : (s.setFree x).shoulder = s.shoulder := rfl
@[simp] theorem State.setFree_composer (s : State) (x : Nat) : (s.setFree x).composer = s.composer := rfl
@[simp] theorem State.setFree_signs (s : State) (x : Nat) : (s.setFree x).signs = s.signs := rfl
@[simp] theorem State.setFree_retention (s : State) (x : Nat) : (s.setFree x).retention = s.retention := rfl
@[simp] theorem State.setFree_faults (s : State) (x : Nat) : (s.setFree x).faults = s.faults := rfl
@[simp] theorem State.setFree_free (s : State) (x : Nat) : (s.setFree x).free = x := rfl

/-! ### After the passing of time -/

@[simp] theorem State.advance_pending (s : State) (dt : Nat) : (s.advance dt).pending = s.pending := rfl
@[simp] theorem State.advance_clock (s : State) (dt : Nat) : (s.advance dt).clock = s.clock + dt := rfl
@[simp] theorem State.advance_inputs (s : State) (dt : Nat) : (s.advance dt).inputs = s.inputs := rfl
@[simp] theorem State.advance_station (s : State) (dt : Nat) : (s.advance dt).station = s.station := rfl
@[simp] theorem State.advance_detector (s : State) (dt : Nat) : (s.advance dt).detector = s.detector := rfl
@[simp] theorem State.advance_trace (s : State) (dt : Nat) : (s.advance dt).trace = s.trace := rfl
@[simp] theorem State.advance_requests (s : State) (dt : Nat) : (s.advance dt).requests = s.requests := rfl
@[simp] theorem State.advance_records (s : State) (dt : Nat) : (s.advance dt).records = s.records := rfl
@[simp] theorem State.advance_measures (s : State) (dt : Nat) : (s.advance dt).measures = s.measures := rfl
@[simp] theorem State.advance_line (s : State) (dt : Nat) : (s.advance dt).line = s.line := rfl
@[simp] theorem State.advance_neighbours (s : State) (dt : Nat) : (s.advance dt).neighbours = s.neighbours := rfl
@[simp] theorem State.advance_speed (s : State) (dt : Nat) : (s.advance dt).speed = s.speed := rfl
@[simp] theorem State.advance_queue (s : State) (dt : Nat) : (s.advance dt).queue = s.queue := rfl
@[simp] theorem State.advance_closures (s : State) (dt : Nat) : (s.advance dt).closures = s.closures := rfl
@[simp] theorem State.advance_shoulder (s : State) (dt : Nat) : (s.advance dt).shoulder = s.shoulder := rfl
@[simp] theorem State.advance_composer (s : State) (dt : Nat) : (s.advance dt).composer = s.composer := rfl
@[simp] theorem State.advance_signs (s : State) (dt : Nat) : (s.advance dt).signs = { s.signs with sent := [] } := rfl
@[simp] theorem State.advance_retention (s : State) (dt : Nat) : (s.advance dt).retention = s.retention := rfl
@[simp] theorem State.advance_faults (s : State) (dt : Nat) : (s.advance dt).faults = s.faults := rfl
@[simp] theorem State.advance_free (s : State) (dt : Nat) : (s.advance dt).free = s.free := rfl

/-! ### Tables -/

@[simp] theorem Lanes.get_set {α : Type} (t : Lanes α) (k : Lane) (v : α) : (t.set k v).get k = v := by
  cases k <;> rfl

theorem Lanes.get_set_of_ne {α : Type} (t : Lanes α) {j k : Lane} (v : α) (h : j ≠ k) : (t.set k v).get j = t.get j := by
  cases j <;> cases k <;> first | rfl | exact absurd rfl h

@[simp] theorem Lanes.set_get {α : Type} (t : Lanes α) (k : Lane) : t.set k (t.get k) = t := by
  cases k <;> rfl

@[simp] theorem Lanes.set_set {α : Type} (t : Lanes α) (k : Lane) (u v : α) : (t.set k u).set k v = t.set k v := by
  cases k <;> rfl

@[simp] theorem Lanes.get_const {α : Type} (v : α) (k : Lane) : (Lanes.const v).get k = v := by
  cases k <;> rfl

@[simp] theorem Lanes.get_build {α : Type} (f : Lane → α) (k : Lane) : (Lanes.build f).get k = f k := by
  cases k <;> rfl

theorem Lanes.ext_get {α : Type} {t u : Lanes α} (h : ∀ k, t.get k = u.get k) : t = u := by
  cases t
  cases u
  have h1 := h .l1
  have h2 := h .l2
  have h3 := h .l3
  have h4 := h .l4
  have h5 := h .l5
  simp only [Lanes.get] at h1 h2 h3 h4 h5
  simp [h1, h2, h3, h4, h5]

@[simp] theorem Slots.get_set {α : Type} (t : Slots α) (p : Pos) (v : α) : (t.set p v).get p = v := by
  cases p <;> rfl

theorem Slots.get_set_of_ne {α : Type} (t : Slots α) {p q : Pos} (v : α) (h : q ≠ p) : (t.set p v).get q = t.get q := by
  cases q <;> cases p <;> first | rfl | exact absurd rfl h

@[simp] theorem Slots.set_get {α : Type} (t : Slots α) (p : Pos) : t.set p (t.get p) = t := by
  cases p <;> rfl

@[simp] theorem Slots.get_const {α : Type} (v : α) (p : Pos) : (Slots.const v).get p = v := by
  cases p <;> rfl

@[simp] theorem Signs.get_set (g : Signs) (c : Chan) (x : Channel) : (g.set c x).get c = x := by
  cases c <;> simp [Signs.get, Signs.set]

theorem Signs.get_set_of_ne (g : Signs) {b c : Chan} (x : Channel) (h : b ≠ c) : (g.set c x).get b = g.get b := by
  cases b <;> cases c <;> simp [Signs.get, Signs.set]
  · rename_i j k
    exact Lanes.get_set_of_ne _ _ (fun e => h (by rw [e]))
  · exact absurd rfl h

@[simp] theorem Signs.set_sent (g : Signs) (c : Chan) (x : Channel) : (g.set c x).sent = g.sent := by
  cases c <;> rfl

@[simp] theorem Signs.set_handedOver (g : Signs) (c : Chan) (x : Channel) : (g.set c x).handedOver = g.handedOver := by
  cases c <;> rfl

@[simp] theorem Signs.get_withSent (g : Signs) (c : Chan) (m : List (Chan × SignMessage)) :
    Signs.get { g with sent := m } c = g.get c := by
  cases c <;> rfl

/-! ### What a setter of one place leaves alone -/

@[simp] theorem State.setChannel_pending (s : State) (c : Chan) (x : Channel) : (s.setChannel c x).pending = s.pending := rfl
@[simp] theorem State.setChannel_clock (s : State) (c : Chan) (x : Channel) : (s.setChannel c x).clock = s.clock := rfl
@[simp] theorem State.setChannel_inputs (s : State) (c : Chan) (x : Channel) : (s.setChannel c x).inputs = s.inputs := rfl
@[simp] theorem State.setChannel_station (s : State) (c : Chan) (x : Channel) : (s.setChannel c x).station = s.station := rfl
@[simp] theorem State.setChannel_detector (s : State) (c : Chan) (x : Channel) : (s.setChannel c x).detector = s.detector := rfl
@[simp] theorem State.setChannel_trace (s : State) (c : Chan) (x : Channel) : (s.setChannel c x).trace = s.trace := rfl
@[simp] theorem State.setChannel_requests (s : State) (c : Chan) (x : Channel) : (s.setChannel c x).requests = s.requests := rfl
@[simp] theorem State.setChannel_records (s : State) (c : Chan) (x : Channel) : (s.setChannel c x).records = s.records := rfl
@[simp] theorem State.setChannel_measures (s : State) (c : Chan) (x : Channel) : (s.setChannel c x).measures = s.measures := rfl
@[simp] theorem State.setChannel_line (s : State) (c : Chan) (x : Channel) : (s.setChannel c x).line = s.line := rfl
@[simp] theorem State.setChannel_neighbours (s : State) (c : Chan) (x : Channel) : (s.setChannel c x).neighbours = s.neighbours := rfl
@[simp] theorem State.setChannel_speed (s : State) (c : Chan) (x : Channel) : (s.setChannel c x).speed = s.speed := rfl
@[simp] theorem State.setChannel_queue (s : State) (c : Chan) (x : Channel) : (s.setChannel c x).queue = s.queue := rfl
@[simp] theorem State.setChannel_closures (s : State) (c : Chan) (x : Channel) : (s.setChannel c x).closures = s.closures := rfl
@[simp] theorem State.setChannel_shoulder (s : State) (c : Chan) (x : Channel) : (s.setChannel c x).shoulder = s.shoulder := rfl
@[simp] theorem State.setChannel_composer (s : State) (c : Chan) (x : Channel) : (s.setChannel c x).composer = s.composer := rfl
@[simp] theorem State.setChannel_retention (s : State) (c : Chan) (x : Channel) : (s.setChannel c x).retention = s.retention := rfl
@[simp] theorem State.setChannel_faults (s : State) (c : Chan) (x : Channel) : (s.setChannel c x).faults = s.faults := rfl
@[simp] theorem State.setChannel_free (s : State) (c : Chan) (x : Channel) : (s.setChannel c x).free = s.free := rfl

@[simp] theorem State.setLane_pending (s : State) (k : Lane) (x : LaneDetector) : (s.setLane k x).pending = s.pending := rfl
@[simp] theorem State.setLane_clock (s : State) (k : Lane) (x : LaneDetector) : (s.setLane k x).clock = s.clock := rfl
@[simp] theorem State.setLane_inputs (s : State) (k : Lane) (x : LaneDetector) : (s.setLane k x).inputs = s.inputs := rfl
@[simp] theorem State.setLane_station (s : State) (k : Lane) (x : LaneDetector) : (s.setLane k x).station = s.station := rfl
@[simp] theorem State.setLane_trace (s : State) (k : Lane) (x : LaneDetector) : (s.setLane k x).trace = s.trace := rfl
@[simp] theorem State.setLane_requests (s : State) (k : Lane) (x : LaneDetector) : (s.setLane k x).requests = s.requests := rfl
@[simp] theorem State.setLane_records (s : State) (k : Lane) (x : LaneDetector) : (s.setLane k x).records = s.records := rfl
@[simp] theorem State.setLane_measures (s : State) (k : Lane) (x : LaneDetector) : (s.setLane k x).measures = s.measures := rfl
@[simp] theorem State.setLane_line (s : State) (k : Lane) (x : LaneDetector) : (s.setLane k x).line = s.line := rfl
@[simp] theorem State.setLane_neighbours (s : State) (k : Lane) (x : LaneDetector) : (s.setLane k x).neighbours = s.neighbours := rfl
@[simp] theorem State.setLane_speed (s : State) (k : Lane) (x : LaneDetector) : (s.setLane k x).speed = s.speed := rfl
@[simp] theorem State.setLane_queue (s : State) (k : Lane) (x : LaneDetector) : (s.setLane k x).queue = s.queue := rfl
@[simp] theorem State.setLane_closures (s : State) (k : Lane) (x : LaneDetector) : (s.setLane k x).closures = s.closures := rfl
@[simp] theorem State.setLane_shoulder (s : State) (k : Lane) (x : LaneDetector) : (s.setLane k x).shoulder = s.shoulder := rfl
@[simp] theorem State.setLane_composer (s : State) (k : Lane) (x : LaneDetector) : (s.setLane k x).composer = s.composer := rfl
@[simp] theorem State.setLane_signs (s : State) (k : Lane) (x : LaneDetector) : (s.setLane k x).signs = s.signs := rfl
@[simp] theorem State.setLane_retention (s : State) (k : Lane) (x : LaneDetector) : (s.setLane k x).retention = s.retention := rfl
@[simp] theorem State.setLane_faults (s : State) (k : Lane) (x : LaneDetector) : (s.setLane k x).faults = s.faults := rfl
@[simp] theorem State.setLane_free (s : State) (k : Lane) (x : LaneDetector) : (s.setLane k x).free = s.free := rfl

@[simp] theorem State.setSums_pending (s : State) (k : Lane) (x : Sums) : (s.setSums k x).pending = s.pending := rfl
@[simp] theorem State.setSums_clock (s : State) (k : Lane) (x : Sums) : (s.setSums k x).clock = s.clock := rfl
@[simp] theorem State.setSums_inputs (s : State) (k : Lane) (x : Sums) : (s.setSums k x).inputs = s.inputs := rfl
@[simp] theorem State.setSums_station (s : State) (k : Lane) (x : Sums) : (s.setSums k x).station = s.station := rfl
@[simp] theorem State.setSums_trace (s : State) (k : Lane) (x : Sums) : (s.setSums k x).trace = s.trace := rfl
@[simp] theorem State.setSums_requests (s : State) (k : Lane) (x : Sums) : (s.setSums k x).requests = s.requests := rfl
@[simp] theorem State.setSums_records (s : State) (k : Lane) (x : Sums) : (s.setSums k x).records = s.records := rfl
@[simp] theorem State.setSums_measures (s : State) (k : Lane) (x : Sums) : (s.setSums k x).measures = s.measures := rfl
@[simp] theorem State.setSums_line (s : State) (k : Lane) (x : Sums) : (s.setSums k x).line = s.line := rfl
@[simp] theorem State.setSums_neighbours (s : State) (k : Lane) (x : Sums) : (s.setSums k x).neighbours = s.neighbours := rfl
@[simp] theorem State.setSums_speed (s : State) (k : Lane) (x : Sums) : (s.setSums k x).speed = s.speed := rfl
@[simp] theorem State.setSums_queue (s : State) (k : Lane) (x : Sums) : (s.setSums k x).queue = s.queue := rfl
@[simp] theorem State.setSums_closures (s : State) (k : Lane) (x : Sums) : (s.setSums k x).closures = s.closures := rfl
@[simp] theorem State.setSums_shoulder (s : State) (k : Lane) (x : Sums) : (s.setSums k x).shoulder = s.shoulder := rfl
@[simp] theorem State.setSums_composer (s : State) (k : Lane) (x : Sums) : (s.setSums k x).composer = s.composer := rfl
@[simp] theorem State.setSums_signs (s : State) (k : Lane) (x : Sums) : (s.setSums k x).signs = s.signs := rfl
@[simp] theorem State.setSums_retention (s : State) (k : Lane) (x : Sums) : (s.setSums k x).retention = s.retention := rfl
@[simp] theorem State.setSums_faults (s : State) (k : Lane) (x : Sums) : (s.setSums k x).faults = s.faults := rfl
@[simp] theorem State.setSums_free (s : State) (k : Lane) (x : Sums) : (s.setSums k x).free = s.free := rfl

@[simp] theorem State.setRun_pending (s : State) (k : Lane) (x : Nat) : (s.setRun k x).pending = s.pending := rfl
@[simp] theorem State.setRun_clock (s : State) (k : Lane) (x : Nat) : (s.setRun k x).clock = s.clock := rfl
@[simp] theorem State.setRun_inputs (s : State) (k : Lane) (x : Nat) : (s.setRun k x).inputs = s.inputs := rfl
@[simp] theorem State.setRun_station (s : State) (k : Lane) (x : Nat) : (s.setRun k x).station = s.station := rfl
@[simp] theorem State.setRun_detector (s : State) (k : Lane) (x : Nat) : (s.setRun k x).detector = s.detector := rfl
@[simp] theorem State.setRun_trace (s : State) (k : Lane) (x : Nat) : (s.setRun k x).trace = s.trace := rfl
@[simp] theorem State.setRun_requests (s : State) (k : Lane) (x : Nat) : (s.setRun k x).requests = s.requests := rfl
@[simp] theorem State.setRun_records (s : State) (k : Lane) (x : Nat) : (s.setRun k x).records = s.records := rfl
@[simp] theorem State.setRun_measures (s : State) (k : Lane) (x : Nat) : (s.setRun k x).measures = s.measures := rfl
@[simp] theorem State.setRun_line (s : State) (k : Lane) (x : Nat) : (s.setRun k x).line = s.line := rfl
@[simp] theorem State.setRun_neighbours (s : State) (k : Lane) (x : Nat) : (s.setRun k x).neighbours = s.neighbours := rfl
@[simp] theorem State.setRun_speed (s : State) (k : Lane) (x : Nat) : (s.setRun k x).speed = s.speed := rfl
@[simp] theorem State.setRun_closures (s : State) (k : Lane) (x : Nat) : (s.setRun k x).closures = s.closures := rfl
@[simp] theorem State.setRun_shoulder (s : State) (k : Lane) (x : Nat) : (s.setRun k x).shoulder = s.shoulder := rfl
@[simp] theorem State.setRun_composer (s : State) (k : Lane) (x : Nat) : (s.setRun k x).composer = s.composer := rfl
@[simp] theorem State.setRun_signs (s : State) (k : Lane) (x : Nat) : (s.setRun k x).signs = s.signs := rfl
@[simp] theorem State.setRun_retention (s : State) (k : Lane) (x : Nat) : (s.setRun k x).retention = s.retention := rfl
@[simp] theorem State.setRun_faults (s : State) (k : Lane) (x : Nat) : (s.setRun k x).faults = s.faults := rfl
@[simp] theorem State.setRun_free (s : State) (k : Lane) (x : Nat) : (s.setRun k x).free = s.free := rfl

@[simp] theorem State.send_pending (s : State) (m : List (Chan × SignMessage)) : (s.send m).pending = s.pending := rfl
@[simp] theorem State.send_clock (s : State) (m : List (Chan × SignMessage)) : (s.send m).clock = s.clock := rfl
@[simp] theorem State.send_inputs (s : State) (m : List (Chan × SignMessage)) : (s.send m).inputs = s.inputs := rfl
@[simp] theorem State.send_station (s : State) (m : List (Chan × SignMessage)) : (s.send m).station = s.station := rfl
@[simp] theorem State.send_detector (s : State) (m : List (Chan × SignMessage)) : (s.send m).detector = s.detector := rfl
@[simp] theorem State.send_trace (s : State) (m : List (Chan × SignMessage)) : (s.send m).trace = s.trace := rfl
@[simp] theorem State.send_requests (s : State) (m : List (Chan × SignMessage)) : (s.send m).requests = s.requests := rfl
@[simp] theorem State.send_records (s : State) (m : List (Chan × SignMessage)) : (s.send m).records = s.records := rfl
@[simp] theorem State.send_measures (s : State) (m : List (Chan × SignMessage)) : (s.send m).measures = s.measures := rfl
@[simp] theorem State.send_line (s : State) (m : List (Chan × SignMessage)) : (s.send m).line = s.line := rfl
@[simp] theorem State.send_neighbours (s : State) (m : List (Chan × SignMessage)) : (s.send m).neighbours = s.neighbours := rfl
@[simp] theorem State.send_speed (s : State) (m : List (Chan × SignMessage)) : (s.send m).speed = s.speed := rfl
@[simp] theorem State.send_queue (s : State) (m : List (Chan × SignMessage)) : (s.send m).queue = s.queue := rfl
@[simp] theorem State.send_closures (s : State) (m : List (Chan × SignMessage)) : (s.send m).closures = s.closures := rfl
@[simp] theorem State.send_shoulder (s : State) (m : List (Chan × SignMessage)) : (s.send m).shoulder = s.shoulder := rfl
@[simp] theorem State.send_composer (s : State) (m : List (Chan × SignMessage)) : (s.send m).composer = s.composer := rfl
@[simp] theorem State.send_retention (s : State) (m : List (Chan × SignMessage)) : (s.send m).retention = s.retention := rfl
@[simp] theorem State.send_faults (s : State) (m : List (Chan × SignMessage)) : (s.send m).faults = s.faults := rfl
@[simp] theorem State.send_free (s : State) (m : List (Chan × SignMessage)) : (s.send m).free = s.free := rfl

@[simp] theorem State.setMode_pending (s : State) (m : Mode) : (s.setMode m).pending = s.pending := rfl
@[simp] theorem State.setMode_clock (s : State) (m : Mode) : (s.setMode m).clock = s.clock := rfl
@[simp] theorem State.setMode_inputs (s : State) (m : Mode) : (s.setMode m).inputs = s.inputs := rfl
@[simp] theorem State.setMode_detector (s : State) (m : Mode) : (s.setMode m).detector = s.detector := rfl
@[simp] theorem State.setMode_trace (s : State) (m : Mode) : (s.setMode m).trace = s.trace := rfl
@[simp] theorem State.setMode_requests (s : State) (m : Mode) : (s.setMode m).requests = s.requests := rfl
@[simp] theorem State.setMode_records (s : State) (m : Mode) : (s.setMode m).records = s.records := rfl
@[simp] theorem State.setMode_measures (s : State) (m : Mode) : (s.setMode m).measures = s.measures := rfl
@[simp] theorem State.setMode_line (s : State) (m : Mode) : (s.setMode m).line = s.line := rfl
@[simp] theorem State.setMode_neighbours (s : State) (m : Mode) : (s.setMode m).neighbours = s.neighbours := rfl
@[simp] theorem State.setMode_speed (s : State) (m : Mode) : (s.setMode m).speed = s.speed := rfl
@[simp] theorem State.setMode_queue (s : State) (m : Mode) : (s.setMode m).queue = s.queue := rfl
@[simp] theorem State.setMode_closures (s : State) (m : Mode) : (s.setMode m).closures = s.closures := rfl
@[simp] theorem State.setMode_shoulder (s : State) (m : Mode) : (s.setMode m).shoulder = s.shoulder := rfl
@[simp] theorem State.setMode_composer (s : State) (m : Mode) : (s.setMode m).composer = s.composer := rfl
@[simp] theorem State.setMode_signs (s : State) (m : Mode) : (s.setMode m).signs = s.signs := rfl
@[simp] theorem State.setMode_retention (s : State) (m : Mode) : (s.setMode m).retention = s.retention := rfl
@[simp] theorem State.setMode_faults (s : State) (m : Mode) : (s.setMode m).faults = s.faults := rfl
@[simp] theorem State.setMode_free (s : State) (m : Mode) : (s.setMode m).free = s.free := rfl

@[simp] theorem State.enqueue_pending (s : State) (m : List (List Octet)) : (s.enqueue m).pending = s.pending := rfl
@[simp] theorem State.enqueue_clock (s : State) (m : List (List Octet)) : (s.enqueue m).clock = s.clock := rfl
@[simp] theorem State.enqueue_inputs (s : State) (m : List (List Octet)) : (s.enqueue m).inputs = s.inputs := rfl
@[simp] theorem State.enqueue_station (s : State) (m : List (List Octet)) : (s.enqueue m).station = s.station := rfl
@[simp] theorem State.enqueue_detector (s : State) (m : List (List Octet)) : (s.enqueue m).detector = s.detector := rfl
@[simp] theorem State.enqueue_trace (s : State) (m : List (List Octet)) : (s.enqueue m).trace = s.trace := rfl
@[simp] theorem State.enqueue_requests (s : State) (m : List (List Octet)) : (s.enqueue m).requests = s.requests := rfl
@[simp] theorem State.enqueue_records (s : State) (m : List (List Octet)) : (s.enqueue m).records = s.records := rfl
@[simp] theorem State.enqueue_measures (s : State) (m : List (List Octet)) : (s.enqueue m).measures = s.measures := rfl
@[simp] theorem State.enqueue_neighbours (s : State) (m : List (List Octet)) : (s.enqueue m).neighbours = s.neighbours := rfl
@[simp] theorem State.enqueue_speed (s : State) (m : List (List Octet)) : (s.enqueue m).speed = s.speed := rfl
@[simp] theorem State.enqueue_queue (s : State) (m : List (List Octet)) : (s.enqueue m).queue = s.queue := rfl
@[simp] theorem State.enqueue_closures (s : State) (m : List (List Octet)) : (s.enqueue m).closures = s.closures := rfl
@[simp] theorem State.enqueue_shoulder (s : State) (m : List (List Octet)) : (s.enqueue m).shoulder = s.shoulder := rfl
@[simp] theorem State.enqueue_composer (s : State) (m : List (List Octet)) : (s.enqueue m).composer = s.composer := rfl
@[simp] theorem State.enqueue_signs (s : State) (m : List (List Octet)) : (s.enqueue m).signs = s.signs := rfl
@[simp] theorem State.enqueue_retention (s : State) (m : List (List Octet)) : (s.enqueue m).retention = s.retention := rfl
@[simp] theorem State.enqueue_faults (s : State) (m : List (List Octet)) : (s.enqueue m).faults = s.faults := rfl
@[simp] theorem State.enqueue_free (s : State) (m : List (List Octet)) : (s.enqueue m).free = s.free := rfl

@[simp] theorem State.raiseFault_pending (s : State) (k : FaultKind) (u : Nat) : (s.raiseFault k u).pending = s.pending := rfl
@[simp] theorem State.raiseFault_clock (s : State) (k : FaultKind) (u : Nat) : (s.raiseFault k u).clock = s.clock := rfl
@[simp] theorem State.raiseFault_inputs (s : State) (k : FaultKind) (u : Nat) : (s.raiseFault k u).inputs = s.inputs := rfl
@[simp] theorem State.raiseFault_station (s : State) (k : FaultKind) (u : Nat) : (s.raiseFault k u).station = s.station := rfl
@[simp] theorem State.raiseFault_detector (s : State) (k : FaultKind) (u : Nat) : (s.raiseFault k u).detector = s.detector := rfl
@[simp] theorem State.raiseFault_trace (s : State) (k : FaultKind) (u : Nat) : (s.raiseFault k u).trace = s.trace := rfl
@[simp] theorem State.raiseFault_requests (s : State) (k : FaultKind) (u : Nat) : (s.raiseFault k u).requests = s.requests := rfl
@[simp] theorem State.raiseFault_records (s : State) (k : FaultKind) (u : Nat) : (s.raiseFault k u).records = s.records := rfl
@[simp] theorem State.raiseFault_measures (s : State) (k : FaultKind) (u : Nat) : (s.raiseFault k u).measures = s.measures := rfl
@[simp] theorem State.raiseFault_line (s : State) (k : FaultKind) (u : Nat) : (s.raiseFault k u).line = s.line := rfl
@[simp] theorem State.raiseFault_neighbours (s : State) (k : FaultKind) (u : Nat) : (s.raiseFault k u).neighbours = s.neighbours := rfl
@[simp] theorem State.raiseFault_speed (s : State) (k : FaultKind) (u : Nat) : (s.raiseFault k u).speed = s.speed := rfl
@[simp] theorem State.raiseFault_queue (s : State) (k : FaultKind) (u : Nat) : (s.raiseFault k u).queue = s.queue := rfl
@[simp] theorem State.raiseFault_closures (s : State) (k : FaultKind) (u : Nat) : (s.raiseFault k u).closures = s.closures := rfl
@[simp] theorem State.raiseFault_shoulder (s : State) (k : FaultKind) (u : Nat) : (s.raiseFault k u).shoulder = s.shoulder := rfl
@[simp] theorem State.raiseFault_composer (s : State) (k : FaultKind) (u : Nat) : (s.raiseFault k u).composer = s.composer := rfl
@[simp] theorem State.raiseFault_signs (s : State) (k : FaultKind) (u : Nat) : (s.raiseFault k u).signs = s.signs := rfl
@[simp] theorem State.raiseFault_retention (s : State) (k : FaultKind) (u : Nat) : (s.raiseFault k u).retention = s.retention := rfl
@[simp] theorem State.raiseFault_free (s : State) (k : FaultKind) (u : Nat) : (s.raiseFault k u).free = s.free := rfl

@[simp] theorem State.endFault_pending (s : State) (k : FaultKind) (u : Nat) : (s.endFault k u).pending = s.pending := rfl
@[simp] theorem State.endFault_clock (s : State) (k : FaultKind) (u : Nat) : (s.endFault k u).clock = s.clock := rfl
@[simp] theorem State.endFault_inputs (s : State) (k : FaultKind) (u : Nat) : (s.endFault k u).inputs = s.inputs := rfl
@[simp] theorem State.endFault_station (s : State) (k : FaultKind) (u : Nat) : (s.endFault k u).station = s.station := rfl
@[simp] theorem State.endFault_detector (s : State) (k : FaultKind) (u : Nat) : (s.endFault k u).detector = s.detector := rfl
@[simp] theorem State.endFault_trace (s : State) (k : FaultKind) (u : Nat) : (s.endFault k u).trace = s.trace := rfl
@[simp] theorem State.endFault_requests (s : State) (k : FaultKind) (u : Nat) : (s.endFault k u).requests = s.requests := rfl
@[simp] theorem State.endFault_records (s : State) (k : FaultKind) (u : Nat) : (s.endFault k u).records = s.records := rfl
@[simp] theorem State.endFault_measures (s : State) (k : FaultKind) (u : Nat) : (s.endFault k u).measures = s.measures := rfl
@[simp] theorem State.endFault_line (s : State) (k : FaultKind) (u : Nat) : (s.endFault k u).line = s.line := rfl
@[simp] theorem State.endFault_neighbours (s : State) (k : FaultKind) (u : Nat) : (s.endFault k u).neighbours = s.neighbours := rfl
@[simp] theorem State.endFault_speed (s : State) (k : FaultKind) (u : Nat) : (s.endFault k u).speed = s.speed := rfl
@[simp] theorem State.endFault_queue (s : State) (k : FaultKind) (u : Nat) : (s.endFault k u).queue = s.queue := rfl
@[simp] theorem State.endFault_closures (s : State) (k : FaultKind) (u : Nat) : (s.endFault k u).closures = s.closures := rfl
@[simp] theorem State.endFault_shoulder (s : State) (k : FaultKind) (u : Nat) : (s.endFault k u).shoulder = s.shoulder := rfl
@[simp] theorem State.endFault_composer (s : State) (k : FaultKind) (u : Nat) : (s.endFault k u).composer = s.composer := rfl
@[simp] theorem State.endFault_signs (s : State) (k : FaultKind) (u : Nat) : (s.endFault k u).signs = s.signs := rfl
@[simp] theorem State.endFault_retention (s : State) (k : FaultKind) (u : Nat) : (s.endFault k u).retention = s.retention := rfl
@[simp] theorem State.endFault_free (s : State) (k : FaultKind) (u : Nat) : (s.endFault k u).free = s.free := rfl

@[simp] theorem State.raiseFault_faults (s : State) (k : FaultKind) (u : Nat) :
    (s.raiseFault k u).faults = s.faults.raise k u (s.clock / second) := rfl

@[simp] theorem State.endFault_faults (s : State) (k : FaultKind) (u : Nat) : (s.endFault k u).faults = s.faults.close k u := rfl

@[simp] theorem State.setChannel_signs (s : State) (c : Chan) (x : Channel) : (s.setChannel c x).signs = s.signs.set c x := rfl

@[simp] theorem State.send_signs (s : State) (m : List (Chan × SignMessage)) :
    (s.send m).signs = { s.signs with sent := s.signs.sent ++ m } := rfl

end Sys2Proof.Machine
end

