-- ==== Sys2Proof/Laws/Frames.lean ====
section
/-!
SUPPORT. What each shared operation leaves alone, and how such frames combine.
-/
namespace Sys2Proof.Machine

/-! ### Frames combine -/

theorem SameOutside.refl (l : List Block) (s : State) : SameOutside l s s := by
  intro b _
  cases b <;> simp [Block.same]

theorem Block.same_trans {b : Block} {s t u : State} (h : b.same s t) (k : b.same t u) : b.same s u := by
  cases b <;> exact Eq.trans k h

theorem SameOutside.trans {l m n : List Block} {s t u : State} (h : SameOutside l s t) (k : SameOutside m t u)
    (hl : l ⊆ n) (hm : m ⊆ n) : SameOutside n s u :=
  fun b hb => Block.same_trans (h b (fun x => hb (hl x))) (k b (fun x => hb (hm x)))

theorem SameOutside.mono {l m : List Block} {s t : State} (h : SameOutside l s t) (hl : l ⊆ m) : SameOutside m s t :=
  fun b hb => h b (fun x => hb (hl x))

/-- A choice between two states with one frame has that frame. -/
theorem SameOutside.ite {l : List Block} {s t u : State} {c : Prop} [Decidable c] (h : SameOutside l s t)
    (k : SameOutside l s u) : SameOutside l s (if c then t else u) := by
  split
  · exact h
  · exact k

/-- A fold of steps with one frame has that frame. -/
theorem SameOutside.foldl {α : Type} {l : List Block} {f : State → α → State} (h : ∀ s a, SameOutside l s (f s a))
    (xs : List α) (s : State) : SameOutside l s (xs.foldl f s) := by
  induction xs generalizing s with
  | nil => exact SameOutside.refl l s
  | cons a as ih => exact (h s a).trans (ih (f s a)) (fun _ x => x) (fun _ x => x)

/-! ### Frames of the shared operations -/

theorem State.advance_same (s : State) (dt : Nat) : SameOutside [.clock] s (s.advance dt) := by
  intro b hb
  cases b <;> first | rfl | exact absurd (by decide) hb

theorem State.raiseFault_same (s : State) (k : FaultKind) (u : Nat) : SameOutside [.faults] s (s.raiseFault k u) := by
  intro b hb
  cases b <;> first | rfl | exact absurd (by decide) hb

theorem State.endFault_same (s : State) (k : FaultKind) (u : Nat) : SameOutside [.faults] s (s.endFault k u) := by
  intro b hb
  cases b <;> first | rfl | exact absurd (by decide) hb

theorem State.exchangeFaults_same (s : State) (first : Bool) (j k : FaultKind) (u : Nat) :
    SameOutside [.faults] s (s.exchangeFaults first j k u) := by
  intro b hb
  cases first <;> cases b <;> first | rfl | exact absurd (by decide) hb

theorem State.setLine_same (s : State) (l : Line) : SameOutside [.line] s (s.setLine l) := by
  intro b hb
  cases b <;> first | rfl | exact absurd (by decide) hb

theorem State.setSpeed_same (s : State) (x : Speed) : SameOutside [.speed] s (s.setSpeed x) := by
  intro b hb
  cases b <;> first | rfl | exact absurd (by decide) hb

theorem State.setQueue_same (s : State) (x : QueueMonitor) : SameOutside [.queue] s (s.setQueue x) := by
  intro b hb
  cases b <;> first | rfl | exact absurd (by decide) hb

theorem State.setComposer_same (s : State) (x : Composer) : SameOutside [.composer] s (s.setComposer x) := by
  intro b hb
  cases b <;> first | rfl | exact absurd (by decide) hb

theorem State.setShoulder_same (s : State) (x : Shoulder) : SameOutside [.shoulder] s (s.setShoulder x) := by
  intro b hb
  cases b <;> first | rfl | exact absurd (by decide) hb

theorem State.setClosures_same (s : State) (x : Slots (Option Closure)) : SameOutside [.closures] s (s.setClosures x) := by
  intro b hb
  cases b <;> first | rfl | exact absurd (by decide) hb

theorem State.setRetention_same (s : State) (x : Retention) : SameOutside [.retention] s (s.setRetention x) := by
  intro b hb
  cases b <;> first | rfl | exact absurd (by decide) hb

theorem State.setDetector_same (s : State) (x : Detector) : SameOutside [.detector] s (s.setDetector x) := by
  intro b hb
  cases b <;> first | rfl | exact absurd (by decide) hb

theorem State.setRequests_same (s : State) (x : List Request) : SameOutside [.requests] s (s.setRequests x) := by
  intro b hb
  cases b <;> first | rfl | exact absurd (by decide) hb

theorem State.setTrace_same (s : State) (x : Trace) : SameOutside [.trace] s (s.setTrace x) := by
  intro b hb
  cases b <;> first | rfl | exact absurd (by decide) hb

theorem State.setNeighbours_same (s : State) (x : Neighbours) : SameOutside [.neighbours] s (s.setNeighbours x) := by
  intro b hb
  cases b <;> first | rfl | exact absurd (by decide) hb

theorem State.setMode_same (s : State) (m : Mode) : SameOutside [.station] s (s.setMode m) := by
  intro b hb
  cases b <;> first | rfl | exact absurd (by decide) hb

theorem State.setChannel_same (s : State) (c : Chan) (x : Channel) : SameOutside [.signs] s (s.setChannel c x) := by
  intro b hb
  cases b <;> first | rfl | exact absurd (by decide) hb

/-- A message sent changes nothing that a frame compares. -/
theorem State.send_same (s : State) (m : List (Chan × SignMessage)) : SameOutside [] s (s.send m) := by
  intro b _
  cases b <;> rfl

theorem State.flagUrgent_same (s : State) : SameOutside [.line] s s.flagUrgent :=
  SameOutside.ite (s.setLine_same _) (SameOutside.refl _ s)

theorem State.noteDisplacement_same (s : State) (d : Lanes (Option Displacement)) :
    SameOutside [.line] s (s.noteDisplacement d) :=
  SameOutside.ite (SameOutside.refl _ s) s.flagUrgent_same

theorem State.beginAttempt_same (s : State) (c : Chan) : SameOutside [.signs] s (s.beginAttempt c) :=
  (s.setChannel_same c _).trans (State.send_same _ _) (fun _ x => x) (by simp)

theorem State.enterFailed_same (s : State) (c : Chan) (r : FailureReason) (first : Bool) :
    SameOutside [.signs, .faults, .line] s (s.enterFailed c r first) := by
  refine SameOutside.trans (m := [.line]) (l := [.signs, .faults]) ?_ (State.noteDisplacement_same _ _) (by decide) (by decide)
  have h1 : SameOutside [.signs, .faults] s ((s.setChannel c
      { s.signs.get c with state := .failed, reason := some r, attempt := none, identifyBy := none
                           retryAt := some (s.clock + s.cfg.retryPeriod * second) }).send [s.blankMessage c]) :=
    (s.setChannel_same c _).trans (State.send_same _ _) (by decide) (by simp)
  split
  · exact h1.trans (State.raiseFault_same _ _ _) (fun _ x => x) (by decide)
  · split
    · exact h1
    · exact h1.trans (State.exchangeFaults_same _ _ _ _ _) (fun _ x => x) (by decide)

theorem State.enterMismatch_same (s : State) (c : Chan) (first : Bool) :
    SameOutside [.signs, .faults, .line] s (s.enterMismatch c first) := by
  refine SameOutside.trans (m := [.line]) (l := [.signs, .faults]) ?_ (State.noteDisplacement_same _ _) (by decide) (by decide)
  have h1 : SameOutside [.signs, .faults] s ((s.setChannel c
      { s.signs.get c with state := .mismatch, reason := none, attempt := none, identifyBy := none
                           retryAt := none }).send [s.blankMessage c]) :=
    (s.setChannel_same c _).trans (State.send_same _ _) (by decide) (by simp)
  split
  · exact h1.trans (State.raiseFault_same _ _ _) (fun _ x => x) (by decide)
  · exact h1.trans (State.exchangeFaults_same _ _ _ _ _) (fun _ x => x) (by decide)

theorem State.commitChannel_same (s : State) (old : Plan) (c : Chan) : SameOutside [.signs] s (s.commitChannel old c) :=
  SameOutside.ite (s.beginAttempt_same c) (SameOutside.refl _ s)

theorem State.commit_same (s : State) : SameOutside [.composer, .signs, .line] s s.commit :=
  ((s.setComposer_same _).trans (SameOutside.foldl (fun t c => State.commitChannel_same t s.composer.active c) _ _)
    (n := [.composer, .signs]) (by decide) (by decide)).trans (State.noteDisplacement_same _ _) (by decide) (by decide)

theorem State.tryCommit_same (s : State) : SameOutside [.composer, .signs, .line] s s.tryCommit :=
  SameOutside.ite s.commit_same (SameOutside.refl _ s)

theorem State.recompute_same (s : State) : SameOutside [.composer, .line] s s.recompute := by
  unfold State.recompute
  split
  · dsimp only
    split
    · exact (s.setComposer_same _).trans (State.flagUrgent_same _) (by decide) (by decide)
    · exact (s.setComposer_same _).mono (by decide)
  · exact SameOutside.refl _ s

theorem State.serveQueue_same (s : State) : SameOutside [.queue] s s.serveQueue := s.setQueue_same _

theorem State.applyBound_same (s : State) : SameOutside [.speed] s s.applyBound := by
  unfold State.applyBound
  dsimp only
  split
  · exact SameOutside.refl _ s
  · split <;> exact s.setSpeed_same _

theorem State.updateEnd_same (s : State) : SameOutside [.speed] s s.updateEnd := s.setSpeed_same _

theorem State.serveSpeed_same (s : State) : SameOutside [.speed] s s.serveSpeed :=
  s.applyBound_same.trans (State.updateEnd_same _) (fun _ x => x) (fun _ x => x)

theorem State.takeCandidate_same (s : State) : SameOutside [.composer] s s.takeCandidate := s.setComposer_same _

theorem State.servePlan_same (s : State) : SameOutside [.composer, .signs, .line] s s.servePlan :=
  s.recompute_same.trans (State.tryCommit_same _) (by decide) (fun _ x => x)

theorem State.serveComposer_same (s : State) : SameOutside [.composer, .signs, .line] s s.serveComposer :=
  s.takeCandidate_same.trans (State.servePlan_same _) (by decide) (fun _ x => x)

theorem State.moveShoulder_same (s : State) (x : Shoulder) : SameOutside [.shoulder, .line] s (s.moveShoulder x) :=
  SameOutside.ite ((s.setShoulder_same x).mono (by decide))
    ((s.setShoulder_same x).trans (State.flagUrgent_same _) (by decide) (by decide))

theorem State.abortCheck_same (s : State) : SameOutside [.shoulder, .line, .faults] s s.abortCheck :=
  SameOutside.ite ((s.moveShoulder_same _).trans (State.raiseFault_same _ _ _) (by decide) (by decide)) (SameOutside.refl _ s)

/-- With no check in progress nothing is aborted. -/
theorem State.abortCheck_of_ne (s : State) (h : s.shoulder.state ≠ .checking) : s.abortCheck = s := if_neg h

theorem State.startClosing_same (s : State) : SameOutside [.shoulder, .line] s s.startClosing := s.moveShoulder_same _

theorem State.forceClosing_same (s : State) : SameOutside [.shoulder, .line] s s.forceClosing :=
  SameOutside.ite s.startClosing_same (SameOutside.refl _ s)

theorem State.becomeIsolated_same (s : State) : SameOutside [.neighbours, .station] s s.becomeIsolated := by
  unfold State.becomeIsolated
  dsimp only
  split
  · exact (s.setNeighbours_same _).trans (State.setMode_same _ _) (by decide) (by decide)
  · exact (s.setNeighbours_same _).mono (by decide)

/-- The step has not entered ISOLATED. -/
def State.notEntered (s before : State) : Prop := s.mode = .isolated → before.mode = .isolated

/-- The shoulder controller takes no report of an entry that has not been made. -/
theorem State.serveShoulder_of_notEntered (s before : State) (h : s.notEntered before) : s.serveShoulder before = s :=
  if_neg fun e => e.2 (h e.1)

theorem State.serveShoulder_same (s before : State) : SameOutside [.shoulder, .line] s (s.serveShoulder before) :=
  SameOutside.ite s.forceClosing_same (SameOutside.refl _ s)

/-- A reader changes what `readers` names and the shoulder, and nothing else. -/
theorem State.serve_same (s before : State) (r : Reader) : SameOutside (.shoulder :: readers) s (s.serve before r) := by
  cases r
  · exact s.serveQueue_same.mono (by decide)
  · exact s.serveSpeed_same.mono (by decide)
  · exact s.servePlan_same.mono (by decide)
  · exact s.serveComposer_same.mono (by decide)
  · exact (s.serveShoulder_same before).mono (by decide)

/-- No reader changes the mode. -/
theorem State.serve_mode (s before : State) (r : Reader) : (s.serve before r).mode = s.mode :=
  congrArg Station.mode (s.serve_same before r .station (by decide))

/-- Without an entry into ISOLATED a reader leaves the shoulder alone. -/
theorem State.serve_same_of_notEntered (s before : State) (r : Reader) (h : s.notEntered before) :
    SameOutside readers s (s.serve before r) := by
  cases r
  · exact s.serveQueue_same.mono (by decide)
  · exact s.serveSpeed_same.mono (by decide)
  · exact s.servePlan_same.mono (by decide)
  · exact s.serveComposer_same.mono (by decide)
  · show SameOutside readers s (s.serveShoulder before)
    rw [s.serveShoulder_of_notEntered before h]
    exact SameOutside.refl _ s

theorem State.serveAll_same (s before : State) (rs : List Reader) : SameOutside (.shoulder :: readers) s (s.serveAll before rs) :=
  SameOutside.foldl (fun t r => State.serve_same t before r) rs s

theorem State.serveAll_mode (s before : State) (rs : List Reader) : (s.serveAll before rs).mode = s.mode :=
  congrArg Station.mode (s.serveAll_same before rs .station (by decide))

theorem State.serveAll_same_of_notEntered (s before : State) (rs : List Reader) (h : s.notEntered before) :
    SameOutside readers s (s.serveAll before rs) := by
  induction rs generalizing s with
  | nil => exact SameOutside.refl _ s
  | cons r rs ih =>
    exact (s.serve_same_of_notEntered before r h).trans (ih _ (fun e => h (State.serve_mode s before r ▸ e)))
      (fun _ x => x) (fun _ x => x)

/-- Serving every reader is serving them in the standing order. -/
theorem State.serveEvery_eq (s before : State) :
    s.serveEvery before = s.serveAll before [.shoulder, .queue, .speed, .composer] := by
  simp only [State.serveEvery, State.serveAll, State.serve, List.foldl_cons, List.foldl_nil]

theorem State.serveSome_same (s before : State) (rs : List Reader) :
    SameOutside (.shoulder :: readers) s (s.serveSome before rs) :=
  SameOutside.ite (s.serveAll_same before rs) (SameOutside.refl _ s)

theorem State.serveSome_same_of_notEntered (s before : State) (rs : List Reader) (h : s.notEntered before) :
    SameOutside readers s (s.serveSome before rs) :=
  SameOutside.ite (s.serveAll_same_of_notEntered before rs h) (SameOutside.refl _ s)

/-- Settling changes what `readers` names and the shoulder, and nothing else. -/
theorem State.settle_same (s before : State) (late : List Reader) :
    SameOutside (.shoulder :: readers) s (s.settle before late) := by
  unfold State.settle
  rw [State.serveEvery_eq]
  split
  · exact (s.serveAll_same before late).trans (State.serveAll_same _ before _) (fun _ x => x) (fun _ x => x)
  · exact SameOutside.refl _ s

/-- Settling a step that has not entered ISOLATED leaves the shoulder alone. -/
theorem State.settle_same_of_notEntered (s before : State) (late : List Reader) (h : s.notEntered before) :
    SameOutside readers s (s.settle before late) := by
  have h2 : (s.serveAll before late).notEntered before := fun e => h (State.serveAll_mode s before late ▸ e)
  unfold State.settle
  rw [State.serveEvery_eq]
  split
  · exact (s.serveAll_same_of_notEntered before late h).trans (State.serveAll_same_of_notEntered _ before _ h2)
      (fun _ x => x) (fun _ x => x)
  · exact SameOutside.refl _ s

/-- A reader changes the queue monitor in its term alone. -/
theorem State.serve_queue (s before : State) (r : Reader) :
    (s.serve before r).queue = { s.queue with term := (s.serve before r).queue.term } := by
  cases r with
  | queue => rfl
  | speed => rw [show (s.serve before .speed).queue = s.queue from s.serveSpeed_same .queue (by decide)]
  | plan => rw [show (s.serve before .plan).queue = s.queue from s.servePlan_same .queue (by decide)]
  | composer => rw [show (s.serve before .composer).queue = s.queue from s.serveComposer_same .queue (by decide)]
  | shoulder => rw [show (s.serve before .shoulder).queue = s.queue from s.serveShoulder_same before .queue (by decide)]

theorem State.serveAll_queue (s before : State) (rs : List Reader) :
    (s.serveAll before rs).queue = { s.queue with term := (s.serveAll before rs).queue.term } := by
  induction rs generalizing s with
  | nil => rfl
  | cons r rs ih =>
    have h := ih (s.serve before r)
    rw [s.serve_queue before r] at h
    exact h

theorem State.serveSome_queue (s before : State) (rs : List Reader) :
    (s.serveSome before rs).queue = { s.queue with term := (s.serveSome before rs).queue.term } := by
  unfold State.serveSome
  split
  · exact s.serveAll_queue before rs
  · rfl

/-- Settling changes the queue monitor in its term alone. -/
theorem State.settle_queue (s before : State) (late : List Reader) :
    (s.settle before late).queue = { s.queue with term := (s.settle before late).queue.term } := by
  unfold State.settle
  rw [State.serveEvery_eq]
  split
  · have h := State.serveAll_queue (s.serveAll before late) before [.shoulder, .queue, .speed, .composer]
    rw [s.serveAll_queue before late] at h
    exact h
  · rfl

/-- Two blocks in either order change what each of them and the readers between them change. -/
theorem State.inOrder_same {l m n : List Block} (s before : State) (o : Order) (f g : State → State)
    (hf : ∀ t, SameOutside l t (f t)) (hg : ∀ t, SameOutside m t (g t)) (hl : ∀ b ∈ l, b ∈ n) (hm : ∀ b ∈ m, b ∈ n)
    (hr : ∀ b ∈ Block.shoulder :: readers, b ∈ n) : SameOutside n s (s.inOrder before o f g) := by
  have mid (t : State) : SameOutside n t (t.serveSome before o.between) := (t.serveSome_same before o.between).mono hr
  exact SameOutside.ite
    (((hg s).trans (mid _) hm (fun _ x => x)).trans (hf _) (fun _ x => x) hl)
    (((hf s).trans (mid _) hl (fun _ x => x)).trans (hg _) (fun _ x => x) hm)

theorem State.noteArrival_same (s : State) (n : Nat) : SameOutside [.neighbours, .station, .faults] s (s.noteArrival n) := by
  unfold State.noteArrival
  split
  · dsimp only
    split
    · exact ((s.setNeighbours_same _).trans (State.setMode_same _ _) (n := [.neighbours, .station]) (by decide) (by decide)).trans
        (State.endFault_same _ _ _) (by decide) (by decide)
    · exact (s.setNeighbours_same _).trans (State.endFault_same _ _ _) (by decide) (by decide)
  · exact SameOutside.refl _ s

theorem State.startWrite_same (s : State) : SameOutside [.retention] s s.startWrite := by
  unfold State.startWrite
  split
  · split
    · exact s.setRetention_same _
    · exact SameOutside.refl _ s
  · exact SameOutside.refl _ s

theorem State.markDirty_same (s : State) (p : Pos) : SameOutside [.retention] s (s.markDirty p) :=
  (s.setRetention_same _).trans (State.startWrite_same _) (fun _ x => x) (fun _ x => x)

theorem State.putClosure_same (s : State) (p : Pos) (c : Option Closure) :
    SameOutside [.closures, .retention, .shoulder, .faults, .line] s (s.putClosure p c) := by
  unfold State.putClosure
  dsimp only
  refine SameOutside.trans (m := [.retention]) (l := [.closures, .shoulder, .faults, .line]) ?_ (State.markDirty_same _ p)
    (by decide) (by decide)
  have h1 : SameOutside [.closures, .line] s
      (if (s.setClosures (s.closures.set p c)).ownClosure = s.ownClosure then s.setClosures (s.closures.set p c)
        else (s.setClosures (s.closures.set p c)).flagUrgent) :=
    SameOutside.ite ((s.setClosures_same _).mono (by decide))
      ((s.setClosures_same _).trans (State.flagUrgent_same _) (by decide) (by decide))
  exact SameOutside.ite (h1.trans (State.abortCheck_same _) (by decide) (by decide)) (h1.mono (by decide))

theorem State.insertClosure_same (s : State) (c : Closure) :
    SameOutside [.closures, .retention, .shoulder, .faults, .line] s (s.insertClosure c) := by
  unfold State.insertClosure
  split
  · exact s.putClosure_same _ _
  · exact SameOutside.refl _ s

theorem State.setLane_same (s : State) (k : Lane) (d : LaneDetector) : SameOutside [.detector] s (s.setLane k d) :=
  s.setDetector_same _

theorem State.setSums_same (s : State) (k : Lane) (x : Sums) : SameOutside [.detector] s (s.setSums k x) := s.setLane_same k _

theorem State.setLoop_same (s : State) (l : Loop) (r : LoopRecord) : SameOutside [.detector] s (s.setLoop l r) :=
  s.setLane_same _ _

theorem State.setArrivals_same (s : State) (k : Lane) (a : List Arrival) : SameOutside [.detector] s (s.setArrivals k a) :=
  s.setLane_same _ _

theorem State.setRun_same (s : State) (k : Lane) (n : Nat) : SameOutside [.queue] s (s.setRun k n) := s.setQueue_same _

theorem State.fireShock_same (s : State) : SameOutside [.queue, .line] s s.fireShock := by
  unfold State.fireShock
  dsimp only
  split
  · exact (s.setQueue_same _).trans (State.flagUrgent_same _) (by decide) (by decide)
  · exact (s.setQueue_same _).mono (by decide)

theorem State.watchRecord_same (s : State) (r : VehicleRecord) : SameOutside [.queue, .line] s (s.watchRecord r) := by
  unfold State.watchRecord
  split
  · split
    · exact SameOutside.refl _ s
    · split
      · dsimp only
        split
        · exact (s.setRun_same _ _).trans (State.fireShock_same _) (by decide) (by decide)
        · exact (s.setRun_same _ _).mono (by decide)
      · exact (s.setRun_same _ _).mono (by decide)
  · exact (s.setRun_same _ _).mono (by decide)

theorem State.countLong_same (s : State) (r : VehicleRecord) : SameOutside [.detector] s (s.countLong r) := by
  unfold State.countLong
  split
  · exact s.setSums_same _ _
  · exact SameOutside.refl _ s

theorem State.finishRecord_same (s : State) (r : VehicleRecord) :
    SameOutside [.trace, .queue, .line, .detector] s (s.finishRecord r) :=
  ((s.setTrace_same _).trans (State.watchRecord_same _ r) (n := [.trace, .queue, .line]) (by decide) (by decide)).trans
    (State.countLong_same _ r) (by decide) (by decide)

theorem State.offerVehicle_same (s : State) (r : VehicleRequest) :
    SameOutside [.trace, .queue, .line, .detector, .requests] s (s.offerVehicle r) :=
  SameOutside.ite ((s.setRequests_same _).mono (by decide)) ((s.finishRecord_same _).mono (by decide))

theorem State.completeVehicle_same (s : State) (k : Lane) (a : Arrival) :
    SameOutside [.trace, .queue, .line, .detector, .requests] s (s.completeVehicle k a) := by
  unfold State.completeVehicle State.finishUnmeasured
  dsimp only
  split
  · exact (s.setSums_same _ _).trans (State.finishRecord_same _ _) (by decide) (by decide)
  · split
    · exact (s.setSums_same _ _).trans (State.finishRecord_same _ _) (by decide) (by decide)
    · exact (s.setSums_same _ _).trans (State.offerVehicle_same _ _) (by decide) (by decide)

theorem State.drainArrivals_same (s : State) (k : Lane) :
    SameOutside [.trace, .queue, .line, .detector, .requests] s (s.drainArrivals k) :=
  (s.setArrivals_same k _).trans (SameOutside.foldl (fun t a => State.completeVehicle_same t k a) _ _) (by decide) (by decide)

theorem State.settleMode_same (s : State) (k : Lane) (m : Tick) :
    SameOutside [.trace, .queue, .line, .detector, .requests, .shoulder, .faults] s (s.settleMode k m) := by
  unfold State.settleMode
  dsimp only
  split
  · exact SameOutside.refl _ s
  · have h (u : State) (xs : List Arrival) (hu : SameOutside [.detector, .queue] s u) :
        SameOutside [.trace, .queue, .line, .detector, .requests] s (xs.foldl (fun t a => t.completeVehicle k a) u) :=
      hu.trans (SameOutside.foldl (fun t a => State.completeVehicle_same t k a) xs u) (by decide) (by decide)
    refine SameOutside.ite ((h _ _ ?_).trans (State.abortCheck_same _) (by decide) (by decide)) ((h _ _ ?_).mono (by decide))
    all_goals exact (s.setLane_same k _).trans (State.setRun_same _ k 0) (by decide) (by decide)

theorem State.record_same (s : State) (k : CommandKind) (r : ResultCode) : SameOutside [.station] s (s.record k r) := by
  intro b hb
  cases b <;> first | rfl | exact absurd (by decide) hb

end Sys2Proof.Machine
end

