-- ==== Sys2Proof/Laws/Ops.lean ====
section
/-!
SUPPORT. What each shared operation does, said once, so that a proof about a command cites it and does not unfold it.
-/
namespace Sys2Proof.Machine

/-! ### The fault list -/

/-- An occurrence of a listed key counts on its entry, a new key takes a free place, and a full list overflows (R177). -/
theorem FaultList.raise_cases (l : FaultList) (k : FaultKind) (u n : Nat) :
    (l.entries.any (fun e => e.hasKey k u) = true ∧
        l.raise k u n = { l with entries := l.entries.map (fun e => if e.hasKey k u then e.again else e) }) ∨
      (l.entries.any (fun e => e.hasKey k u) = false ∧ l.entries.length < 16 ∧
        l.raise k u n =
          { l with entries := l.entries ++
              [{ kind := k, unit := u, firstSeen := n, count := 1, active := k.isCondition, acked := false }] }) ∨
      (l.entries.any (fun e => e.hasKey k u) = false ∧ 16 ≤ l.entries.length ∧ l.raise k u n = { l with overflow := true }) := by
  unfold FaultList.raise
  by_cases h : l.entries.any (fun e => e.hasKey k u) = true
  · exact .inl ⟨h, if_pos h⟩
  · rw [if_neg h]
    by_cases h2 : l.entries.length < 16
    · exact .inr (.inl ⟨by simpa using h, h2, if_pos h2⟩)
    · exact .inr (.inr ⟨by simpa using h, by omega, if_neg h2⟩)

/-- The end of a condition removes an acknowledged active entry, or makes the entry inactive (R178). -/
theorem FaultList.close_cases (l : FaultList) (k : FaultKind) (u : Nat) :
    (l.entries.any (fun e => e.hasKey k u && e.active && e.acked) = true ∧
        l.close k u = { entries := l.entries.filter (fun e => !e.hasKey k u), overflow := false }) ∨
      (l.entries.any (fun e => e.hasKey k u && e.active && e.acked) = false ∧
        l.close k u = { l with entries := l.entries.map (fun e => if e.hasKey k u then { e with active := false } else e) }) := by
  unfold FaultList.close
  by_cases h : l.entries.any (fun e => e.hasKey k u && e.active && e.acked) = true
  · exact .inl ⟨h, if_pos h⟩
  · exact .inr ⟨by simpa using h, if_neg h⟩

/-- A list of at most 16 entries stays one when a fault is raised. -/
theorem FaultList.raise_length (l : FaultList) (k : FaultKind) (u n : Nat) (h : l.entries.length ≤ 16) :
    (l.raise k u n).entries.length ≤ 16 := by
  rcases l.raise_cases k u n with ⟨-, e⟩ | ⟨-, hl, e⟩ | ⟨-, -, e⟩
  · simpa [e] using h
  · simp only [e, List.length_append, List.length_singleton]; omega
  · simpa [e] using h

/-- The end of a condition makes no list longer. -/
theorem FaultList.close_length (l : FaultList) (k : FaultKind) (u : Nat) :
    (l.close k u).entries.length ≤ l.entries.length := by
  rcases l.close_cases k u with ⟨-, e⟩ | ⟨-, e⟩
  · simpa [e] using List.length_filter_le _ _
  · simp [e]

/-- An acknowledgement makes no list longer. -/
theorem FaultList.acknowledge_length (l : FaultList) (sel : FaultEntry → Bool) :
    (l.acknowledge sel).entries.length ≤ l.entries.length := by
  simp [FaultList.acknowledge, List.length_filter_le]

/-- An entry left by an acknowledgement is an unselected entry, or a selected active one, now marked (R179). -/
theorem FaultList.mem_acknowledge (l : FaultList) (sel : FaultEntry → Bool) (e : FaultEntry) :
    e ∈ (l.acknowledge sel).entries ↔
      (e ∈ l.entries ∧ sel e = false) ∨ ∃ f ∈ l.entries, sel f = true ∧ f.active = true ∧ e = { f with acked := true } := by
  simp only [FaultList.acknowledge, List.mem_map, List.mem_filter]
  constructor
  · rintro ⟨f, ⟨hf, hk⟩, rfl⟩
    by_cases hs : sel f = true
    · exact .inr ⟨f, hf, hs, by simpa [hs] using hk, by simp [hs]⟩
    · exact .inl ⟨by simpa [hs] using hf, by simp [hs]⟩
  · rintro (⟨he, hs⟩ | ⟨f, hf, hs, ha, rfl⟩)
    · exact ⟨e, ⟨he, by simp [hs]⟩, by simp [hs]⟩
    · exact ⟨f, ⟨hf, by simp [hs, ha]⟩, by simp [hs]⟩

/-! ### The status slot -/

theorem Line.slotOnly_refl (l : Line) : Line.slotOnly l l := rfl

theorem Line.slotOnly_trans {a b c : Line} (h : Line.slotOnly a b) (k : Line.slotOnly b c) : Line.slotOnly a c := by
  unfold Line.slotOnly at *
  rw [k, h]

theorem Line.wake_slotOnly (l : Line) : Line.slotOnly l l.wake := by
  unfold Line.wake
  split <;> rfl

/-- The urgent flag brings the pending mark, and no QUIET station stays QUIET (R48, R55). -/
theorem Line.setUrgent_spec (l : Line) :
    l.setUrgent.urgent = true ∧ l.setUrgent.pending = true ∧ l.setUrgent.urgentAgain = true ∧
      l.setUrgent.tx = (if l.tx = .quiet then .waiting else l.tx) ∧ Line.slotOnly l l.setUrgent := by
  by_cases h : l.tx = .quiet <;> simp [Line.setUrgent, Line.wake, Line.hasWork, Line.slotOnly, h]

/-- An urgent change touches the status slot alone, and that only while the station acts (R54). -/
theorem State.flagUrgent_line (s : State) :
    s.flagUrgent.line = (if s.acting then s.line.setUrgent else s.line) ∧ Line.slotOnly s.line s.flagUrgent.line := by
  unfold State.flagUrgent
  split
  · exact ⟨rfl, s.line.setUrgent_spec.2.2.2.2⟩
  · exact ⟨rfl, rfl⟩

theorem State.noteDisplacement_slotOnly (s : State) (d : Lanes (Option Displacement)) :
    Line.slotOnly s.line (s.noteDisplacement d).line := by
  unfold State.noteDisplacement
  split
  · rfl
  · exact s.flagUrgent_line.2

theorem State.moveShoulder_slotOnly (s : State) (x : Shoulder) : Line.slotOnly s.line (s.moveShoulder x).line := by
  unfold State.moveShoulder
  split
  · rfl
  · exact (s.setShoulder x).flagUrgent_line.2

theorem State.abortCheck_slotOnly (s : State) : Line.slotOnly s.line s.abortCheck.line := by
  unfold State.abortCheck
  split
  · exact s.moveShoulder_slotOnly _
  · rfl

/-! ### Sign channels, plans and readers -/

/-- An attempt leaves every channel but its own, and sends what R154 says on that channel's line. -/
theorem State.beginAttempt_spec (s : State) (c : Chan) :
    (s.beginAttempt c).signs.get c =
        { s.signs.get c with
          state := .setting, nextSet := nextSetAfter (s.signs.get c).nextSet
          attempt := some { set := (s.signs.get c).nextSet, deadline := s.clock + s.cfg.provingTimeout * 1000 }
          identifyBy := none, retryAt := none } ∧
      (∀ d, d ≠ c → (s.beginAttempt c).signs.get d = s.signs.get d) ∧
      (s.beginAttempt c).signs.sent = s.signs.sent ++ ((if (s.signs.get c).identified then [] else [(c, .identify)]) ++
        [(c, s.aspectSet (s.signs.get c).nextSet (s.composer.active.part c))]) := by
  refine ⟨?_, ?_, ?_⟩
  · cases c with
    | legend => rfl
    | lane k => cases k <;> rfl
  · intro d hd
    cases c with
    | legend =>
      cases d with
      | legend => exact absurd rfl hd
      | lane k => rfl
    | lane k =>
      cases d with
      | legend => cases k <;> rfl
      | lane j => cases k <;> cases j <;> first | rfl | exact absurd rfl hd
  · cases c with
    | legend => rfl
    | lane k => cases k <;> rfl

/-- The gate opens when the plans differ, no channel is SETTING and the display is on (R143). -/
theorem State.tryCommit_cases (s : State) :
    (s.composer.display = true ∧ s.composer.next ≠ s.composer.active ∧ s.signs.anySetting = false ∧ s.tryCommit = s.commit) ∨
      ((s.composer.display = false ∨ s.composer.next = s.composer.active ∨ s.signs.anySetting = true) ∧ s.tryCommit = s) := by
  unfold State.tryCommit
  split
  · next h =>
    simp only [Bool.and_eq_true, bne_iff_ne, ne_eq, Bool.not_eq_true'] at h
    exact .inl ⟨h.1.1, h.1.2, h.2, rfl⟩
  · next h =>
    refine .inr ⟨?_, rfl⟩
    simp only [Bool.and_eq_true, bne_iff_ne, ne_eq, Bool.not_eq_true', not_and, Bool.not_eq_false] at h
    by_cases hd : s.composer.display = true
    · by_cases hn : s.composer.next = s.composer.active
      · exact .inr (.inl hn)
      · exact .inr (.inr (h ⟨hd, hn⟩))
    · exact .inl (by simpa using hd)

/-- After a bound is applied, speed control holds the new bound; the plan step rises to it at once, falls to it when the
hold has expired, and otherwise stays (R86, R87). -/
theorem State.applyBound_cases (s : State) :
    (s.lowerBound = s.speed.bound ∧ s.applyBound = s) ∨
      (s.lowerBound ≠ s.speed.bound ∧
        (s.speed.planStep < s.lowerBound ∨ (s.lowerBound < s.speed.planStep ∧ s.holdExpired = true)) ∧
        s.applyBound = s.setSpeed { s.speed with bound := s.lowerBound, planStep := s.lowerBound, heldSince := s.clock, holdEnded := false }) ∨
      (s.lowerBound ≠ s.speed.bound ∧ s.lowerBound ≤ s.speed.planStep ∧
        (s.lowerBound = s.speed.planStep ∨ s.holdExpired = false) ∧
        s.applyBound = s.setSpeed { s.speed with bound := s.lowerBound }) := by
  unfold State.applyBound
  dsimp only
  by_cases h : s.lowerBound = s.speed.bound
  · exact .inl ⟨h, if_pos h⟩
  · rw [if_neg h]
    by_cases h2 : s.speed.planStep < s.lowerBound ∨ (s.lowerBound < s.speed.planStep ∧ s.holdExpired = true)
    · exact .inr (.inl ⟨h, h2, if_pos h2⟩)
    · refine .inr (.inr ⟨h, ?_, ?_, if_neg h2⟩)
      · omega
      · by_cases he : s.holdExpired = true
        · exact .inl (by simp only [he, and_true] at h2; omega)
        · exact .inr (by simpa using he)

/-- The plan step is never left below the bound that is applied (R86). -/
theorem State.applyBound_le (s : State) (h : s.speed.bound ≤ s.speed.planStep) :
    s.applyBound.speed.bound = s.lowerBound ∧ s.applyBound.speed.bound ≤ s.applyBound.speed.planStep := by
  rcases s.applyBound_cases with ⟨e, t⟩ | ⟨-, -, t⟩ | ⟨-, hl, -, t⟩
  · rw [t]; exact ⟨e.symm, h⟩
  · rw [t]; exact ⟨rfl, Nat.le_refl _⟩
  · rw [t]; exact ⟨rfl, hl⟩

/-- Reports are taken when there is one and the station acts, and the readers the order leaves out are served last. -/
theorem State.settle_cases (s before : State) (late : List Reader) :
    (s.acting = true ∧ s.reported before = true ∧ s.settle before late = (s.serveAll before late).serveEvery before) ∨
      ((s.acting = false ∨ s.reported before = false) ∧ s.settle before late = s) := by
  unfold State.settle
  split
  · next h => exact .inl ⟨(Bool.and_eq_true _ _ ▸ h).1, (Bool.and_eq_true _ _ ▸ h).2, rfl⟩
  · next h =>
    refine .inr ⟨?_, rfl⟩
    cases ha : s.acting
    · exact .inl rfl
    · exact .inr (by simpa [ha] using h)

/-- Two blocks act in the order the command names, with the named readers served between them (R38, R62). -/
theorem State.inOrder_cases (s before : State) (o : Order) (f g : State → State) :
    (o.swapped = false ∧ s.inOrder before o f g = g ((f s).serveSome before o.between)) ∨
      (o.swapped = true ∧ s.inOrder before o f g = f ((g s).serveSome before o.between)) := by
  unfold State.inOrder
  cases o.swapped
  · exact .inl ⟨rfl, rfl⟩
  · exact .inr ⟨rfl, rfl⟩

/-! ### The shoulder and the modes -/

/-- The forced closing acts from OPEN and CHECKING alone (R130). -/
theorem State.forceClosing_shoulder (s : State) :
    s.forceClosing.shoulder =
      (if s.shoulder.state = .opened ∨ s.shoulder.state = .checking then
        { state := .closing, checkTimer := none, clearanceTimer := some (s.clock + s.cfg.clearanceTime * second) }
      else s.shoulder) := by
  unfold State.forceClosing
  split
  · unfold State.startClosing State.moveShoulder
    split
    · rfl
    · unfold State.flagUrgent
      split <;> rfl
  · rfl

/-- The isolation condition takes a RUNNING station to ISOLATED and changes no other mode (R71). -/
theorem State.becomeIsolated_spec (s : State) :
    s.becomeIsolated.neighbours = { s.neighbours with isolation := true } ∧
      s.becomeIsolated.station = { s.station with mode := if s.mode = .running then .isolated else s.mode } := by
  unfold State.becomeIsolated
  dsimp only
  split <;> exact ⟨rfl, rfl⟩

/-! ### The closure table and its slots -/

/-- The writer takes the lowest-numbered dirty slot when it runs and is free, and otherwise does nothing (R172). -/
theorem State.startWrite_cases (s : State) :
    (s.writerOn = true ∧ s.retention.write = none ∧ ∃ p, s.retention.lowestDirty = some p ∧
        s.startWrite.retention =
          { slots := s.retention.slots.set p { s.retention.slots.get p with marker := markerWriting }
            dirty := s.retention.dirty.set p false
            write := some { slot := p, latched := (s.closures.get p).map Closure.image } }) ∨
      ((s.writerOn = false ∨ s.retention.write ≠ none ∨ s.retention.lowestDirty = none) ∧ s.startWrite = s) := by
  unfold State.startWrite
  split
  · next h =>
    have hw : s.writerOn = true ∧ s.retention.write = none := by simpa using h
    split
    · next p hp => exact .inl ⟨hw.1, hw.2, p, hp, rfl⟩
    · next hp => exact .inr ⟨.inr (.inr hp), rfl⟩
  · next h =>
    refine .inr ⟨?_, rfl⟩
    cases ho : s.writerOn
    · exact .inl rfl
    · exact .inr (.inl (by intro hn; simp [ho, hn] at h))

/-- A changed position changes the table there and nowhere else (R117). -/
theorem State.putClosure_closures (s : State) (p : Pos) (c : Option Closure) :
    (s.putClosure p c).closures = s.closures.set p c := by
  unfold State.putClosure
  dsimp only
  have hm (t : State) (q : Pos) : (t.markDirty q).closures = t.closures := State.markDirty_same t q .closures (by decide)
  have ha (t : State) : t.abortCheck.closures = t.closures := State.abortCheck_same t .closures (by decide)
  have hu (t : State) : t.flagUrgent.closures = t.closures := State.flagUrgent_same t .closures (by decide)
  rw [hm]
  split <;> split <;> simp [ha, hu]

/-- An insertion takes the lowest-numbered free position (R106). -/
theorem State.insertClosure_closures (s : State) (c : Closure) :
    (s.insertClosure c).closures =
      match s.freePosition with
      | some p => s.closures.set p (some c)
      | none => s.closures := by
  unfold State.insertClosure
  cases s.freePosition with
  | some p => exact s.putClosure_closures _ _
  | none => rfl

/-! ### Detectors -/

/-- A qualified on edge is taken alone, or after that of the lane's other loop when R3 puts it first. -/
theorem State.qualifyInOrder_cases (s : State) (l : Loop) (p : Presence) :
    (∃ q, (s.loop (otherLoop l)).presence = some q ∧ s.loopConfigured (otherLoop l) = true ∧ q.qualified = false ∧
        s.lasted q = true ∧ edgeFirst (otherLoop l).side q.on p.on = true ∧
        s.qualifyInOrder l p = (s.qualify (otherLoop l) q).qualify l p) ∨
      ((∀ q, (s.loop (otherLoop l)).presence = some q → s.loopConfigured (otherLoop l) = true → q.qualified = false →
        s.lasted q = true → edgeFirst (otherLoop l).side q.on p.on = false) ∧ s.qualifyInOrder l p = s.qualify l p) := by
  unfold State.qualifyInOrder
  dsimp only
  split
  · next q hq =>
    split
    · next h =>
      simp only [Bool.and_eq_true, Bool.not_eq_true'] at h
      exact .inl ⟨q, hq, h.1.1.1, h.1.1.2, h.1.2, h.2, rfl⟩
    · next h =>
      refine .inr ⟨?_, rfl⟩
      intro r hr hc hu hl
      rw [hq, Option.some.injEq] at hr
      subst hr
      simpa [hc, hu, hl] using h
  · next hq =>
    refine .inr ⟨?_, rfl⟩
    intro r hr
    rw [hq] at hr
    cases hr

/-- An edge that no edge of the other loop precedes (R3) is taken alone. -/
theorem State.qualifyInOrder_of_edgeFree (s : State) (l : Loop) (p : Presence) (h : s.edgeFree l p) :
    s.qualifyInOrder l p = s.qualify l p := by
  rcases s.qualifyInOrder_cases l p with ⟨q, hq, hc, hu, hl, hf, -⟩ | ⟨-, e⟩
  · obtain ⟨h1, h2⟩ := h q hq hc hu hl
    have : l.side = .b ∧ q.on = p.on := by
      cases hs : l.side <;> simp_all [edgeFirst, otherLoop]
    exact absurd this.2 (h2 this.1)
  · exact e

/-! ### Reports -/

/-- A LANES report carries a lane record as it stands, or, in WARMING before an evaluation, without its results; the merged
mark and n_long stand in both (R182). -/
theorem State.reportedRecord_cases (s : State) (k : Lane) :
    (s.reportedRecord k).merged = (s.records.get k).merged ∧ (s.reportedRecord k).nLong = (s.records.get k).nLong ∧
      ((s.mode = .warming ∧ s.station.firstEvaluation = false ∧ s.reportedRecord k = (s.records.get k).withoutResults) ∨
        (¬(s.mode = .warming ∧ s.station.firstEvaluation = false) ∧ s.reportedRecord k = s.records.get k)) := by
  unfold State.reportedRecord
  split
  · next h => exact ⟨rfl, rfl, .inl ⟨h.1, h.2, rfl⟩⟩
  · next h => exact ⟨rfl, rfl, .inr ⟨h, rfl⟩⟩

/-! ### Vehicle records -/

/-- A capture of the record's lane takes it, and its last place ends the capture (R18). -/
theorem Trace.capture_cases (t : Trace) (r : VehicleRecord) :
    (t.state = .capturing ∧ t.lane = r.lane.num ∧
        (t.capture r).records = t.records ++ [r] ∧ (t.capture r).captured = t.captured + 1 ∧
        (t.capture r).state = (if t.captured + 1 = t.requested then .draining else .capturing)) ∨
      (¬(t.state = .capturing ∧ t.lane = r.lane.num) ∧ t.capture r = t) := by
  unfold Trace.capture
  by_cases h : t.state = .capturing ∧ t.lane = r.lane.num
  · rw [if_pos h]
    refine .inl ⟨h.1, h.2, ?_⟩
    dsimp only
    split
    · exact ⟨rfl, rfl, rfl⟩
    · exact ⟨rfl, rfl, h.1⟩
  · rw [if_neg h]
    exact .inr ⟨h, rfl⟩

/-- What the queue monitor makes of a record: the lane's run, and the shock at the run length (R99, R100). -/
theorem State.watchRecord_runs (s : State) (r : VehicleRecord) (hl : (s.queue.runs.get r.lane) < s.cfg.runLength) :
    let run := s.queue.runs.get r.lane + 1
    ∀ v m n c, r.result = .measured v m n c → s.runsForMeasurement r.lane = true →
      (s.detector.lanes.get r.lane).mode = .dual → v < s.cfg.shockSpeed →
      s.watchRecord r = (if run = s.cfg.runLength then (s.setRun r.lane run).fireShock else s.setRun r.lane run) := by
  intro run v m n c hr he hd hv
  have hm : min (s.queue.runs.get r.lane + 1) s.cfg.runLength = run := Nat.min_eq_left hl
  unfold State.watchRecord
  simp only [he, hd, beq_self_eq_true, Bool.and_self, if_true, hr, hv, hm]

/-- What the queue monitor makes of a failing evaluation in PRESENT (R98): it clears at the dwell, but not at the first
evaluation after a shock of the same moment (R101). -/
theorem State.evaluateQueue_failing (s : State) (hp : s.queue.state = .present) (hq : s.queueCondition = false) :
    (s.cfg.clearDwell ≤ s.queue.clearCount + 1 ∧ s.afterShock = false ∧
        s.evaluateQueue = (s.setQueue { s.queue with state := .clear, confirm := 0, clearCount := 0 }).flagUrgent) ∨
      ((s.queue.clearCount + 1 < s.cfg.clearDwell ∨ s.afterShock = true) ∧
        s.evaluateQueue = s.setQueue { s.queue with clearCount := s.queue.clearCount + 1 }) := by
  unfold State.evaluateQueue
  simp only [hp, hq, Bool.false_eq_true, if_false]
  split
  · next h => exact .inl ⟨h.1, h.2, rfl⟩
  · next h =>
    refine .inr ⟨?_, rfl⟩
    cases ha : s.afterShock
    · exact .inl (by simp only [ha, and_true] at h; omega)
    · exact .inr rfl

/-! ### The line's moments -/

/-- A run of noise holds no mark. -/
theorem markTime_noise (noise : List Nat) (hn : ∀ x ∈ noise, x < 5) : markTime noise = 0 := by
  cases noise with
  | nil => rfl
  | cons h hs =>
    have : (isNoise h && hs.all isNoise) = true := by
      simp only [isNoise, classifyHold, Bool.and_eq_true, List.all_eq_true, beq_iff_eq]
      exact ⟨by simp [hn h (by simp)], fun x hx => by simp [hn x (by simp [hx])]⟩
    simp only [markTime, this, if_true]

/-- The marks of a run end with its last hold that is not noise (R41, R45). -/
theorem markTime_append (holds noise : List Nat) (h : Nat) (hh : 5 ≤ h) (hn : ∀ x ∈ noise, x < 5) :
    markTime (holds ++ h :: noise) = holds.sum + h := by
  have hf : isNoise h = false := by
    unfold isNoise classifyHold
    repeat' split
    all_goals first | rfl | omega
  induction holds with
  | nil => simp [markTime, hf, markTime_noise noise hn]
  | cons a as ih => simp [markTime, hf, ih, Nat.add_assoc]

/-- The marks that run on into the next are the last of the run, each still held at the end of its slot. -/
theorem heldThrough_eq (holds : List Nat) :
    ∃ n, n ≤ holds.length ∧ heldThrough holds = 30 * n ∧ (∀ h ∈ holds.drop (holds.length - n), 30 < h) ∧
      ∀ h, n < holds.length → holds[holds.length - n - 1]? = some h → h ≤ 30 := by
  suffices ∀ l : List Nat, ∃ n, n ≤ l.length ∧ (l.takeWhile (fun h => decide (30 < h))).length = n ∧
      (∀ h ∈ l.take n, 30 < h) ∧ ∀ h, l[n]? = some h → h ≤ 30 by
    obtain ⟨n, hl, e, ht, hd⟩ := this holds.reverse
    rw [List.length_reverse] at hl
    refine ⟨n, hl, by rw [heldThrough, e], fun h hm => ht h ?_, fun h hlt hg => hd h ?_⟩
    · rw [List.take_reverse]
      exact List.mem_reverse.mpr hm
    · rw [List.getElem?_reverse hlt, ← hg]
      congr 1
      omega
  intro l
  induction l with
  | nil => exact ⟨0, Nat.le_refl _, rfl, by simp, by simp⟩
  | cons a as ih =>
    obtain ⟨n, hl, e, ht, hd⟩ := ih
    by_cases ha : 30 < a
    · refine ⟨n + 1, by simpa using hl, by simp [ha, e], ?_, by simpa using hd⟩
      intro h hm
      rcases List.mem_cons.mp (by simpa using hm) with rfl | hm
      · exact ha
      · exact ht h hm
    · exact ⟨0, Nat.zero_le _, by simp [ha], by simp, by simp; omega⟩

end Sys2Proof.Machine
end

