-- ==== Sys2Proof/Laws/PerInstr.lean ====
section
/-!
SUPPORT. The family `Elapsed`: every command but a reset says how much time has passed before it (log 1).
-/
namespace Sys2Proof.Laws

/-- A command carries no time exactly when it is a reset. -/
def Elapsed.Statement (i : Instr) : Prop := Machine.elapsed i = none ↔ Machine.isReset i = true

theorem Elapsed.powerOnReset (straps : Straps) :
    Elapsed.Statement (.powerOnReset straps) :=
  ⟨fun _ => rfl, fun _ => rfl⟩

theorem Elapsed.resetPin (straps : Straps) :
    Elapsed.Statement (.resetPin straps) :=
  ⟨fun _ => rfl, fun _ => rfl⟩

theorem Elapsed.startUpCheck (dt : Nat) (image : List Octet) :
    Elapsed.Statement (.startUpCheck dt image) :=
  ⟨(fun h => nomatch h), (fun h => nomatch h)⟩

theorem Elapsed.restoreComplete (dt : Nat) :
    Elapsed.Statement (.restoreComplete dt) :=
  ⟨(fun h => nomatch h), (fun h => nomatch h)⟩

theorem Elapsed.warmingEntry (dt : Nat) :
    Elapsed.Statement (.warmingEntry dt) :=
  ⟨(fun h => nomatch h), (fun h => nomatch h)⟩

theorem Elapsed.warmUpTimerExpiry (dt : Nat) :
    Elapsed.Statement (.warmUpTimerExpiry dt) :=
  ⟨(fun h => nomatch h), (fun h => nomatch h)⟩

theorem Elapsed.warmingExit (dt : Nat) (modeFirst : Bool) (o : Order) :
    Elapsed.Statement (.warmingExit dt modeFirst o) :=
  ⟨(fun h => nomatch h), (fun h => nomatch h)⟩

theorem Elapsed.loopPresenceStart (dt : Nat) (loop : Loop) :
    Elapsed.Statement (.loopPresenceStart dt loop) :=
  ⟨(fun h => nomatch h), (fun h => nomatch h)⟩

theorem Elapsed.qualifiedOnEdge (dt : Nat) (loop : Loop) :
    Elapsed.Statement (.qualifiedOnEdge dt loop) :=
  ⟨(fun h => nomatch h), (fun h => nomatch h)⟩

theorem Elapsed.releaseEdge (dt : Nat) (loop : Loop) :
    Elapsed.Statement (.releaseEdge dt loop) :=
  ⟨(fun h => nomatch h), (fun h => nomatch h)⟩

theorem Elapsed.presenceTimeout (dt : Nat) (loop : Loop) (endFirst : Bool) :
    Elapsed.Statement (.presenceTimeout dt loop endFirst) :=
  ⟨(fun h => nomatch h), (fun h => nomatch h)⟩

theorem Elapsed.pairingDeadline (dt : Nat) (lane : Lane) :
    Elapsed.Statement (.pairingDeadline dt lane) :=
  ⟨(fun h => nomatch h), (fun h => nomatch h)⟩

theorem Elapsed.intervalEnd (dt : Nat) (lanes : List Lane) (loops : List Loop) :
    Elapsed.Statement (.intervalEnd dt lanes loops) :=
  ⟨(fun h => nomatch h), (fun h => nomatch h)⟩

theorem Elapsed.vehicleRequestCompletion (dt : Nat) (o : Order) :
    Elapsed.Statement (.vehicleRequestCompletion dt o) :=
  ⟨(fun h => nomatch h), (fun h => nomatch h)⟩

theorem Elapsed.intervalRequestCompletion (dt : Nat) (o : Order) :
    Elapsed.Statement (.intervalRequestCompletion dt o) :=
  ⟨(fun h => nomatch h), (fun h => nomatch h)⟩

theorem Elapsed.traceFramePlaced (dt : Nat) :
    Elapsed.Statement (.traceFramePlaced dt) :=
  ⟨(fun h => nomatch h), (fun h => nomatch h)⟩

theorem Elapsed.idleGap (dt : Nat) :
    Elapsed.Statement (.idleGap dt) :=
  ⟨(fun h => nomatch h), (fun h => nomatch h)⟩

theorem Elapsed.transmitStart (dt : Nat) :
    Elapsed.Statement (.transmitStart dt) :=
  ⟨(fun h => nomatch h), (fun h => nomatch h)⟩

theorem Elapsed.arbitrationLost (dt : Nat) (mark : LostMark) :
    Elapsed.Statement (.arbitrationLost dt mark) :=
  ⟨(fun h => nomatch h), (fun h => nomatch h)⟩

theorem Elapsed.transmitAbort (dt : Nat) (cause : AbortCause) :
    Elapsed.Statement (.transmitAbort dt cause) :=
  ⟨(fun h => nomatch h), (fun h => nomatch h)⟩

theorem Elapsed.abortHoldEnd (dt : Nat) :
    Elapsed.Statement (.abortHoldEnd dt) :=
  ⟨(fun h => nomatch h), (fun h => nomatch h)⟩

theorem Elapsed.transmitComplete (sent : SentMarks) :
    Elapsed.Statement (.transmitComplete sent) :=
  ⟨(fun h => nomatch h), (fun h => nomatch h)⟩

theorem Elapsed.publicationTimerExpiry (dt : Nat) :
    Elapsed.Statement (.publicationTimerExpiry dt) :=
  ⟨(fun h => nomatch h), (fun h => nomatch h)⟩

theorem Elapsed.lapse (dt : Nat) (holds : List Nat) :
    Elapsed.Statement (.lapse dt holds) :=
  ⟨(fun h => nomatch h), (fun h => nomatch h)⟩

theorem Elapsed.frameAborted (dt : Nat) (holds : List Nat) :
    Elapsed.Statement (.frameAborted dt holds) :=
  ⟨(fun h => nomatch h), (fun h => nomatch h)⟩

theorem Elapsed.frameRejected (dt : Nat) (cls : BitVec 2) (kind : BitVec 4) (source : BitVec 6) (body : List Octet) (check : BitVec 16) :
    Elapsed.Statement (.frameRejected dt cls kind source body check) :=
  ⟨(fun h => nomatch h), (fun h => nomatch h)⟩

theorem Elapsed.lineStuck (dt : Nat) (holds : List Nat) (o : Order) :
    Elapsed.Statement (.lineStuck dt holds o) :=
  ⟨(fun h => nomatch h), (fun h => nomatch h)⟩

theorem Elapsed.lineStuckEnd (dt : Nat) :
    Elapsed.Statement (.lineStuckEnd dt) :=
  ⟨(fun h => nomatch h), (fun h => nomatch h)⟩

theorem Elapsed.statusFrame (dt : Nat) (cls : BitVec 2) (source : BitVec 6) (body : List Octet) (o : Order) :
    Elapsed.Statement (.statusFrame dt cls source body o) :=
  ⟨(fun h => nomatch h), (fun h => nomatch h)⟩

theorem Elapsed.reportFrameHeard (dt : Nat) (cls : BitVec 2) (source : BitVec 6) (body : List Octet) :
    Elapsed.Statement (.reportFrameHeard dt cls source body) :=
  ⟨(fun h => nomatch h), (fun h => nomatch h)⟩

theorem Elapsed.neighbourExpiry (dt : Nat) (station : Nat) :
    Elapsed.Statement (.neighbourExpiry dt station) :=
  ⟨(fun h => nomatch h), (fun h => nomatch h)⟩

theorem Elapsed.neighbourRemoval (dt : Nat) (station : Nat) (o : Order) :
    Elapsed.Statement (.neighbourRemoval dt station o) :=
  ⟨(fun h => nomatch h), (fun h => nomatch h)⟩

theorem Elapsed.isolationTimerExpiry (dt : Nat) (o : Order) :
    Elapsed.Statement (.isolationTimerExpiry dt o) :=
  ⟨(fun h => nomatch h), (fun h => nomatch h)⟩

theorem Elapsed.holdExpiry (dt : Nat) :
    Elapsed.Statement (.holdExpiry dt) :=
  ⟨(fun h => nomatch h), (fun h => nomatch h)⟩

theorem Elapsed.override (dt : Nat) (low high step legend : Octet) (minutes : BitVec 16) (o : Order) :
    Elapsed.Statement (.override dt low high step legend minutes o) :=
  ⟨(fun h => nomatch h), (fun h => nomatch h)⟩

theorem Elapsed.overrideExpiry (dt : Nat) (o : Order) :
    Elapsed.Statement (.overrideExpiry dt o) :=
  ⟨(fun h => nomatch h), (fun h => nomatch h)⟩

theorem Elapsed.closeSet (dt : Nat) (origin serial lanes taper extent step : Octet) (o : Order) :
    Elapsed.Statement (.closeSet dt origin serial lanes taper extent step o) :=
  ⟨(fun h => nomatch h), (fun h => nomatch h)⟩

theorem Elapsed.closeClear (dt : Nat) (origin serial : Octet) (o : Order) :
    Elapsed.Statement (.closeClear dt origin serial o) :=
  ⟨(fun h => nomatch h), (fun h => nomatch h)⟩

theorem Elapsed.shoulderOpen (dt : Nat) (low high : Octet) (o : Order) :
    Elapsed.Statement (.shoulderOpen dt low high o) :=
  ⟨(fun h => nomatch h), (fun h => nomatch h)⟩

theorem Elapsed.shoulderClose (dt : Nat) (low high : Octet) (o : Order) :
    Elapsed.Statement (.shoulderClose dt low high o) :=
  ⟨(fun h => nomatch h), (fun h => nomatch h)⟩

theorem Elapsed.checkTimerExpiry (dt : Nat) :
    Elapsed.Statement (.checkTimerExpiry dt) :=
  ⟨(fun h => nomatch h), (fun h => nomatch h)⟩

theorem Elapsed.clearanceTimerExpiry (dt : Nat) :
    Elapsed.Statement (.clearanceTimerExpiry dt) :=
  ⟨(fun h => nomatch h), (fun h => nomatch h)⟩

theorem Elapsed.faultAck (dt : Nat) (station kind unit : Octet) :
    Elapsed.Statement (.faultAck dt station kind unit) :=
  ⟨(fun h => nomatch h), (fun h => nomatch h)⟩

theorem Elapsed.faultAckAll (dt : Nat) (station unit : Octet) :
    Elapsed.Statement (.faultAckAll dt station unit) :=
  ⟨(fun h => nomatch h), (fun h => nomatch h)⟩

theorem Elapsed.requestFaults (dt : Nat) (station lane count : Octet) :
    Elapsed.Statement (.requestFaults dt station lane count) :=
  ⟨(fun h => nomatch h), (fun h => nomatch h)⟩

theorem Elapsed.requestLanes (dt : Nat) (station lane count : Octet) :
    Elapsed.Statement (.requestLanes dt station lane count) :=
  ⟨(fun h => nomatch h), (fun h => nomatch h)⟩

theorem Elapsed.requestTrace (dt : Nat) (station lane count : Octet) :
    Elapsed.Statement (.requestTrace dt station lane count) :=
  ⟨(fun h => nomatch h), (fun h => nomatch h)⟩

theorem Elapsed.identity (dt : Nat) (chan : Chan) (kind : Octet) (check : BitVec 16) (endFirst : Bool) :
    Elapsed.Statement (.identity dt chan kind check endFirst) :=
  ⟨(fun h => nomatch h), (fun h => nomatch h)⟩

theorem Elapsed.identificationDeadline (dt : Nat) (chan : Chan) :
    Elapsed.Statement (.identificationDeadline dt chan) :=
  ⟨(fun h => nomatch h), (fun h => nomatch h)⟩

theorem Elapsed.provingReport (dt : Nat) (chan : Chan) (set result : Octet) (check : BitVec 16) (endFirst : Bool) :
    Elapsed.Statement (.provingReport dt chan set result check endFirst) :=
  ⟨(fun h => nomatch h), (fun h => nomatch h)⟩

theorem Elapsed.provingDeadline (dt : Nat) (chan : Chan) (endFirst : Bool) :
    Elapsed.Statement (.provingDeadline dt chan endFirst) :=
  ⟨(fun h => nomatch h), (fun h => nomatch h)⟩

theorem Elapsed.retryTimerExpiry (dt : Nat) (chan : Chan) :
    Elapsed.Statement (.retryTimerExpiry dt chan) :=
  ⟨(fun h => nomatch h), (fun h => nomatch h)⟩

theorem Elapsed.restartNotice (dt : Nat) (chan : Chan) (kind : Octet) (check : BitVec 16) (endFirst : Bool) :
    Elapsed.Statement (.restartNotice dt chan kind check endFirst) :=
  ⟨(fun h => nomatch h), (fun h => nomatch h)⟩

theorem Elapsed.slotWriteCompletion (dt : Nat) :
    Elapsed.Statement (.slotWriteCompletion dt) :=
  ⟨(fun h => nomatch h), (fun h => nomatch h)⟩

theorem Elapsed.frameLengthRejected (dt : Nat) (holds : List Nat) :
    Elapsed.Statement (.frameLengthRejected dt holds) :=
  ⟨(fun h => nomatch h), (fun h => nomatch h)⟩

theorem Elapsed.firstHoldWrongClass (dt : Nat) (held : Nat) :
    Elapsed.Statement (.firstHoldWrongClass dt held) :=
  ⟨(fun h => nomatch h), (fun h => nomatch h)⟩

theorem Elapsed.arbitrationWon (sent : SentMarks) :
    Elapsed.Statement (.arbitrationWon sent) :=
  ⟨(fun h => nomatch h), (fun h => nomatch h)⟩

theorem Elapsed.commandNotAddressed (dt : Nat) (kind : BitVec 4) (body : List Octet) :
    Elapsed.Statement (.commandNotAddressed dt kind body) :=
  ⟨(fun h => nomatch h), (fun h => nomatch h)⟩

theorem Elapsed.shoulderOtherAction (dt : Nat) (low high action : Octet) :
    Elapsed.Statement (.shoulderOtherAction dt low high action) :=
  ⟨(fun h => nomatch h), (fun h => nomatch h)⟩

theorem Elapsed.requestOtherType (dt : Nat) (station type lane count : Octet) :
    Elapsed.Statement (.requestOtherType dt station type lane count) :=
  ⟨(fun h => nomatch h), (fun h => nomatch h)⟩

end Sys2Proof.Laws
end

