-- ==== Sys2Proof/Tests/Slice0.lean ====
section
/-!
SUPPORT. Tests of single commands against the manual's worked examples, ill-formed commands, and for every statement
with hypotheses a state and operands that meet them (`witness_…`).
-/
namespace Sys2Proof.Tests
set_option Elab.async false
open Sys2Proof Sys2Proof.Machine

/-! ### Ill-formed commands, one for each check -/

def noOrder : Order := Order.plain
def order (early : List Reader) (swapped : Bool) (between late : List Reader) : Order :=
  { early := early, swapped := swapped, between := between, late := late }
def longBody : List Octet := List.replicate 31 0

theorem test_flaw_mark : (Instr.arbitrationWon ⟨0, []⟩).flaw = some .mark := by decide
theorem test_flaw_mark_lost : (Instr.arbitrationLost 0 ⟨List.replicate 12 10, 20⟩).flaw = some .mark := by decide
theorem test_flaw_bodyLength : (Instr.reportFrameHeard 0 3 24 longBody).flaw = some .bodyLength := by decide
theorem test_flaw_station : (Instr.neighbourExpiry 0 63).flaw = some .station := by decide
theorem test_flaw_hold : (Instr.lapse 0 [40, 500]).flaw = some .hold := by decide
theorem test_flaw_noHold : (Instr.frameAborted 0 []).flaw = some .noHold := by decide
theorem test_flaw_source : (Instr.statusFrame 0 2 0 [] noOrder).flaw = some .source := by decide
theorem test_flaw_kindAll : (Instr.faultAck 0 30 0 0).flaw = some .kindAll := by decide
theorem test_flaw_action : (Instr.shoulderOtherAction 0 1 62 2).flaw = some .action := by decide
theorem test_flaw_requestType : (Instr.requestOtherType 0 30 3 1 1).flaw = some .requestType := by decide
theorem test_flaw_commandKind : (Instr.commandNotAddressed 0 8 []).flaw = some .commandKind := by decide
theorem test_flaw_imageLength : (Instr.startUpCheck 0 (List.replicate 107 0)).flaw = some .imageLength := by decide +kernel
theorem test_flaw_visit : (Instr.intervalEnd 0 [.l1, .l1] []).flaw = some .visit := by decide
theorem test_flaw_firstHold : (Instr.firstHoldWrongClass 0 40).flaw = some .firstHold := by decide
theorem test_wellFormed_hold : (Instr.lapse 0 [40, 499]).wellFormed = true := by decide
theorem test_no_word_spells_a_command : decodeTableWord 16 0xA5 = none := rfl

/-! ### A station to test on -/

def laneCfg : LaneConfig := { loopB := true, spacing := 400, loopLength := 200, longThreshold := 700, sign := true }

/-- A three-lane image with the manual's defaults, no shoulder. -/
def cfg : StationConfig :=
  { laneCount := 3, shoulderLane := false, lanes := Lanes.const laneCfg, glitchMin := 50, presenceTimeout := 300
    chatterLimit := 20, intervalLength := 10, vff := 110, w := 2, wo := 4
    limit := ⟨100, 80, 70, 60, 50, 40⟩, sEnter := ⟨95, 75, 65, 55, 45, 35⟩, oEnter := ⟨180, 220, 260, 300, 350, 400⟩
    hs := 10, ho := 40, dwellCount := 3, minDisplay := 60, isolationStep := 3, queueSpeed := 35, queueOccupancy := 300
    confirmCount := 1, clearDwell := 3, shockSpeed := 30, runLength := 3, warningDistance := 3, queueStep := 5
    period := 2, upWindow := 2, downWindow := 4, expiryCount := 3, staleHold := 120, isolationTime := 20
    checkTime := 120, clearanceTime := 300, legendPanel := true, provingTimeout := 500, retryPeriod := 30 }

def showing : Channel := { Channel.reset with state := .showing, identified := true, nextSet := 14 }
def dualLane : LaneDetector := { LaneDetector.reset with mode := .dual, measured := true }

/-- Station 30 in RUNNING at 95 s, the interval from tick 900000 to tick 1000000 under way, every sign SHOWING BLANK and
an idle gap seen on the line. -/
def running : State :=
  { State.reset with
    clock := 95000000
    station := { Station.reset with mode := .running, straps := .number 30, config := some cfg, check := .usable
                                    restored := true, firstEvaluation := true }
    detector := { lanes := { Lanes.const LaneDetector.reset with l1 := dualLane, l2 := dualLane, l3 := dualLane }
                  intervalStart := 900000, intervalEnd := some 1000000 }
    line := { Line.reset with rx := { phase := .idle, gapSeen := true, digits := [] }
                              pubTimer := some 96000000, timerPeriod := 2 }
    neighbours := { entries := [], isolationTimer := some 110000000, isolation := false }
    composer := { Composer.reset with display := true }
    signs := { handedOver := true, lanes := ⟨showing, showing, showing, Channel.absent, Channel.absent⟩
               legend := showing, sent := [] } }

def withShoulder (s : State) : State :=
  s.setStation { s.station with config := some { s.cfg with shoulderLane := true } }

/-- The state a command leads to. -/
def after (i : Instr) (s : State) : State :=
  match exec i s with
  | .next t => t
  | _ => s

/-! ### Station control -/

/-- The straps of station 29: 0, 1, 1, 1, 0, 1. -/
def straps29 : Straps := ⟨.low, .high, .high, .high, .low, .high⟩

theorem test_powerOnReset_reads_the_straps : (after (.powerOnReset straps29) running).station.straps = .number 29 := by decide +kernel
theorem test_resetPin_open_strap : (after (.resetPin ⟨.high, .floating, .low, .low, .low, .low⟩) running).faults.entries =
    [{ kind := .configFault, unit := 0, firstSeen := 0, count := 1, active := true, acked := false }] := by decide +kernel

/-- Fields 1 to 29 of an image, 30 to 60, and 61 to 76 with the check code computed outside the model. -/
def image1 : List Octet :=
  [3, 0, 1, 1, 1, 1, 1, 1, 144, 1, 144, 1, 144, 1, 144, 1, 144, 0, 200, 0, 200, 0, 200, 0, 200, 0, 200,
   2, 188, 2, 188, 2, 188, 2, 188, 2, 188, 50, 1, 44, 20, 10, 110, 2, 4]
def image2 : List Octet :=
  [100, 80, 70, 60, 50, 40, 95, 75, 65, 55, 45, 35, 0, 180, 0, 220, 1, 4, 1, 44, 1, 94, 1, 144,
   10, 40, 3, 0, 60, 3, 35, 1, 44, 1, 3, 30, 3, 3, 5]
def image3 : List Octet := [2, 2, 4, 3, 0, 120, 20, 0, 120, 1, 44, 1, 1, 1, 1, 1, 1, 1, 244, 30, 86, 185]
def image : List Octet := image1 ++ image2 ++ image3

def starting : State := after (.powerOnReset straps29) State.reset

theorem test_check_of_the_standard_string :
    checkOctets [0x31, 0x32, 0x33, 0x34, 0x35, 0x36, 0x37, 0x38, 0x39] = 0x29B1 := by decide +kernel
theorem test_startUpCheck_takes_the_image : (after (.startUpCheck 40000 image) starting).station.config = some cfg := by decide +kernel
theorem test_startUpCheck_sends_identify : (after (.startUpCheck 40000 image) starting).signs.sent =
    [(.lane .l1, .identify), (.lane .l2, .identify), (.lane .l3, .identify), (.legend, .identify)] := by decide +kernel
theorem test_startUpCheck_failed_image : (after (.startUpCheck 40000 (image.set 0 4)) starting).mode = .configFault := by decide +kernel

/-- The slots of section 11.6.1 when station 29 starts: slot 1 VALID (30, 17), slot 2 WRITING, slot 3 VALID with a bad
check; slot 1's check was computed outside the model. -/
def slot30 : RetentionSlot := { marker := 0xA5, image := ⟨30, 17, 24, 76⟩, check := 0x4AFC }
def restoring : State :=
  { starting with
    clock := 40000
    station := { starting.station with config := some cfg, check := .usable }
    retention := { starting.retention with
                   slots := { starting.retention.slots with p1 := slot30
                                                            p2 := { slot30 with marker := 0x5A }
                                                            p3 := { slot30 with check := 0x4AFD } } } }
def closure30 : Closure := { origin := 30, serial := 17, lanes := 24, taper := 2, extent := 1, step := 4, source := .retained }

theorem test_restoreComplete_closures : (after (.restoreComplete 20000) restoring).closures.toList =
    [some closure30, none, none, none, none, none, none, none] := by decide +kernel
theorem test_restoreComplete_faults :
    (after (.restoreComplete 20000) restoring).faults.entries.map (fun e => (e.kind, e.unit, e.active)) =
      [(.retentionInterrupted, 2, false), (.retentionCorrupt, 3, false)] := by decide +kernel

/-- Table 11-2 at 0.210 s: every configured channel SHOWING, the restore complete. -/
def identified : State :=
  { starting with
    clock := 210000
    station := { starting.station with config := some cfg, check := .usable, restored := true }
    closures := { Slots.const none with p1 := some closure30 }
    signs := running.signs }

theorem test_warmingEntry_warm_up : (after (.warmingEntry 0) identified).station.warmUp = some 6210000 := by decide +kernel
theorem test_warmingEntry_plan : (after (.warmingEntry 0) identified).speed.planStep = 4 := by decide +kernel

def warming : State :=
  { running with station := { running.station with mode := .warming, warmUp := some 95000000, firstEvaluation := true } }
def warmedUp : State := after (.warmUpTimerExpiry 0) warming

theorem test_warmUpTimerExpiry : (after (.warmUpTimerExpiry 0) warming).station.warmedUp = true := by decide +kernel
theorem test_warmingExit_running : (after (.warmingExit 0 false noOrder) warmedUp).mode = .running := by decide +kernel
theorem test_warmingExit_isolated :
    (after (.warmingExit 0 false noOrder) { warmedUp with neighbours := { warmedUp.neighbours with isolation := true } }).mode =
      .isolated := by decide +kernel

/-- Table 11-3: the clear of position 2 while its slot is VALID starts the write at once. -/
def slot27 : RetentionSlot := { marker := 0xA5, image := ⟨27, 5, 1, 58⟩, check := 0 }
def emptying : State :=
  { running with retention := { slots := { Slots.const RetentionSlot.delivered with p2 := { slot27 with marker := 0x5A }, p3 := slot30 }
                                dirty := { Slots.const false with p3 := true }, write := some { slot := .p2, latched := none } } }

theorem test_slotWriteCompletion_empties : (after (.slotWriteCompletion 5) emptying).retention.slots.p2.marker = 0x3C := by decide +kernel
theorem test_slotWriteCompletion_goes_on :
    (after (.slotWriteCompletion 5) emptying).retention.write = some { slot := .p3, latched := none } := by decide +kernel

/-! ### Detectors: lane 2 of section 1.8 -/

/-- Station 30 at a tick of the interval from 0 to 100000, with a list, a loop presence of lane 2 and sums. -/
def lane2At (tick : Nat) (f : LaneDetector → LaneDetector) : State :=
  { running with
    clock := tick * 100
    inputs := Lanes.const { a := true, b := true }
    detector := { lanes := { running.detector.lanes with l2 := f dualLane }, intervalStart := 0, intervalEnd := some 100000 } }
def entry (on : Tick) (off bOn : Option Tick) : Arrival := { on := on, off := off, bOn := bOn, resolved := false }
def unqualified (on : Tick) : LoopRecord := { LoopRecord.reset with presence := some { on := on, qualified := false, timing := false } }
def held (on : Tick) : LoopRecord := { LoopRecord.reset with presence := some { on := on, qualified := true, timing := true } }
def loopA2 : Loop := { lane := .l2, side := .a }
def loopB2 : Loop := { lane := .l2, side := .b }
def lane2 (s : State) : LaneDetector := s.detector.lanes.l2

theorem test_loopPresenceStart :
    (lane2 (after (.loopPresenceStart 0 loopA2) { lane2At 10000 id with inputs := Lanes.const { a := false, b := false } })).a.presence =
      some { on := 10000, qualified := false, timing := false } := by decide +kernel
theorem test_qualifiedOnEdge_appends :
    (lane2 (after (.qualifiedOnEdge 5000 loopA2) (lane2At 10000 (fun d => { d with a := unqualified 10000 })))).arrivals =
      [entry 10000 none none] := by decide +kernel
theorem test_qualifiedOnEdge_pairs :
    (lane2 (after (.qualifiedOnEdge 0 loopB2)
      (lane2At 11490 (fun d => { d with b := unqualified 11440, arrivals := [entry 10000 none none] })))).arrivals =
      [entry 10000 none (some 11440)] := by decide +kernel
theorem test_releaseEdge_completes :
    (lane2 (after (.releaseEdge 0 loopA2)
      (lane2At 12700 (fun d => { d with a := held 10000, mark := some 10000, arrivals := [entry 10000 none (some 11440)] })))).sums =
      { Sums.zero with n := 1, m := 1, sumT := 1440, sumOn := 2700 } := by decide +kernel
/-- R3: with equal raw on times loop A comes first, whichever command does, so that the two edges pair with T = 0. -/
theorem test_qualifiedOnEdge_tie :
    (lane2 (after (.qualifiedOnEdge 0 loopB2)
      (lane2At 10050 (fun d => { d with a := unqualified 10000, b := unqualified 10000 })))).arrivals =
      [entry 10000 none (some 10000)] := by decide +kernel
theorem test_releaseEdge_glitch :
    (lane2 (after (.releaseEdge 0 loopA2) (lane2At 10049 (fun d => { d with a := unqualified 10000 })))).a.glitches = 1 := by decide +kernel
theorem test_presenceTimeout_stuck :
    (after (.presenceTimeout 0 loopA2 false) (lane2At 3010000 (fun d => { d with a := held 10000 }))).faults.entries.map
      (fun e => (e.kind, e.unit, e.active)) = [(.loopStuck, 3, true)] := by decide +kernel
theorem test_presenceTimeout_mode :
    (lane2 (after (.presenceTimeout 0 loopA2 false) (lane2At 3010000 (fun d => { d with a := held 10000 })))).mode =
      .singleB := by decide +kernel
theorem test_pairingDeadline_completes :
    (lane2 (after (.pairingDeadline 0 .l2)
      (lane2At 68851 (fun d => { d with arrivals := [entry 40000 (some 42700) none]
                                        sums := { Sums.zero with n := 3, m := 3, sumT := 14480, sumOn := 10100 } })))).sums =
      { Sums.zero with n := 4, m := 3, sumT := 14480, sumOn := 10100 } := by decide +kernel
theorem test_pairingDeadline_not_yet :
    (lane2 (after (.pairingDeadline 0 .l2) (lane2At 68850 (fun d => { d with arrivals := [entry 40000 (some 42700) none] })))).arrivals =
      [entry 40000 (some 42700) none] := by decide +kernel

/-- Section 2.8: lane 2's sums at the interval end. -/
def sums28 : Sums := { n := 5, m := 5, sumT := 7480, sumOn := 14100, nLong := 0, implausible := 0 }
def snap28 : Snapshot :=
  { n := 5, m := 5, sumT := 7480, sumOn := 14100, nLong := 0, covered := 100000, measured := true, merges := 0 }

theorem test_intervalEnd_hands_over :
    (after (.intervalEnd 0 [] []) (lane2At 100000 (fun d => { d with sums := sums28 }))).requests.filter (Request.isIntervalOf .l2) =
      [.interval .l2 snap28] := by decide +kernel
/-- The example after R16: a presence from 99000 adds 1000 ticks to the interval that ends at 100000. -/
theorem test_intervalEnd_splits_a_presence :
    (after (.intervalEnd 0 [] []) (lane2At 100000 (fun d => { d with a := held 99000, mark := some 99000 }))).requests.filterMap
      (fun r => match r with | .interval .l2 x => some x.sumOn | _ => none) = [1000] := by decide +kernel

/-! ### Arithmetic unit: sections 2.4 and 2.8 -/

def vehicle (transit onA : Nat) : VehicleRequest :=
  { lane := .l2, spacing := 400, transit := transit, onA := onA, loopLength := 200, longThreshold := 700, seconds := 94, tick := 940000 }
def tracing : Trace := { Trace.reset with state := .capturing, lane := 2, requested := 5 }
def vehicleAt (transit onA : Nat) : State := { running with requests := [.vehicle (vehicle transit onA)], trace := tracing }

theorem test_vehicle_mispaired : (after (.vehicleRequestCompletion 0 noOrder) (vehicleAt 11440 2300)).trace.records.map (·.result) =
    [.measured 12 false 0 .short] := by decide +kernel
theorem test_vehicle_fast : (after (.vehicleRequestCompletion 0 noOrder) (vehicleAt 500 700)).trace.records.map (·.result) =
    [.measured 250 true 360 .short] := by decide +kernel

def record28 : LaneRecord := { LaneRecord.reset with s := some 104, os := some 120 }
def intervalAt (x : Snapshot) (rest : List Request) : State :=
  { running with requests := .interval .l2 x :: rest, records := { running.records with l2 := record28 } }

theorem test_interval_record : (after (.intervalRequestCompletion 0 noOrder) (intervalAt snap28 [])).records.l2 =
    { q := some 1800, o := some 141, v := some 96, empty := false, merged := false, nLong := 0, s := some 102, os := some 130 } := by
  decide +kernel
/-- Table 5-2, evaluation 1, read at the station's only measured lane. -/
theorem test_interval_demand :
    (after (.intervalRequestCompletion 0 noOrder)
      { intervalAt { snap28 with measured := false } [] with
        records := { running.records with l2 := { LaneRecord.reset with s := some 58, os := some 210 } } }).speed.demand = 3 := by decide +kernel

/-- Table 1-4's records E1 to E3 in the trace, with a place free in the reply queue. -/
def traced (n : Nat) : State :=
  { running with trace := { tracing with state := .draining, requested := n, captured := n
                                         records := List.replicate n { lane := .l2, seconds := 94, tick := 940000, onA := 2700
                                                                       result := .measured 100 false 550 .short } } }
theorem test_traceFramePlaced_length : (after (.traceFramePlaced 0) (traced 5)).line.replies.map List.length = [30] := by decide +kernel
theorem test_traceFramePlaced_ends : (after (.traceFramePlaced 0) (traced 4)).trace.state = .idle := by decide +kernel

/-! ### Corridor line -/

def quietLine (s : State) (f : Line → Line) : State := s.setLine (f s.line)
def waitingLine : State := quietLine running (fun l => { l with pending := true, tx := .waiting })
def statusFrame22 : Frame := Frame.checked classRoutine kindStatus 22 []
def arbitrating (f : Frame) : State :=
  quietLine running (fun l => { l with pending := true, tx := .arbitrating, txFrame := some f, rx := { l.rx with gapSeen := false } })
def sending (f : Frame) : State := quietLine (arbitrating f) (fun l => { l with tx := .sending })
/-- The holds of marks sent for digits: a short mark 1 unit, a long one 2 units. -/
def sentHolds (ds : List Bool) : List Nat := ds.map (fun d => if d then 10 else 20)
def header22 : List Nat := sentHolds statusFrame22.headerDigits
def body22 : List Nat := sentHolds statusFrame22.bodyDigits
def unheard : State := quietLine running (fun l => { l with rx := { l.rx with gapSeen := false }, gapFrom := 95000000 })

theorem test_idleGap_at_12_units : (after (.idleGap 120) unheard).line.rx.gapSeen = true := by decide +kernel
theorem test_idleGap_not_before : (after (.idleGap 119) unheard).line.rx.gapSeen = false := by decide +kernel
theorem test_transmitStart_class : (after (.transmitStart 0) (quietLine waitingLine (fun l => { l with urgent := true }))).line.txFrame.map
    (fun f => (f.cls, f.kind, f.source)) = some (0, 1, 30) := by decide +kernel
/-- 1.5 units after the start of a mark, a long one holds the line and a short one does not (R41). -/
theorem test_sample_of_a_short_mark : sampleMay true 10 = false ∧ sampleMay false 10 = true ∧ sampleMay true 20 = true ∧
    sampleMay false 20 = false := by decide
theorem test_arbitrationLost_a_released_sample :
    (after (.arbitrationLost 0 ⟨[], 10⟩) (arbitrating statusFrame22)).line.tx = .arbitrating := by decide +kernel
/-- Table 3-4: station 22's first mark is sent short and reads held. -/
theorem test_arbitrationLost_first_mark : (after (.arbitrationLost 0 ⟨[], 20⟩) (arbitrating statusFrame22)).line.rx.digits = [false] := by
  decide +kernel
theorem test_arbitrationWon : (after (.arbitrationWon ⟨0, header22⟩) (arbitrating statusFrame22)).line.tx = .sending := by decide +kernel
theorem test_transmitAbort_hold : (after (.transmitAbort 0 (.sample [] 10)) (sending statusFrame22)).line.abortHold = some 95000060 := by
  decide +kernel
theorem test_abortHoldEnd_waits :
    (after (.abortHoldEnd 60) (after (.transmitAbort 0 (.sample [] 10)) (sending statusFrame22))).line.tx = .waiting := by decide +kernel
theorem test_transmitComplete_restarts_the_timer :
    (after (.transmitComplete ⟨0, body22⟩) (sending statusFrame22)).line.pubTimer = some 97000000 := by decide +kernel
theorem test_transmitComplete_keeps_a_new_urgent_flag :
    (after (.transmitComplete ⟨0, body22⟩) (quietLine (sending statusFrame22) (fun l => { l with urgent := true, urgentAgain := true }))).line.urgent =
      true := by decide +kernel
theorem test_publicationTimerExpiry : (after (.publicationTimerExpiry 1000000) running).line.tx = .waiting := by decide +kernel
theorem test_lapse_counts : (after (.lapse 110 [40, 10, 20]) running).line.rejected = 1 := by decide +kernel
/-- R45: a lapse takes 4 released units, which begin no sooner than the sample that read held. -/
theorem test_lapse_after_a_lost_arbitration :
    let s := after (.arbitrationLost 0 ⟨[], 20⟩) (arbitrating statusFrame22)
    (after (.lapse 25 []) s).line.rejected = 0 ∧ (after (.lapse 40 []) s).line.rejected = 1 := by decide +kernel
/-- R41, R45: a start hold may be on the line at the idle gap, and noise does not end a released time. -/
theorem test_lapse_and_noise :
    let s := after (.idleGap 120) unheard
    (after (.lapse 40 [40]) s).line.rejected = 1 ∧ (after (.lapse 49 [40, 10, 3]) s).line.rejected = 0 ∧
      (after (.lapse 50 [40, 10, 3]) s).line.rejected = 1 := by decide +kernel
theorem test_frameAborted_by_a_break : (after (.frameAborted 0 [40, 10, 25]) running).line.rejected = 1 := by decide +kernel
theorem test_frameRejected_bad_check : (after (.frameRejected 0 2 1 24 [] 0) running).line.rejected = 1 := by decide +kernel
/-- Length digits 1, 1, 1, 1, 1: 31 octets. -/
theorem test_frameLengthRejected :
    (after (.frameLengthRejected 0 (40 :: List.replicate 17 10)) running).line.rejected = 1 := by decide +kernel
theorem test_firstHoldWrongClass : (after (.firstHoldWrongClass 0 14) running).line.rx.gapSeen = false := by decide +kernel
theorem test_lineStuck_isolates : (after (.lineStuck 500 [] noOrder) running).mode = .isolated := by decide +kernel
theorem test_lineStuck_not_before_50_units :
    (after (.lineStuck 499 [] noOrder) (quietLine running (fun l => { l with heldFrom := 95000000 }))).line.stuck = false := by decide +kernel
/-- R48: a hold may be on the line when the idle gap is seen, begun since the last release. -/
theorem test_lineStuck_of_a_hold_at_the_gap :
    let s := after (.idleGap 120) unheard
    (after (.lineStuck 379 [] noOrder) s).line.stuck = false ∧ (after (.lineStuck 380 [] noOrder) s).line.stuck = true := by decide +kernel
/-- R50: a long header mark still held at the end of its slot runs on into the mark that loses. -/
theorem test_lineStuck_after_a_lost_arbitration :
    let s := after (.arbitrationLost 0 ⟨[20, 20, 20, 20, 31], 20⟩) (arbitrating (Frame.checked 0 1 23 []))
    (after (.lineStuck 454 [] noOrder) s).line.stuck = false ∧ (after (.lineStuck 455 [] noOrder) s).line.stuck = true := by decide +kernel
theorem test_lineStuckEnd_keeps_isolation :
    (after (.lineStuckEnd 0) (after (.lineStuck 500 [] noOrder) running)).neighbours.isolation = true := by decide +kernel

/-! ### Neighbours -/

/-- A three-lane RUNNING station's record with a plan step. -/
def statusOf (step : Nat) : StatusRecord :=
  { mode := .running, laneCount := 3, faults := 0, activeFaults := 0, overflow := false, planStep := some step, demandStep := some 0
    queueFlag := some false, shoulder := some .none, lanes := List.replicate 3 { aspect := some .blank, displaced := false, takenOver := false }
    rejected := some 0, lastKind := none, lastResult := none, displacedStep := none, ownClosure := none, held := [] }
def withEntry (n : Nat) (r : StatusRecord) (arrival : Nat) : State :=
  { running with neighbours := { running.neighbours with
      entries := [{ station := n, record := r, arrival := arrival, state := .live, void := false }] } }

/-- Table 5-5: station 24's step of 5 gives the station two hops upstream a bound of 3. -/
theorem test_statusFrame_funnel : (after (.statusFrame 0 2 32 (statusOf 5).body noOrder) running).speed.planStep = 3 := by decide +kernel
theorem test_statusFrame_outside_the_window :
    (after (.statusFrame 0 2 35 (statusOf 5).body noOrder) running).neighbours.entries = [] := by decide +kernel
theorem test_reportFrameHeard_restarts_the_isolation_timer :
    (after (.reportFrameHeard 0 3 24 []) running).neighbours.isolationTimer = some 115000000 := by decide +kernel
/-- Table 4-4: an entry of 89 s expires at 95 s and is removed at 215 s. -/
theorem test_neighbourExpiry : (after (.neighbourExpiry 0 31) (withEntry 31 (statusOf 0) 89000000)).neighbours.entries.map (·.state) =
    [.stale] := by decide +kernel
theorem test_neighbourRemoval :
    (after (.neighbourRemoval 120000000 31 noOrder) (withEntry 31 (statusOf 0) 89000000)).faults.entries.map (fun e => (e.kind, e.unit, e.active)) =
      [(.neighbourLost, 31, true)] := by decide +kernel
theorem test_isolationTimerExpiry_step : (after (.isolationTimerExpiry 15000000 noOrder) running).speed.planStep = 3 := by decide +kernel

/-! ### Speed control: section 5.4.1 -/

theorem test_holdExpiry_falls_to_the_bound :
    (after (.holdExpiry 0) { running with speed := { running.speed with planStep := 6, bound := 4, heldSince := 35000000
                                                                        demand := 4 } }).speed.planStep = 4 := by decide +kernel
/-- R88: two changes to bounds of 3 and 1 at the moment of the expiry, taken before it, leave one fall, to 1; taken after it,
the first falls at once. -/
def demanding (n : Nat) (s : State) : State := (s.setSpeed { s.speed with demand := n }).applyBound
def expiring : State := { running with speed := { running.speed with planStep := 4, bound := 4, heldSince := 35000000, demand := 4 } }
theorem test_changes_before_the_expiry :
    (demanding 1 (demanding 3 expiring)).speed.planStep = 4 ∧
      (after (.holdExpiry 0) (demanding 1 (demanding 3 expiring))).speed.planStep = 1 := by decide +kernel
theorem test_changes_after_the_expiry : (demanding 1 (demanding 3 (after (.holdExpiry 0) expiring))).speed.planStep = 3 := by decide +kernel
theorem test_override_sets_the_step :
    (after (.override 0 30 30 6 0 1 noOrder) running).speed.override = some { step := 6, legend := .none, expires := 155000000 } := by
  decide +kernel
theorem test_override_of_duration_0_holds_the_step :
    (after (.override 0 1 62 6 0 0 noOrder)
      { running with speed := { running.speed with planStep := 6, bound := 6, heldSince := 70000000
                                                   override := some { step := 6, legend := .none, expires := 155000000 } } }).speed.planStep = 6 := by
  decide +kernel
theorem test_overrideExpiry :
    (after (.overrideExpiry 60000000 noOrder)
      { running with speed := { running.speed with planStep := 6, bound := 6, heldSince := 70000000
                                                   override := some { step := 6, legend := .none, expires := 155000000 } } }).speed.bound = 0 := by
  decide +kernel

/-! ### Closures: sections 7.9 and 7.10 -/

def ownOf (s : State) (n : Nat) : State := s.setStation { s.station with straps := .number n }
def entry30 : Closure := { origin := 30, serial := 17, lanes := 24, taper := 2, extent := 1, step := 4, source := .command }
def closing (n : Nat) : State := { ownOf running n with closures := { Slots.const none with p1 := some entry30 } }

theorem test_closeSet_inserts :
    (after (.closeSet 0 30 17 24 2 1 4 noOrder) (ownOf running 28)).closures.toList.filterMap id = [entry30] := by decide +kernel
theorem test_closeSet_outside_its_reach :
    (after (.closeSet 0 30 17 24 2 1 4 noOrder) (ownOf running 27)).station.lastCommand = none := by decide +kernel
theorem test_closeClear_removes : (after (.closeClear 0 30 17 noOrder) (closing 28)).closures.toList.filterMap id = [] := by decide +kernel
theorem test_closeClear_other_serial : (after (.closeClear 0 30 18 noOrder) (closing 28)).station.lastCommand =
    some { kind := .closeClear, result := .refusedSerial } := by decide +kernel

/-- Table 7-3, stations 28 and 30, on five lanes. -/
def fiveLanes (n : Nat) : State :=
  { (closing n).setStation { (closing n).station with config := some { cfg with laneCount := 5 } } with
    speed := { running.speed with planStep := 4, bound := 4 } }
theorem test_compose_taper : (fiveLanes 28).compose.aspects = ⟨.limit 4, .limit 4, .limit 4, .mergeNear, .mergeNear⟩ := by decide +kernel
theorem test_compose_closed_section : (fiveLanes 30).compose.aspects = ⟨.limit 4, .limit 4, .limit 4, .closed, .closed⟩ := by decide +kernel

/-! ### Shoulder: Table 8-3 -/

def shoulderAt (x : ShoulderState) : State :=
  { withShoulder running with
    shoulder := { state := x
                  checkTimer := if x = .checking then some 95000000 else none
                  clearanceTimer := if x = .closing then some 95000000 else none } }

theorem test_shoulderOpen_checks : (after (.shoulderOpen 0 30 30 noOrder) (shoulderAt .closed)).shoulder =
    { state := .checking, checkTimer := some 215000000, clearanceTimer := none } := by decide +kernel
theorem test_shoulderOpen_without_a_shoulder : (after (.shoulderOpen 0 30 30 noOrder) running).station.lastCommand =
    some { kind := .shoulder, result := .refusedConfig } := by decide +kernel
theorem test_shoulderClose_clears : (after (.shoulderClose 0 30 30 noOrder) (shoulderAt .opened)).shoulder =
    { state := .closing, checkTimer := none, clearanceTimer := some 395000000 } := by decide +kernel
theorem test_checkTimerExpiry : (after (.checkTimerExpiry 0) (shoulderAt .checking)).shoulder.state = .opened := by decide +kernel
theorem test_clearanceTimerExpiry : (after (.clearanceTimerExpiry 0) (shoulderAt .closing)).shoulder.state = .closed := by decide +kernel
/-- At 45 s of Table 8-3 a qualified on edge of loop 1 ends the check. -/
theorem test_qualifiedOnEdge_ends_the_check :
    (after (.qualifiedOnEdge 5000 { lane := .l1, side := .a })
      { shoulderAt .checking with
        detector := { running.detector with lanes := { running.detector.lanes with l1 := { dualLane with a := unqualified 950000 } } } }).faults.entries.map
      (·.kind) = [.shoulderCheckFailed] := by decide +kernel
theorem test_shoulderOtherAction : (after (.shoulderOtherAction 0 30 30 3) (shoulderAt .closed)).station.lastCommand =
    some { kind := .shoulder, result := .refusedRange } := by decide +kernel

/-! ### Sign channels: Table 10-4 -/

def chan3 : Chan := .lane .l3
def closedPlan : Plan := { Plan.allBlank with aspects := { Plan.allBlank.aspects with l3 := .closed }, legend := .lanesClosed, flashers := true }
/-- Lane 3 CLOSED in both plans, its channel as given. -/
def signAt (x : Channel) : State :=
  { running with composer := { running.composer with next := closedPlan, active := closedPlan }
                 signs := { running.signs with lanes := { running.signs.lanes with l3 := x } } }
def setting : Channel := { showing with state := .setting, nextSet := 15, attempt := some { set := 14, deadline := 95500000 } }
def failedSign : Channel := { showing with state := .failed, reason := some .failed, nextSet := 15, retryAt := some 125000000 }
def identifying : Channel := { Channel.reset with identifyBy := some 95500000 }

theorem test_restartNotice_sets_again : (after (.restartNotice 0 chan3 1 0x5E9B false) (signAt showing)).signs.sent =
    [(chan3, .laneAspect 14 .closed 0)] := by decide +kernel
theorem test_restartNotice_other_kind : (after (.restartNotice 0 chan3 2 0x6EF8 false) (signAt showing)).signs.lanes.l3.state = .mismatch := by
  decide +kernel
theorem test_provingDeadline_fails : (after (.provingDeadline 500000 chan3 false) (signAt setting)).signs.lanes.l3 =
    { failedSign with retryAt := some 125500000 } := by decide +kernel
theorem test_provingDeadline_displaces : (after (.provingDeadline 500000 chan3 false) (signAt setting)).line.urgent = true := by decide +kernel
theorem test_retryTimerExpiry : (after (.retryTimerExpiry 30000000 chan3) (signAt failedSign)).signs.lanes.l3.attempt =
    some { set := 15, deadline := 125500000 } := by decide +kernel
theorem test_provingReport_stale : (after (.provingReport 0 chan3 14 1 0x1714 false) (signAt failedSign)).signs.lanes.l3 = failedSign := by
  decide +kernel
theorem test_provingReport_partial :
    (after (.provingReport 0 chan3 14 2 0x2777 false) (signAt setting)).faults.entries.map (fun e => (e.kind, e.unit, e.active, e.count)) =
      [(.signDegraded, 3, false, 1)] := by decide +kernel
theorem test_identity_shows_blank : (after (.identity 0 chan3 1 0x38F9 false) (signAt identifying)).signs.sent =
    [(chan3, .laneAspect 0 .blank 0)] := by decide +kernel
theorem test_identity_other_kind : (after (.identity 0 chan3 2 0x089A false) (signAt identifying)).faults.entries.map (·.kind) =
    [.signMismatch] := by decide +kernel
theorem test_identificationDeadline : (after (.identificationDeadline 500000 chan3) (signAt identifying)).signs.lanes.l3.reason =
    some .noResponse := by decide +kernel

/-! ### Centre: section 12.5.1 -/

/-- Sixteen entries, the first six active, and one report waiting. -/
def fullList : State :=
  { ownOf running 17 with
    line := { running.line with replies := [[0]], tx := .waiting }
    faults := { entries := (List.range 6).map (fun i => { kind := .loopStuck, unit := i + 1, firstSeen := 0, count := 1, active := true, acked := false }) ++
                  (List.range 10).map (fun i => { kind := .configClamped, unit := i + 1, firstSeen := 0, count := 1, active := false, acked := false })
                overflow := true } }

theorem test_requestFaults_busy : (after (.requestFaults 0 17 0 0) fullList).station.lastCommand =
    some { kind := .request, result := .busy } := by decide +kernel
theorem test_faultAckAll_leaves_the_active :
    ((after (.faultAckAll 0 17 0) fullList).faults.entries.map (·.acked), (after (.faultAckAll 0 17 0) fullList).faults.overflow) =
      (List.replicate 6 true, false) := by decide +kernel
theorem test_requestFaults_two_places : (after (.idleGap 120) (after (.faultAckAll 0 17 0) fullList)).line.rx.gapSeen = true ∧
    (after (.requestFaults 0 17 0 0) (after (.idleGap 120) (after (.faultAckAll 0 17 0) fullList))).line.replies.length = 3 := by
  decide +kernel
theorem test_faultAck_unknown_kind : (after (.faultAck 0 17 16 0) fullList).station.lastCommand =
    some { kind := .faultAck, result := .refusedRange } := by decide +kernel
theorem test_requestLanes_one_frame : (after (.requestLanes 0 30 0 0) running).line.replies.map List.length = [19] := by decide +kernel
theorem test_requestTrace_captures : (after (.requestTrace 0 30 2 32) running).trace.requested = 32 := by decide +kernel
theorem test_requestTrace_too_many : (after (.requestTrace 0 30 2 33) running).station.lastCommand =
    some { kind := .request, result := .refusedRange } := by decide +kernel
theorem test_requestOtherType : (after (.requestOtherType 0 30 4 1 1) running).station.lastCommand =
    some { kind := .request, result := .refusedRange } := by decide +kernel
theorem test_commandNotAddressed : (after (.commandNotAddressed 0 3 [30]) running).line.rejected = 0 ∧
    (after (.commandNotAddressed 0 3 [30]) running).station.lastCommand = none := by decide +kernel

/-! ### Orders of blocks that act together (log 3) -/

/-- A station whose hold has expired, with a bound of 4 from the neighbour two hops away and a closure of step 3 learned from
it. A record without either ends both terms, and speed control may take the report of the first before the second ends. -/
def falling : State :=
  let s := withEntry 32 (statusOf 6) 94000000
  { s with speed := { s.speed with planStep := 4, bound := 4, heldSince := 1000000 }
           closures := { Slots.const none with
             p1 := some { origin := 32, serial := 17, lanes := 2, taper := 2, extent := 1, step := 3, source := .learned } } }
theorem test_statusFrame_between :
    (after (.statusFrame 0 2 32 (statusOf 0).body (order [] false [.speed] [])) falling).speed.planStep = 3 ∧
      (after (.statusFrame 0 2 32 (statusOf 0).body noOrder) falling).speed.planStep = 0 := by decide +kernel
/-- R62: the closure table takes the frame first, and a commit shows its change alone. -/
theorem test_statusFrame_learn_first :
    let s := { falling with composer := { falling.composer with next := falling.compose, active := falling.compose } }
    (after (.statusFrame 0 2 32 (statusOf 0).body (order [] true [.composer] [])) s).composer.active.aspects.l1 = .limit 4 ∧
      (after (.statusFrame 0 2 32 (statusOf 0).body (order [] false [.speed, .composer] [])) s).composer.active.aspects.l1 = .limit 3 := by
  decide +kernel
/-- R96: the queue clears, and speed control takes the end of its term before the demand evaluation. -/
def clearing : State :=
  { intervalAt snap28 [] with
    queue := { QueueMonitor.reset with state := .present, clearCount := 2, term := true }
    speed := { running.speed with planStep := 5, bound := 5, heldSince := 1000000, demand := 3, dwell := 2 }
    records := { running.records with l2 := { LaneRecord.reset with s := some 102, os := some 130 } } }
theorem test_interval_queue_first :
    (after (.intervalRequestCompletion 0 (order [] true [.queue, .speed] [])) clearing).speed.planStep = 3 ∧
      (after (.intervalRequestCompletion 0 noOrder) clearing).speed.planStep = 2 := by decide +kernel
/-- R101 with a clear dwell of 1: a failing evaluation after the shock of its moment leaves the queue PRESENT with a clear
counter of 1; a later one clears it. -/
def shocked : State :=
  (running.setStation { running.station with config := some { cfg with clearDwell := 1 } }).fireShock
theorem test_evaluation_after_a_shock :
    shocked.evaluateQueue.queue.state = .present ∧ shocked.evaluateQueue.queue.clearCount = 1 ∧
      (shocked.evaluateQueue.advance 1).evaluateQueue.queue.state = .clear ∧ (shocked.advance 1).evaluateQueue.queue.state = .clear := by
  decide +kernel
/-- R104: the composer commits the new plan step before it takes the QUEUE candidate. -/
theorem test_vehicle_step_without_legend :
    let s := { vehicleAt 4966 9000 with queue := { QueueMonitor.reset with runs := Lanes.const 2 } }
    (after (.vehicleRequestCompletion 0 (order [] false [] [.queue, .speed, .plan])) s).composer.active.legend = .none ∧
      (after (.vehicleRequestCompletion 0 noOrder) s).composer.active.legend = .queue := by decide +kernel
/-- R130, R163: the composer commits the isolation step before the shoulder's forced closing. -/
theorem test_isolation_before_the_shoulder :
    (after (.isolationTimerExpiry 15000000 (order [] false [] [.speed, .composer])) (shoulderAt .opened)).composer.active.aspects.l1 =
      .limit 3 := by decide +kernel
/-- R182: in WARMING before an evaluation LANES reports every result absent, and the merged mark and n_long as they stand. -/
def beforeEvaluation (r : LaneRecord) : State :=
  { running with station := { running.station with mode := .warming, firstEvaluation := false }
                 records := { running.records with l2 := r } }
theorem test_requestLanes_before_an_evaluation :
    let r := { record28 with q := some 1800, o := some 141, v := some 96, merged := true, nLong := 3 }
    (beforeEvaluation r).lanesReport = (beforeEvaluation { LaneRecord.reset with merged := true, nLong := 3 }).lanesReport ∧
      (beforeEvaluation r).lanesReport ≠ (beforeEvaluation LaneRecord.reset).lanesReport := by decide +kernel

/-! ### Witnesses of the invariants: station 30 in RUNNING is sound, and steps -/

def stepping : State := { running with pending := [.idleGap 120] }

theorem witness_StepTakesTheFrontCommand_idle : State.reset.pending = [] := rfl
theorem witness_step_answers : ∃ t, step stepping = .next t := ⟨_, rfl⟩
theorem witness_EveryCommandRunsAndTimePasses : ∃ t, exec (.idleGap 120) running = .next t := ⟨_, rfl⟩
theorem witness_ModeChangesFollowTheTable_reset :
    isReset (.powerOnReset straps29) = true ∧ ∃ t, exec (.powerOnReset straps29) running = .next t := ⟨rfl, _, rfl⟩
theorem witness_ModeChangesFollowTheTable_other :
    isReset (.lineStuck 500 [] noOrder) = false ∧ ∃ t, exec (.lineStuck 500 [] noOrder) running = .next t := ⟨rfl, _, rfl⟩

def isolated : State := after (.isolationTimerExpiry 15000000 noOrder) running
/-- Each change of Table 11-1 occurs by its cause. -/
theorem witness_ModeChangesFollowTheTable_causes :
    starting.mode = .starting ∧ (after (.startUpCheck 40000 (image.set 0 4)) starting).mode = .configFault ∧
      identified.mode = .starting ∧ (after (.warmingEntry 0) identified).mode = .warming ∧
      warmedUp.mode = .warming ∧ (after (.warmingExit 0 false noOrder) warmedUp).mode = .running ∧
      running.mode = .running ∧ isolated.mode = .isolated ∧ (after (.lineStuck 500 [] noOrder) running).mode = .isolated ∧
      (after (.reportFrameHeard 0 3 24 []) isolated).mode = .running := by decide +kernel
theorem witness_FaultListStaysSound : fullList.faults.sound := by
  unfold FaultList.sound FaultEntry.sound; decide +kernel
theorem witness_RequestQueueStaysWithinItsPlaces :
    requestsSound (List.replicate 7 (.vehicle (vehicle 1440 2700)) ++ Lane.all.map (fun k => .interval k snap28)) := by
  unfold requestsSound; decide +kernel
theorem witness_LineInterfaceStaysSound : stepping.line.sound := by
  unfold Line.sound Receiver.sound; decide +kernel
theorem witness_StationControlStaysSound : stepping.station.sound := by
  refine ⟨?_, fun _ => ⟨rfl, cfg, rfl, by decide +kernel⟩, fun _ => rfl, fun _ => rfl, by decide +kernel⟩
  intro n h
  cases h
  decide
theorem witness_NeighbourTableStaysSound : (withEntry 31 (statusOf 5) 94000000).neighboursSound := by
  unfold State.neighboursSound; decide +kernel
def stepping28 : State := { closing 28 with pending := [.idleGap 120] }
theorem witness_ClosureTableStaysSound : stepping28.station.sound ∧ stepping28.closuresSound ∧ ∃ t, step stepping28 = .next t := by
  refine ⟨⟨?_, fun _ => ⟨rfl, cfg, rfl, by decide +kernel⟩, fun _ => rfl, fun _ => rfl, by decide +kernel⟩, ?_, _, rfl⟩
  · intro n h
    cases h
    decide
  · unfold State.closuresSound Closure.sound; decide +kernel
theorem witness_ShoulderStaysSound : (shoulderAt .checking).shoulderSound := by
  unfold State.shoulderSound; decide +kernel
theorem witness_steps_sound : stepping.stepsSound := by
  refine ⟨by decide +kernel, fun o h => (by cases h), fun e h => (by cases h)⟩
theorem witness_speed_sound : stepping.speedSound := by
  unfold State.speedSound; decide +kernel
theorem witness_PlanStepIsNeverBelowItsBound :
    stepping.station.sound ∧ stepping.closuresSound ∧ stepping.stepsSound ∧ stepping.speedSound ∧ ∃ t, step stepping = .next t :=
  ⟨witness_StationControlStaysSound, by unfold State.closuresSound Closure.sound; decide +kernel, witness_steps_sound,
    witness_speed_sound, _, rfl⟩
theorem witness_PlanWaitsOnlyForAChannelInSetting : stepping.composerSound := by
  unfold State.composerSound; decide +kernel
theorem witness_SignChannelsStaySound : (signAt failedSign).signs.sound := by
  unfold Signs.sound Channel.sound
  intro c hc
  fin_cases hc <;> exact ⟨by decide, by decide, by decide, by decide, by decide, by decide, by decide, by decide, fun a h => (by cases h)⟩
theorem witness_RetentionStoreAgreesWithTheTable : stepping.retentionSound ∧ stepping.writerIdle ∧ stepping.closuresSound := by
  refine ⟨fun _ => ⟨fun _ => rfl, fun w h => (by cases h), ?_⟩, fun h => (by cases h), ?_⟩
  · intro p hp _ _
    fin_cases hp <;> rfl
  · unfold State.closuresSound Closure.sound; decide +kernel

/-! ### Witnesses of the formats -/

theorem witness_StatusBodyReadsBackAsSent :
    stepping.mode ≠ .starting ∧ stepping.station.sound ∧ stepping.closuresSound ∧ stepping.stepsSound ∧ stepping.speedSound ∧
      stepping.faults.sound ∧ stepping.line.sound :=
  ⟨by decide, witness_StationControlStaysSound, witness_RetentionStoreAgreesWithTheTable.2.2, witness_steps_sound, witness_speed_sound,
    by unfold FaultList.sound FaultEntry.sound; decide +kernel, witness_LineInterfaceStaysSound⟩
theorem witness_FrameMarksAreHeardAsItsDigits : (Frame.checked 0 1 30 (List.replicate 30 0)).body.length ≤ 30 := by decide +kernel

/-! ### Witnesses of station control -/

theorem witness_ResetsRestartTheStation_straps : straps29 = ⟨.low, .high, .high, .high, .low, .high⟩ ∧ 1 ≤ 62 ∧ 62 ≤ 62 ∧
    (⟨.high, .floating, .low, .low, .low, .low⟩ : Straps).pin2 = .floating := by decide
theorem witness_ResetsRestartTheStation_slots :
    ∀ w, emptying.retention.write = some w → w.slot = .p2 → w.latched = none := by
  intro w h _
  cases h
  rfl
theorem witness_StartUpCheckHandsOver :
    starting.mode = .starting ∧ starting.station.check = .underWay ∧ starting.station.straps = .number 29 ∧ imagePasses image = true ∧
      (configOf (takenFields image)).lanesUsable = true ∧ ladderBreak (configOf (takenFields image)) = none := by decide +kernel
theorem witness_StartUpCheckEndsInConfigFault_image :
    starting.mode = .starting ∧ starting.station.check = .underWay ∧ starting.station.straps ≠ .unread ∧
      starting.station.straps.good = true ∧ starting.station.config = none ∧ imagePasses (image.set 0 4) = false := by decide +kernel
/-- The state after a reset with bad straps. -/
def badStraps : State := after (.powerOnReset ⟨.high, .high, .high, .high, .high, .high⟩) State.reset
theorem witness_StartUpCheckEndsInConfigFault_straps :
    badStraps.mode = .starting ∧ badStraps.station.check = .underWay ∧ badStraps.station.straps = .bad ∧ imagePasses image = true := by
  decide +kernel
/-- The image with six lanes, and the image whose second limit value is no lower than its first, each with its own check
code, computed outside the model. -/
def imageLanes : List Octet := ((image.set 0 6).set 104 79).set 105 45
def imageLadder : List Octet := ((image.set 46 100).set 104 23).set 105 89
theorem witness_StartUpCheckEndsInConfigFault_lanes :
    imagePasses imageLanes = true ∧ (configOf (takenFields imageLanes)).lanesUsable = false ∧
      (after (.startUpCheck 40000 imageLanes) starting).faults.entries.map (fun e => (e.kind, e.unit)) = [(.configFault, 1)] := by
  decide +kernel
theorem witness_StartUpCheckEndsInConfigFault_ladder :
    imagePasses imageLadder = true ∧ ladderBreak (configOf (takenFields imageLadder)) = some 31 ∧
      (after (.startUpCheck 40000 imageLadder) starting).faults.entries.map (fun e => (e.kind, e.unit)) = [(.configFault, 31)] := by
  decide +kernel
theorem witness_RestoreKeepsTheUsableSlots :
    restoring.mode = .starting ∧ restoring.station.check = .usable ∧ restoring.station.restored = false ∧
      restoring.closures = Slots.const none := by decide +kernel
theorem witness_RestoreKeepsTheUsableSlots_usable :
    (restoring.retention.slots.get .p1).marker = markerValid ∧
      (restoring.retention.slots.get .p1).check = (restoring.retention.slots.get .p1).image.check ∧
      (restoring.retention.slots.get .p1).image.entry = some closure30 ∧ closure30.applies restoring.own = true := by decide +kernel
theorem witness_WarmingEntryStartsTheBlocks :
    identified.mode = .starting ∧ identified.station.check = .usable ∧ identified.station.restored = true ∧
      identified.signs.anyIdentifying = false ∧ identified.speed = Speed.reset := by decide +kernel
theorem witness_WarmUpEndsInRunningOrIsolated_timer :
    warming.mode = .warming ∧ warming.station.warmUp = some 95000000 ∧ 95000000 ≤ warming.clock + 0 := by decide +kernel
/-- The evaluation and the mode change fall together. -/
def warmingWithMeasures : State :=
  { warmedUp with station := { warmedUp.station with markSetAt := some 95000000 }, measures := { speed := some 58, occupancy := some 210 } }
theorem witness_WarmUpEndsInRunningOrIsolated_exit :
    warmingWithMeasures.mode = .warming ∧ warmingWithMeasures.station.warmedUp = true ∧
      warmingWithMeasures.station.firstEvaluation = true ∧ warmingWithMeasures.station.markSetAt = some (warmingWithMeasures.clock + 0) ∧
      warmingWithMeasures.speed.demand ≤ warmingWithMeasures.candidate ∧ warmingWithMeasures.measures.speed ≠ none ∧
      warmingWithMeasures.shoulder.state = .closed := by decide +kernel
theorem witness_SlotWriteCompletes :
    emptying.writerOn = true ∧ emptying.retention.write = some { slot := .p2, latched := none } ∧
      emptying.retention.dirty.get .p3 = true ∧ (∀ q ∈ Pos.all, emptying.retention.dirty.get q = true → Pos.p3.num ≤ q.num) := by
  decide +kernel
def writingEntry : State :=
  { emptying with retention := { emptying.retention with dirty := Slots.const false, write := some { slot := .p2, latched := some entry30.image } } }
theorem witness_SlotWriteCompletes_entry :
    writingEntry.writerOn = true ∧ writingEntry.retention.write = some { slot := .p2, latched := some entry30.image } ∧
      writingEntry.retention.dirty = Slots.const false := by decide +kernel

/-! ### Witnesses of the detectors -/

theorem witness_PresencesBeginAndGlitchesCount_begin :
    ({ lane2At 10000 id with inputs := Lanes.const { a := false, b := false } } : State).input loopA2 = false := by decide
theorem witness_PresencesBeginAndGlitchesCount_glitch :
    let s := lane2At 10049 (fun d => { d with a := unqualified 10000 })
    s.input loopA2 = true ∧ s.acting = true ∧ s.loopConfigured loopA2 = true ∧
      (s.loop loopA2).presence = some { on := 10000, qualified := false, timing := false } ∧
      (s.advance 0).lasted { on := 10000, qualified := false, timing := false } = false := by decide +kernel
/-- What the statements on edges ask of every edge, beside the order of the lane's two edges. -/
def edgeOk (s : State) (dt : Nat) (l : Loop) (p : Presence) : Bool :=
  s.acting && s.loopConfigured l && (s.loop l).presence == some p && !p.qualified && (s.advance dt).lasted p &&
    (s.loop l).status == .ok && (l.lane != .l1 || s.shoulder.state != .checking)
theorem edgeFree_of_none (s : State) (l : Loop) (p : Presence) (h : (s.loop (otherLoop l)).presence = none) : s.edgeFree l p := by
  intro q hq
  rw [h] at hq
  cases hq
def waiting (on : Tick) : Presence := { on := on, qualified := false, timing := false }
def edgeA (arrivals : List Arrival) : State := lane2At 10000 (fun d => { d with a := unqualified 10000, arrivals := arrivals })
theorem witness_QualifiedEdgesAppendAndPair_append :
    edgeOk (edgeA []) 5000 loopA2 (waiting 10000) = true ∧ ((edgeA []).advance 5000).edgeFree loopA2 (waiting 10000) ∧
      (lane2 (edgeA [])).mode = .dual ∧ (lane2 (edgeA [])).arrivals.length < 4 :=
  ⟨by decide +kernel, edgeFree_of_none _ _ _ (by decide +kernel), by decide, by decide⟩
/-- Four entries, the oldest of which has left loop A without a pairing. -/
def fourEntries : List Arrival :=
  [entry 5000 (some 6000) none, entry 7000 none (some 7500), entry 8000 (some 8500) none, entry 9000 none none]
theorem witness_QualifiedEdgesAppendAndPair_full :
    edgeOk (edgeA fourEntries) 5000 loopA2 (waiting 10000) = true ∧
      ((edgeA fourEntries).advance 5000).edgeFree loopA2 (waiting 10000) ∧ (lane2 (edgeA fourEntries)).mode = .dual ∧
      fourEntries = entry 5000 (some 6000) none :: fourEntries.tail ∧ fourEntries.tail.length = 3 ∧
      (entry 5000 (some 6000) none).bOn = none ∧ (∀ e ∈ fourEntries.tail, e.complete = false) :=
  ⟨by decide +kernel, edgeFree_of_none _ _ _ (by decide +kernel), by decide, by decide, by decide, by decide, by decide⟩
theorem test_qualifiedOnEdge_full_list :
    ((lane2 (after (.qualifiedOnEdge 5000 loopA2) (edgeA fourEntries))).arrivals.map (·.on),
      (lane2 (after (.qualifiedOnEdge 5000 loopA2) (edgeA fourEntries))).sums.n) = ([7000, 8000, 9000, 10000], 1) := by decide +kernel
def singleAt (mode : MeasureMode) : State := lane2At 10000 (fun d => { d with mode := mode, a := unqualified 10000 })
theorem witness_QualifiedEdgesAppendAndPair_single :
    edgeOk (singleAt .singleA) 5000 loopA2 (waiting 10000) = true ∧
      ((singleAt .singleA).advance 5000).edgeFree loopA2 (waiting 10000) ∧ (lane2 (singleAt .singleA)).mode = .singleA :=
  ⟨by decide +kernel, edgeFree_of_none _ _ _ (by decide +kernel), by decide⟩
def singleB2 : State := lane2At 10000 (fun d => { d with mode := .singleB, b := unqualified 10000 })
theorem witness_QualifiedEdgesAppendAndPair_singleB :
    edgeOk singleB2 5000 loopB2 (waiting 10000) = true ∧ (singleB2.advance 5000).edgeFree loopB2 (waiting 10000) ∧
      (lane2 singleB2).mode = .singleB :=
  ⟨by decide +kernel, edgeFree_of_none _ _ _ (by decide +kernel), by decide⟩
/-- Loop B at tick 68800, with an entry whose vehicle has left loop A. -/
def edgeB : State := lane2At 68900 (fun d => { d with b := unqualified 68800, arrivals := [entry 40000 (some 42700) none] })
theorem witness_QualifiedEdgesAppendAndPair_offered :
    edgeOk edgeB 0 loopB2 (waiting 68800) = true ∧ (edgeB.advance 0).edgeFree loopB2 (waiting 68800) ∧ (lane2 edgeB).mode = .dual :=
  ⟨by decide +kernel, edgeFree_of_none _ _ _ (by decide +kernel), by decide⟩
/-- An edge exactly Tmax after the entry pairs, one a tick later does not, and one before it is an orphan. -/
theorem witness_QualifiedEdgesAppendAndPair_cases :
    (∀ e ∈ [entry 39000 none (some 40000)], e.bOn ≠ none ∨ e.resolved = true) ∧ (entry 40000 none none).bOn = none ∧
      precedes 68800 40000 = false ∧ ((68800 : Tick) - 40000).toNat ≤ 400 * 72 ∧ ¬((68801 : Tick) - 40000).toNat ≤ 400 * 72 ∧
      precedes 39999 40000 = true ∧ precedes 40000 40000 = false := by decide
def bothEdges (a b : Tick) : State := lane2At 10060 (fun d => { d with a := unqualified a, b := unqualified b })
theorem witness_QualifiedEdgesAppendAndPair_order :
    (edgeOk (bothEdges 10000 10000) 0 loopB2 (waiting 10000) = true ∧ edgeOk (bothEdges 10000 10000) 0 loopA2 (waiting 10000) = true ∧
      otherLoop loopB2 = loopA2 ∧ precedes 10000 10000 = false) ∧
    (edgeOk (bothEdges 10001 10000) 0 loopA2 (waiting 10001) = true ∧ edgeOk (bothEdges 10001 10000) 0 loopB2 (waiting 10000) = true ∧
      otherLoop loopA2 = loopB2 ∧ precedes 10000 10001 = true ∧ precedes 10001 10000 = false) := by decide +kernel

def releasedOk (s : State) (l : Loop) (p : Presence) : Bool :=
  s.input l && s.acting && s.loopConfigured l && (s.loop l).presence == some p && p.qualified && (s.loop l).status == .ok
def heldOn (on : Tick) : Presence := { on := on, qualified := true, timing := true }
def leaving (mode : MeasureMode) (arrivals : List Arrival) : State :=
  lane2At 12700 (fun d => { d with a := held 10000, mode := mode, mark := some 10000, arrivals := arrivals })
theorem witness_ReleaseCompletesAPairedVehicle_dual :
    let a := entry 10000 none (some 11440)
    releasedOk (leaving .dual ([entry 9000 (some 9500) none] ++ [a])) loopA2 (heldOn 10000) = true ∧
      releasedOk (leaving .dual [entry 9000 (some 9500) none]) loopA2 (heldOn 10000) = true ∧
      (lane2 (leaving .dual [])).mode = .dual ∧ a.off = none ∧ (∀ e ∈ [entry 9000 (some 9500) none], e.off ≠ none ∧ e.complete = false) := by
  decide +kernel
theorem witness_ReleaseCompletesAPairedVehicle_single :
    releasedOk (leaving .singleA []) loopA2 (heldOn 10000) = true ∧
      releasedOk (leaving .singleA [entry 10000 none (some 11440)]) loopA2 (heldOn 10000) = true ∧
      releasedOk (leaving .singleA [entry 10000 none none]) loopA2 (heldOn 10000) = true ∧
      releasedOk (lane2At 12700 (fun d => { d with b := held 10000, mode := .singleB, arrivals := [entry 10000 none none] })) loopB2
        (heldOn 10000) = true := by decide +kernel
theorem test_releaseEdge_single_loop :
    (lane2 (after (.releaseEdge 0 loopA2) (leaving .singleA [entry 10000 none none]))).sums = { Sums.zero with n := 1, sumOn := 2700 } := by
  decide +kernel
/-- The outcomes of a completed vehicle: measured with 6 requests held and with 7, T = 0, and not paired. -/
theorem witness_ReleaseCompletesAPairedVehicle_outcomes :
    (entry 10000 (some 12700) (some 11440)).off = some 12700 ∧ (11440 : Tick) ≠ 10000 ∧
      vehicleCount (List.replicate 6 (.vehicle { lane := .l2, spacing := 400, transit := 1, onA := 1, loopLength := 200, longThreshold := 700, seconds := 0, tick := 0 })) < 7 ∧
      7 ≤ vehicleCount (List.replicate 7 (.vehicle { lane := .l2, spacing := 400, transit := 1, onA := 1, loopLength := 200, longThreshold := 700, seconds := 0, tick := 0 })) ∧
      (entry 10000 (some 12700) (some 10000)).bOn = some (entry 10000 (some 12700) (some 10000)).on ∧
      (entry 10000 (some 12700) none).bOn = none := by decide
/-- Loop A of lane 2 is STUCK and still held, so that the lane counts by loop B. -/
def stuckA : State :=
  lane2At 12700 (fun d => { d with a := { held 10000 with status := .stuck }, mode := .singleB, b := held 12000, mark := some 12000
                                   arrivals := [entry 12000 none none] })
theorem witness_ReleaseCompletesAPairedVehicle_stuck :
    stuckA.input loopA2 = true ∧ stuckA.acting = true ∧ stuckA.loopConfigured loopA2 = true ∧
      (stuckA.loop loopA2).presence = some (heldOn 10000) ∧ (stuckA.loop loopA2).status = .stuck := by decide +kernel
theorem test_releaseEdge_ends_stuck :
    (lane2 (after (.releaseEdge 0 loopA2) stuckA)).mode = .dual ∧ (lane2 (after (.releaseEdge 0 loopA2) stuckA)).arrivals = [] ∧
      (lane2 (after (.releaseEdge 0 loopA2) stuckA)).sums.sumOn = 700 := by decide +kernel
theorem witness_PresenceTimeoutMakesTheLoopStuck :
    let s := lane2At 3010000 (fun d => { d with a := held 10000 })
    let p : Presence := { on := 10000, qualified := true, timing := true }
    s.acting = true ∧ s.loopConfigured loopA2 = true ∧ (s.loop loopA2).presence = some p ∧
      (s.advance 0).reached (s.timeoutTick p) = true ∧ (s.loop loopA2).status = .ok ∧ s.shoulder.state ≠ .checking := by decide +kernel
theorem witness_PresenceTimeoutMakesTheLoopStuck_chatter :
    let s := lane2At 3010000 (fun d => { d with a := { held 10000 with status := .chatter } })
    let p : Presence := { on := 10000, qualified := true, timing := true }
    (s.loop loopA2).presence = some p ∧ (s.advance 0).reached (s.timeoutTick p) = true ∧ (s.loop loopA2).status = .chatter := by decide +kernel
theorem witness_PairingDeadlineResolvesTheOldest :
    let s := lane2At 68851 (fun d => { d with arrivals := [entry 39000 none (some 40000)] ++ entry 40000 (some 42700) none :: [] })
    let d := s.detector.lanes.get .l2
    s.acting = true ∧ d.mode = .dual ∧ d.arrivals = [entry 39000 none (some 40000)] ++ entry 40000 (some 42700) none :: [] ∧
      (∀ e ∈ [entry 39000 none (some 40000)], e.off = none ∧ (e.bOn ≠ none ∨ e.resolved = true)) ∧
      (s.advance 0).reached (s.pairingDeadline .l2 (entry 40000 (some 42700) none)) = true := by decide +kernel
theorem witness_PairingDeadlineResolvesTheOldest_still_held :
    let s := lane2At 68851 (fun d => { d with arrivals := [] ++ entry 40000 none none :: [] })
    let d := s.detector.lanes.get .l2
    s.acting = true ∧ d.mode = .dual ∧ d.arrivals = [] ++ entry 40000 none none :: [] ∧
      (s.advance 0).reached (s.pairingDeadline .l2 (entry 40000 none none)) = true := by decide +kernel
/-- Lane 2 with sums, a noisy loop A, a quiet loop B in CHATTER and a pairing of T = 0, and a capture at its 14th interval end. -/
def noisy : State :=
  { lane2At 100000 (fun d => { d with sums := { sums28 with implausible := 1 }, a := { held 99000 with glitches := 21 }
                                      b := { LoopRecord.reset with status := .chatter, glitches := 20 }, mark := some 99000 }) with
    trace := { Trace.reset with state := .capturing, lane := 2, requested := 5, intervals := 14 } }
theorem witness_IntervalEndHandsTheSums :
    noisy.acting = true ∧ noisy.detector.intervalEnd = some 100000 ∧ (noisy.advance 0).reached 100000 = true ∧
      noisy.shoulder.state ≠ .checking ∧ (∀ k ∈ noisy.laneList, ∀ a ∈ (noisy.detector.lanes.get k).arrivals, a.off ≠ none → a.bOn = none) ∧
      noisy.trace.state = .capturing ∧ noisy.trace.intervals + 1 = 15 := by decide +kernel
theorem test_intervalEnd_judges_the_loops :
    ((after (.intervalEnd 0 [] []) { noisy with faults := FaultList.raise (FaultList.raise ⟨[], false⟩ .loopChatter 4 9) .loopChatter 3 9 }).faults.entries.map
      (fun e => (e.kind, e.unit, e.active))) = [(.loopChatter, 4, false), (.loopChatter, 3, true), (.pairImplausible, 2, false)] := by decide +kernel
theorem test_intervalEnd_ends_the_capture :
    ((after (.intervalEnd 0 [] []) noisy).trace.state, (after (.intervalEnd 0 [] []) noisy).trace.cutShort) = (.draining, true) := by
  decide +kernel
theorem witness_TraceFrameIsPlaced :
    (traced 5).acting = true ∧ (traced 5).trace.state = .draining ∧ (traced 5).line.replies.length < 4 ∧
      (traced 4).trace.records.length = 4 := by decide +kernel

/-! ### Witnesses of the arithmetic unit -/

/-- The speed 250 without the clamped mark, 251 with it, and 5 at Tmax. -/
theorem witness_VehicleRequestCompletes :
    (vehicleAt 576 700).requests = .vehicle (vehicle 576 700) :: [] ∧ 1 ≤ (vehicle 576 700).transit ∧
      400 * 360 / 576 = 250 ∧ 400 * 360 / 573 = 251 ∧ (vehicle 28800 700).transit ≤ (vehicle 28800 700).spacing * 72 ∧
      (vehicleAt 576 700).trace.state = .capturing ∧ (vehicleAt 576 700).trace.lane = Lane.l2.num ∧
      (vehicleAt 576 700).runsForMeasurement .l2 = true ∧ ((vehicleAt 576 700).detector.lanes.get .l2).mode = .dual := by decide +kernel
theorem witness_VehicleRequestCompletes_zero :
    (vehicleAt 0 700).requests = .vehicle (vehicle 0 700) :: [] ∧ (vehicle 0 700).transit = 0 := by decide +kernel
/-- A speed of 28 at the last place before the run length, and one of 30, which is no slow vehicle. -/
theorem witness_VehicleRequestCompletes_shock :
    400 * 360 / 4966 = 28 ∧ 400 * 360 / 4800 = 30 ∧ cfg.shockSpeed = 30 ∧
      ({ vehicleAt 4966 9000 with queue := { QueueMonitor.reset with runs := Lanes.const 2 } } : State).queue.runs.get .l2 + 1 = cfg.runLength ∧
      (vehicleAt 4966 9000).acting = true ∧ (vehicleAt 4966 9000).queue.state = .clear := by decide +kernel
theorem witness_IntervalRequestCompletes :
    (intervalAt snap28 [.interval .l3 snap28]).requests = .interval .l2 snap28 :: [.interval .l3 snap28] ∧ 1 ≤ snap28.covered ∧
      [Request.interval .l3 snap28].any (fun r => !r.isVehicle) = true ∧ cfg.w ≤ 8 ∧ cfg.wo ≤ 8 := by decide +kernel
theorem witness_StationEvaluationFollowsTheLastInterval :
    (intervalAt snap28 []).requests = .interval .l2 snap28 :: [] ∧ ([] : List Request).all Request.isVehicle = true ∧
      (intervalAt snap28 []).mode = .running ∧ (intervalAt snap28 []).queue.state = .clear := by decide +kernel
/-- Table 5-2 at evaluations 1, 2 and 3 to 5: the rise, the failed release and the release. -/
def evaluated (demand dwell speed occupancy : Nat) : State :=
  { running with speed := { running.speed with demand := demand, dwell := dwell, bound := demand, planStep := demand }
                 records := { running.records with l2 := { LaneRecord.reset with s := some speed, os := some occupancy } }
                 measures := { speed := some speed, occupancy := some occupancy } }
theorem witness_StationEvaluation_demand :
    ((evaluated 0 0 58 210).speed.demand ≤ (evaluated 0 0 58 210).candidate) ∧
      ((evaluated 3 0 66 200).candidate < 3 ∧ (evaluated 3 0 66 200).releaseHolds = false) ∧
      ((evaluated 3 2 79 160).candidate < 3 ∧ (evaluated 3 2 79 160).releaseHolds = true ∧ 2 + 1 = cfg.dwellCount) ∧
      ((evaluated 3 0 78 150).candidate < 3 ∧ (evaluated 3 0 78 150).releaseHolds = true ∧ 0 + 1 ≠ cfg.dwellCount) := by decide +kernel
theorem witness_StationEvaluation_queue :
    (evaluated 0 0 48 260).queueCondition = false ∧ (evaluated 0 0 33 320).queueCondition = true ∧ 0 + 1 = cfg.confirmCount ∧
      0 + 1 ≠ ({ cfg with confirmCount := 2 } : StationConfig).confirmCount ∧ 0 + 1 < cfg.clearDwell ∧ cfg.clearDwell ≤ 2 + 1 ∧
      shocked.queue.state = .present ∧ shocked.queueCondition = false ∧ shocked.queue.firedAt = some shocked.clock ∧
      shocked.queue.clearCount = 0 ∧ shocked.cfg.clearDwell ≤ 0 + 1 := by decide +kernel

/-! ### Witnesses of the corridor line -/

theorem witness_TransmissionStartsAfterTheGap_gap :
    unheard.lineActive = true ∧ unheard.line.listening = true ∧ unheard.line.rx.phase = .idle ∧
      unheard.line.gapFrom + 120 ≤ unheard.clock + 120 := by decide
theorem witness_TransmissionStartsAfterTheGap_start :
    waitingLine.lineActive = true ∧ waitingLine.line.listening = true ∧ waitingLine.line.tx = .waiting ∧
      waitingLine.line.rx.phase = .idle ∧ waitingLine.line.rx.gapSeen = true ∧ waitingLine.line.hasWork = true := by decide
/-- A run of marks sent for digits reads back as it was sent. -/
theorem marksRead_sentHolds (ds : List Bool) : marksRead ds (sentHolds ds) := by
  intro i d h hd hh
  simp only [sentHolds, List.getElem?_map, hd, Option.map_some, Option.some.injEq] at hh
  cases d <;> simp at hh ⊢ <;> omega
theorem marksRead_nil (ds : List Bool) : marksRead ds [] := by
  intro i d h _ hh
  simp at hh
theorem witness_ArbitrationIsWonOrLost :
    (arbitrating statusFrame22).line.tx = .arbitrating ∧ (arbitrating statusFrame22).line.abortHold = none ∧
      (arbitrating statusFrame22).line.txFrame = some statusFrame22 ∧ header22.length = 12 ∧
      marksRead statusFrame22.headerDigits header22 ∧ marksRead statusFrame22.headerDigits [] ∧
      statusFrame22.headerDigits[([] : List Nat).length]? = some true :=
  ⟨rfl, rfl, rfl, by decide +kernel, marksRead_sentHolds _, marksRead_nil _, by decide +kernel⟩
/-- The last header mark of station 23 is sent short. -/
theorem witness_ArbitrationIsWonOrLost_mark12 :
    let f := Frame.checked 0 1 23 []
    f.headerDigits[((sentHolds f.headerDigits).take 11).length]? = some true ∧
      (after (.arbitrationLost 0 ⟨(sentHolds f.headerDigits).take 11, 15⟩) (arbitrating f)).line.rx.phase = .length := by decide +kernel
theorem witness_AbortedTransmissionWaitsAgain :
    (arbitrating statusFrame22).line.txFrame = some statusFrame22 ∧ (arbitrating statusFrame22).line.abortHold = none ∧
      (arbitrating statusFrame22).line.tx = .arbitrating ∧ statusFrame22.headerDigits[1]? = some false ∧
      marksRead statusFrame22.headerDigits [10] ∧ (sending statusFrame22).line.tx = .sending ∧
      marksRead statusFrame22.bodyDigits [] ∧ statusFrame22.bodyDigits[0]? = some false ∧ 0 < statusFrame22.bodyDigits.length ∧
      (after (.transmitAbort 0 (.sample [] 10)) (sending statusFrame22)).line.abortHold = some 95000060 ∧
      95000060 ≤ (after (.transmitAbort 0 (.sample [] 10)) (sending statusFrame22)).clock + 60 :=
  ⟨rfl, rfl, rfl, by decide +kernel, by
    intro i d h hd hh
    rcases i with _ | i
    · have h0 : statusFrame22.headerDigits[0]? = some true := by decide +kernel
      simp only [List.getElem?_cons_zero, Option.some.injEq] at hh
      rw [h0] at hd
      cases hd
      simp [← hh]
    · simp at hh, rfl, marksRead_nil _, by decide +kernel, by decide +kernel, by decide +kernel, by decide +kernel⟩
/-- Each cause arises at its boundary: a hold of 1.5 units reads either way. -/
theorem test_abort_causes :
    abortArises statusFrame22 (.startHold 15) .arbitrating = true ∧ abortArises statusFrame22 (.startHold 40) .arbitrating = false ∧
      abortArises statusFrame22 (.startHold 60) .arbitrating = true ∧ abortArises statusFrame22 (.headerLong [10] 15) .arbitrating = true ∧
      abortArises statusFrame22 (.headerLong [] 10) .arbitrating = false ∧ abortArises statusFrame22 (.sample [] 16) .sending = false ∧
      abortArises statusFrame22 (.slotEnd [20] 30) .sending = true ∧ abortArises statusFrame22 (.slotEnd [20] 29) .sending = false ∧
      abortArises statusFrame22 (.foundHeld [20]) .sending = true ∧ abortArises statusFrame22 (.foundHeld body22) .sending = false := by
  decide +kernel
def report30 : Frame := Frame.checked classBulk kindReport 30 [0]
theorem witness_TransmissionCompletes :
    (sending statusFrame22).line.tx = .sending ∧ (sending statusFrame22).line.abortHold = none ∧
      (sending statusFrame22).line.txFrame = some statusFrame22 ∧ statusFrame22.kind = kindStatus ∧
      body22.length = statusFrame22.bodyDigits.length ∧ (∀ h ∈ body22, h ≤ 30) ∧
      (sending report30).line.txFrame = some report30 ∧ report30.kind ≠ kindStatus ∧
      running.line.pubTimer = some 96000000 ∧ 96000000 ≤ running.clock + 1000000 := by decide +kernel
theorem witness_TransmissionCompletes_marks : marksRead statusFrame22.bodyDigits body22 := marksRead_sentHolds _
theorem witness_LostFramesAreCountedOnce_holds :
    running.hear [40] = some (.waiting { phase := .header, gapSeen := false, digits := [] }) ∧
      ({ phase := .header, gapSeen := false, digits := [] } : Receiver).inProgress = true ∧
      running.line.releasedAt [40] + 40 ≤ running.clock + 40 ∧ running.clock + 0 < (after (.idleGap 120) unheard).line.releasedAt [40] + 40 ∧
      5 ≤ 5 ∧ (∀ x ∈ [4], x < 5) ∧
      running.hear [40, 10, 35] = some .aborted ∧ running.hear (40 :: List.replicate 17 10) = some .badLength := by decide +kernel
theorem witness_LostFramesAreCountedOnce_rejected :
    running.canHear { cls := 2, kind := 1, source := 24, body := [], check := 0 } = true ∧
      (0 : BitVec 16) ≠ checkOf ({ cls := 2, kind := 1, source := 24, body := [], check := 0 } : Frame).checkedDigits ∧
      running.canHear (Frame.checked 2 0 24 []) = true ∧ 9 ≤ (Frame.checked 2 9 24 []).kind.toNat ∧
      (Frame.checked 2 1 0 []).source = 0 ∧ (Frame.checked 2 1 30 []).source.toNat = running.own ∧
      2 ≤ (Frame.checked 1 2 24 []).kind.toNat ∧ (Frame.checked 1 7 62 []).kind.toNat ≤ 7 ∧ (Frame.checked 1 7 62 []).source ≠ 63 := by
  decide +kernel
theorem witness_LostFramesAreCountedOnce_firstHold :
    running.lineActive = true ∧ running.line.listening = true ∧ running.line.rx.gapSeen = true ∧ running.line.rx.phase = .idle ∧
      ¬(35 ≤ 34 ∧ 34 < 45) ∧ ¬(35 ≤ 45 ∧ 45 < 45) := by decide
theorem witness_StuckLineIsolatesTheStation :
    running.lineActive = true ∧ running.line.stuck = false ∧ running.line.heldAt [40] + 500 ≤ running.clock + 540 ∧
      running.clock + 0 < unheard.line.heldAt [40] + 500 ∧
      running.hear [40] = some (.waiting { phase := .header, gapSeen := false, digits := [] }) ∧ running.mode = .running ∧
      (after (.lineStuck 540 [40] noOrder) running).line.stuck = true := by decide +kernel

/-! ### Witnesses of the neighbours -/

theorem witness_StatusFrameIsStoredOrHeard :
    running.acting = true ∧ running.canHear (Frame.checked 2 kindStatus 34 (statusOf 5).body) = true ∧ (34 : BitVec 6).toNat ≠ running.own ∧
      running.shoulder.state ≠ .checking ∧ running.inWindow 34 = true ∧ running.inWindow 28 = true ∧ running.inWindow 35 = false ∧
      running.inWindow 27 = false ∧ readStatus (statusOf 5).body = some (statusOf 5) ∧ readStatus [] = none := by decide +kernel

/-- Station 30's own closure with serial 17 in its record, and the same record without it. -/
def teaching : StatusRecord := { statusOf 4 with ownClosure := some { serial := 17, lanes := 24, taper := 2, extent := 1, step := 4 } }
def learning (c : Option Closure) : State := { ownOf running 28 with closures := { Slots.const none with p1 := c } }
theorem witness_ClosuresAreLearnedFromTheirOrigin_inserts :
    (learning none).acting = true ∧ (learning none).canHear (Frame.checked 2 kindStatus 30 teaching.body) = true ∧
      (30 : BitVec 6).toNat ≠ (learning none).own ∧ readStatus teaching.body = some teaching ∧ teaching.mode = .running ∧
      (teaching.ownClosure.map (fun c => (c.learned 30).applies 28)) = some true ∧ (learning none).positionOf 30 = none ∧
      (learning none).freePosition = some .p1 := by decide +kernel
theorem witness_ClosuresAreLearnedFromTheirOrigin_refresh :
    (learning (some entry30)).holding 30 = some (.p1, entry30) ∧ entry30.serial = 17 ∧
      (learning (some { entry30 with serial := 16 })).holding 30 = some (.p1, { entry30 with serial := 16 }) := by decide +kernel
theorem witness_ClosuresAreLearnedFromTheirOrigin_removes :
    (∀ c, (statusOf 4).ownClosure = some c → (c.learned 30).applies 28 = false) ∧
      (learning (some { entry30 with source := .learned })).holding 30 = some (.p1, { entry30 with source := .learned }) :=
  ⟨fun c h => (by cases h), by decide +kernel⟩
theorem witness_ClosuresAreLearnedFromTheirOrigin_warming :
    let r : StatusRecord := { statusOf 4 with mode := .warming, demandStep := none }
    readStatus r.body = some r ∧ r.mode ≠ .running ∧ r.mode ≠ .isolated := by decide +kernel
theorem witness_OtherFramesAreHeardOnly_report :
    running.acting = true ∧ running.canHear (Frame.checked 3 kindReport 63 []) = true ∧ (63 : BitVec 6).toNat ≠ running.own := by decide +kernel
theorem witness_OtherFramesAreHeardOnly_unreadable :
    running.own ≠ 63 ∧ running.canHear (commandFrame .closeClear [30]) = true ∧ readCommand .closeClear [30] = none := by decide +kernel
theorem witness_OtherFramesAreHeardOnly_elsewhere :
    running.canHear (commandFrame .closeClear [62, 1]) = true ∧ readCommand .closeClear [62, 1] = some (.closeClear 62 1) ∧
      running.addresses (.closeClear 62 1) = false := by decide +kernel
theorem witness_OtherFramesAreHeardOnly_isolated :
    isolated.acting = true ∧ isolated.mode = .isolated ∧ isolated.canHear (Frame.checked 3 kindReport 24 []) = true := by decide +kernel
def aged : Neighbour := { station := 31, record := statusOf 0, arrival := 89000000, state := .live, void := false }
theorem witness_SilenceAgesTheNeighbours :
    (withEntry 31 (statusOf 0) 89000000).acting = true ∧ (withEntry 31 (statusOf 0) 89000000).neighbour 31 = some aged ∧
      89000000 + cfg.expiryCount * cfg.period * second ≤ 95000000 + 0 ∧
      89000000 + cfg.expiryCount * cfg.period * second + cfg.staleHold * second ≤ 95000000 + 120000000 ∧
      running.neighbours.isolationTimer = some 110000000 ∧ 110000000 ≤ running.clock + 15000000 := by decide +kernel
theorem witness_SilenceAgesTheNeighbours_shoulder :
    (shoulderAt .opened).mode = .running ∧ (shoulderAt .opened).shoulder.state = .opened ∧
      (shoulderAt .closing).shoulder.state = .closing := by decide

/-! ### Witnesses of speed control and composition -/

def holding6 : State :=
  { running with speed := { running.speed with planStep := 6, bound := 4, heldSince := 35000000, demand := 4
                                               override := some { step := 4, legend := .none, expires := 95000000 } } }
theorem witness_HoldExpiryLetsThePlanStepFall :
    holding6.acting = true ∧ holding6.speed.heldSince + holding6.cfg.minDisplay * second ≤ holding6.clock + 0 ∧
      holding6.speed.bound < holding6.speed.planStep ∧ expiring.acting = true ∧
      expiring.speed.heldSince + expiring.cfg.minDisplay * second ≤ expiring.clock + 0 ∧ expiring.speed.planStep ≤ expiring.speed.bound := by
  decide
/-- A bound to be applied: a rise, a fall past the hold's moment, a fall after its expiry of this moment, one before it. -/
theorem witness_HoldExpiryLetsThePlanStepFall_bound :
    let asks (n m : Nat) (e : Bool) : State := { expiring with speed := { expiring.speed with demand := n, heldSince := m, holdEnded := e } }
    ((asks 5 0 false).lowerBound ≠ 4 ∧ 4 < (asks 5 0 false).lowerBound) ∧
      ((asks 3 34000000 false).lowerBound < 4 ∧ 34000000 + cfg.minDisplay * second < expiring.clock) ∧
      (asks 3 35000000 true).lowerBound < 4 ∧ ¬35000000 + cfg.minDisplay * second < expiring.clock ∧
      (asks 3 35000000 false).speed.holdEnded = false ∧
      ({ expiring with speed := { expiring.speed with bound := 3 } } : State).lowerBound = 4 := by decide +kernel
theorem witness_OverrideSetsItsRecordUntilItExpires :
    running.acting = true ∧ running.own ≠ 63 ∧ (30 : Octet).toNat ≤ running.own ∧ running.own ≤ (30 : Octet).toNat ∧
      running.canHear (commandFrame .override [30, 30, 6, 4, highOctet 241, lowOctet 241]) = true ∧
      legendOf 4 = some .caution ∧ legendOf 5 = none ∧ 6 < (7 : Octet).toNat ∧
      holding6.speed.override = some { step := 4, legend := .none, expires := 95000000 } ∧ 95000000 ≤ holding6.clock + 0 := by decide +kernel
theorem witness_CompositionFollowsItsCases :
    (fiveLanes 28).mergeCase .l4 = true ∧ (fiveLanes 28).planRunning ≠ [] ∧ (fiveLanes 30).closedCase .l5 = true ∧
      (fiveLanes 28).closedCase .l1 = false ∧ (fiveLanes 28).mergeCase .l1 = false ∧ running.cfg.laneCount < Lane.l4.num := by decide +kernel
/-- Every lane in the taper: no lane runs. -/
def noneRunning : State := { fiveLanes 28 with closures := { Slots.const none with p1 := some { entry30 with lanes := 31 } } }
theorem witness_CompositionFollowsItsCases_none : noneRunning.mergeCase .l1 = true ∧ noneRunning.planRunning = [] := by decide +kernel

/-! ### Witnesses of the closures -/

theorem witness_CloseSetInsertsReplacesOrRemoves :
    (ownOf running 28).acting = true ∧ (ownOf running 28).own ≠ 63 ∧ entry30.applies (ownOf running 28).own = true ∧
      (ownOf running 28).canHear (commandFrame .closeSet [30, 17, 24, 2, 1, 4]) = true ∧ (ownOf running 28).shoulder.state ≠ .checking ∧
      (ownOf running 28).positionOf 30 = none ∧ (ownOf running 28).freePosition = some .p1 ∧ (closing 28).positionOf 30 = some .p1 ∧
      ({ entry30 with taper := 1 } : Closure).applies (closing 28).own = false ∧ 62 < (63 : Octet).toNat := by decide +kernel
theorem witness_CloseClearRemovesBySerial :
    (closing 28).acting = true ∧ (closing 28).own ≠ 63 ∧ 28 ≤ 30 + 3 ∧ 30 ≤ 28 + 4 ∧
      (closing 28).canHear (commandFrame .closeClear [30, 17]) = true ∧ (closing 28).holding 30 = some (.p1, entry30) ∧
      entry30.serial = (17 : Octet).toNat ∧ entry30.serial ≠ (18 : Octet).toNat ∧ (ownOf running 28).holding 30 = none := by decide +kernel

/-! ### Witnesses of the shoulder -/

theorem witness_ShoulderCommandsActByTheState_open :
    (shoulderAt .closed).acting = true ∧ (shoulderAt .closed).own ≠ 63 ∧ (30 : Octet).toNat ≤ (shoulderAt .closed).own ∧
      (shoulderAt .closed).canHear (commandFrame .shoulder [30, 30, 1]) = true ∧ (shoulderAt .closed).mode ≠ .isolated := by decide +kernel
theorem witness_ShoulderCommandsActByTheState_close :
    (shoulderAt .opened).acting = true ∧ (shoulderAt .opened).canHear (commandFrame .shoulder [30, 30, 2]) = true ∧
      (shoulderAt .opened).cfg.shoulderLane = true ∧ running.cfg.shoulderLane = false := by decide +kernel
theorem witness_ShoulderCommandsActByTheState_other :
    (3 : Octet) ≠ 1 ∧ (3 : Octet) ≠ 2 ∧ (shoulderAt .opened).canHear (commandFrame .shoulder [30, 30, 3]) = true ∧
      (shoulderAt .opened).canHear (commandFrame .shoulder [30, 30, 0]) = true := by decide +kernel
theorem witness_ShoulderCommandsActByTheState_isolated :
    let s := { isolated.setStation { isolated.station with config := some { cfg with shoulderLane := true } } with shoulder := Shoulder.reset }
    s.acting = true ∧ s.mode = .isolated ∧ noOrder.early = [] ∧ s.canHear (commandFrame .shoulder [30, 30, 1]) = true ∧
      (after (.shoulderOpen 0 30 30 noOrder) s).shoulder.state = .checking := by decide +kernel
/-- Five causes of R127 during an opening check. -/
def checkingLane1 (d : LaneDetector) : State :=
  { shoulderAt .checking with detector := { running.detector with lanes := { running.detector.lanes with l1 := d } } }
def loopA1 : Loop := { lane := .l1, side := .a }
theorem witness_ShoulderTimersOpenAndClose_edge :
    let s := checkingLane1 { dualLane with a := unqualified 950000 }
    s.acting = true ∧ s.shoulder.state = .checking ∧ s.loopConfigured loopA1 = true ∧
      (s.loop loopA1).presence = some (waiting 950000) ∧ (s.advance 5000).lasted (waiting 950000) = true ∧ (s.loop loopA1).status = .ok := by
  decide +kernel
def stuckB : LoopRecord := { LoopRecord.reset with status := .stuck }
theorem witness_ShoulderTimersOpenAndClose_timeout :
    let s := { checkingLane1 { dualLane with a := held 950000, b := stuckB, mode := .singleA } with clock := 395000000 }
    s.acting = true ∧ (s.loop loopA1).presence = some (heldOn 950000) ∧ (s.advance 0).reached (s.timeoutTick (heldOn 950000)) = true ∧
      (s.loop loopA1).status = .ok ∧ (s.detector.lanes.get .l1).mode ≠ .none ∧ (s.loop (otherLoop loopA1)).status ≠ .ok := by
  decide +kernel
theorem witness_ShoulderTimersOpenAndClose_interval :
    let s := checkingLane1 { dualLane with a := { LoopRecord.reset with glitches := 21 }, b := stuckB, mode := .singleA }
    s.acting = true ∧ s.shoulder.state = .checking ∧ 1 ≤ s.cfg.laneCount ∧ s.detector.intervalEnd = some 1000000 ∧
      (s.advance 5000000).reached 1000000 = true ∧ (s.detector.lanes.get .l1).mode ≠ .none ∧
      (s.judged { lane := .l1, side := .a }).status ≠ .ok ∧ (s.judged { lane := .l1, side := .b }).status ≠ .ok := by decide +kernel
theorem witness_ShoulderTimersOpenAndClose_closeSet :
    let s := ownOf (shoulderAt .checking) 28
    s.mode = .running ∧ s.shoulder.state = .checking ∧ s.own ≠ 63 ∧ ({ entry30 with lanes := 1 } : Closure).applies s.own = true ∧
      s.laneNamed .l1 = false ∧ s.freePosition ≠ none ∧ s.canHear (commandFrame .closeSet [30, 17, 1, 2, 1, 4]) = true ∧
      (after (.closeSet 0 30 17 1 2 1 4 noOrder) s).faults.entries.map (·.kind) = [.shoulderCheckFailed] := by decide +kernel
theorem witness_ShoulderTimersOpenAndClose_learned :
    let s := ownOf (shoulderAt .checking) 28
    let r : StatusRecord := { statusOf 4 with ownClosure := some { serial := 17, lanes := 1, taper := 2, extent := 1, step := 4 } }
    (30 : BitVec 6).toNat ≠ s.own ∧ s.canHear (Frame.checked 2 kindStatus 30 r.body) = true ∧ readStatus r.body = some r ∧
      (r.ownClosure.map (fun c => (c.learned 30).applies s.own && c.lanes.getLsbD 0)) = some true ∧ s.laneNamed .l1 = false ∧
      (after (.statusFrame 0 2 30 r.body noOrder) s).shoulder.state = .closed := by decide +kernel
theorem witness_ShoulderTimersOpenAndClose :
    (shoulderAt .checking).acting = true ∧ (shoulderAt .checking).shoulder.state = .checking ∧
      (shoulderAt .checking).shoulder.checkTimer = some 95000000 ∧ (shoulderAt .closing).shoulder.clearanceTimer = some 95000000 ∧
      95000000 ≤ (shoulderAt .checking).clock + 0 := by decide

/-! ### Witnesses of the sign channels -/

theorem witness_IdentityActsByTheState :
    (0x38F9 : BitVec 16) = checkOctets [0x21, 1] ∧ (0x089A : BitVec 16) = checkOctets [0x21, 2] ∧
      (signAt identifying).chanUsable chan3 = true ∧ ((signAt identifying).signs.get chan3).state = .identifying ∧
      ((signAt identifying).signs.get chan3).reason = none ∧ ((signAt setting).signs.get chan3).state = .setting ∧
      ((signAt showing).signs.get chan3).state = .showing := by decide +kernel
/-- Lane 3 in an unidentified attempt with a held reason, while a new plan waits. -/
def unidentified : Channel := { setting with identified := false, reason := some .noResponse }
def waitingPlan (x : Channel) : State :=
  { signAt x with composer := { (signAt x).composer with next := Plan.allBlank } }
theorem witness_IdentityActsByTheState_other_kind :
    (0x089A : BitVec 16) = checkOctets [0x21, 2] ∧ (waitingPlan unidentified).chanUsable chan3 = true ∧ unidentified.state = .setting ∧
      unidentified.identified = false ∧
      (after (.identity 0 chan3 2 0x089A false) (waitingPlan unidentified)).composer.active = Plan.allBlank := by decide +kernel
/-- PARTIAL with a held reason and a waiting plan. -/
theorem witness_ProvingReportEndsTheAttempt_waiting :
    let s := waitingPlan { setting with reason := some .failed }
    s.chanUsable chan3 = true ∧ s.gateOpen { s.signs.set chan3 showing with sent := [] } ∧
      (after (.provingReport 0 chan3 14 2 0x2777 true) s).signs.sent = [(chan3, .laneAspect 15 .blank 0), (.legend, .legendAspect 14 .none false)] := by
  refine ⟨by decide +kernel, ⟨rfl, by decide +kernel, ?_⟩, by decide +kernel⟩
  intro c
  cases c with
  | legend => decide +kernel
  | lane k => cases k <;> decide +kernel
/-- A proving deadline changes the reason NO RESPONSE to FAILED. -/
theorem test_provingDeadline_changes_the_reason :
    (after (.provingDeadline 500000 chan3 true)
      { signAt { setting with reason := some .noResponse } with faults := FaultList.raise ⟨[], false⟩ .signNoResponse 3 9 }).faults.entries.map
      (fun e => (e.kind, e.active)) = [(.signNoResponse, false), (.signFailed, true)] := by decide +kernel
theorem witness_RestartNoticeSetsTheChannelAgain_waiting :
    (waitingPlan setting).chanUsable chan3 = true ∧ ((waitingPlan setting).signs.get chan3).state = .setting ∧
      (after (.restartNotice 0 chan3 2 0x6EF8 false) (waitingPlan setting)).composer.active = Plan.allBlank := by decide +kernel
/-- Log 21: an attempt begun unidentified that a RESTART NOTICE identifies takes its PROVING REPORT. -/
theorem test_provingReport_after_a_notice :
    (after (.provingReport 0 chan3 15 1 0x2425 false) (after (.restartNotice 0 chan3 1 0x5E9B false)
      (signAt { setting with identified := false }))).signs.lanes.l3.state = .showing := by decide +kernel
theorem witness_ProvingReportEndsTheAttempt :
    (0x1714 : BitVec 16) = checkOctets [0x22, 14, 1] ∧ (0x2777 : BitVec 16) = checkOctets [0x22, 14, 2] ∧
      (0x3756 : BitVec 16) = checkOctets [0x22, 14, 3] ∧ (signAt setting).chanUsable chan3 = true ∧ setting.state = .setting ∧
      setting.identified = true ∧ setting.attempt = some { set := 14, deadline := 95500000 } ∧ 14 = (14 : Octet).toNat ∧
      (signAt setting).composer.next = (signAt setting).composer.active ∧ (signAt setting).signs.get chan3 = setting := by decide +kernel
theorem witness_DeadlinesFailTheChannel :
    (signAt identifying).chanUsable chan3 = true ∧ ((signAt identifying).signs.get chan3).state = .identifying ∧
      ((signAt identifying).signs.get chan3).identifyBy = some 95500000 ∧ 95500000 ≤ (signAt identifying).clock + 500000 ∧
      (signAt setting).signs.get chan3 = setting ∧ (signAt setting).composer.active.aspects.get .l3 = .closed ∧
      (signAt setting).acting = true := by decide +kernel
theorem witness_RetryBeginsAnAttempt :
    (signAt failedSign).chanUsable chan3 = true ∧ ((signAt failedSign).signs.get chan3).state = .failed ∧
      ((signAt failedSign).signs.get chan3).retryAt = some 125000000 ∧ 125000000 ≤ (signAt failedSign).clock + 30000000 := by decide +kernel
theorem witness_RestartNoticeSetsTheChannelAgain :
    (0x5E9B : BitVec 16) = checkOctets [0x23, 1] ∧ (0x6EF8 : BitVec 16) = checkOctets [0x23, 2] ∧
      (signAt showing).chanUsable chan3 = true ∧ (signAt setting).chanUsable chan3 = true ∧ (signAt failedSign).chanUsable chan3 = true ∧
      (signAt identifying).chanUsable chan3 = true ∧ (after (.startUpCheck 0 (image.set 0 4)) starting).mode = .configFault := by
  decide +kernel

/-! ### Witnesses of the centre -/

theorem witness_AcknowledgementRemovesEndedFaults :
    fullList.acting = true ∧ fullList.own ≠ 63 ∧ (17 : Octet).toNat = fullList.own ∧
      fullList.canHear (commandFrame .faultAck [17, 10, 4]) = true ∧ fullList.canHear (commandFrame .faultAck [17, 0, 0]) = true ∧
      (faultKindOf 10).isSome = true ∧ (faultKindOf 16).isSome = false := by decide +kernel
theorem witness_FaultsRequestAnswersWholeOrNotAtAll :
    fullList.acting = true ∧ fullList.canHear (commandFrame .request [17, 1, 0, 0]) = true ∧
      (after (.idleGap 120) (after (.startUpCheck 0 (image.set 0 4)) starting)).mode = .configFault ∧
      (after (.idleGap 120) (after (.startUpCheck 0 (image.set 0 4)) starting)).canHear (commandFrame .request [29, 1, 0, 0]) = true := by
  decide +kernel
theorem witness_OtherRequestsAreTakenOrRefused :
    running.acting = true ∧ running.own ≠ 63 ∧ (30 : Octet).toNat = running.own ∧
      running.canHear (commandFrame .request [30, 2, 0, 0]) = true ∧ running.canHear (commandFrame .request [30, 3, 3, 32]) = true ∧
      ¬((3 : Octet).toNat < 1 ∨ running.cfg.laneCount < (3 : Octet).toNat ∨ (32 : Octet).toNat < 1 ∨ 32 < (32 : Octet).toNat) ∧
      running.trace.state = .idle ∧ (traced 5).trace.state ≠ .idle ∧ running.cfg.laneCount ≤ 5 ∧
      running.canHear (commandFrame .request [30, 4, 1, 1]) = true ∧ running.canHear (commandFrame .request [30, 0, 1, 1]) = true := by
  decide +kernel
theorem witness_CommandsAreRefusedOrIgnored :
    gatewayCommand (.closeClear 0 29 1 noOrder) = some (.closeClear 29 1, [29, 1]) ∧
      (after (.idleGap 120) (after (.startUpCheck 0 (image.set 0 4)) starting)).own ≠ 63 ∧
      (after (.idleGap 120) (after (.startUpCheck 0 (image.set 0 4)) starting)).canHear (commandFrame .closeClear [29, 1]) = true ∧
      (after (.idleGap 120) (after (.startUpCheck 0 (image.set 0 4)) starting)).addresses (.closeClear 29 1) = true ∧
      gatewayCommand (.closeClear 0 62 1 noOrder) = some (.closeClear 62 1, [62, 1]) ∧ running.addresses (.closeClear 62 1) = false ∧
      running.canHear (commandFrame .closeClear [62, 1]) = true := by decide +kernel

end Sys2Proof.Tests
end

section
/-!
PROOFS. Loop detectors and vehicle records: what the readers leave of the line, the start and the end of a presence, the
frames of a draining trace.
-/
namespace Sys2Proof.Machine

/-! ### Commands and their meanings -/

theorem exec_warmingEntry_eq (dt : Nat) (s : State) : exec (.warmingEntry dt) s = execWarmingEntry dt s := rfl

theorem exec_loopPresenceStart_eq (dt : Nat) (l : Loop) (s : State) :
    exec (.loopPresenceStart dt l) s = execLoopPresenceStart dt l s := rfl

theorem exec_qualifiedOnEdge_eq (dt : Nat) (l : Loop) (s : State) :
    exec (.qualifiedOnEdge dt l) s = execQualifiedOnEdge dt l s := rfl

theorem exec_releaseEdge_eq (dt : Nat) (l : Loop) (s : State) : exec (.releaseEdge dt l) s = execReleaseEdge dt l s := rfl

theorem exec_presenceTimeout_eq (dt : Nat) (l : Loop) (endFirst : Bool) (s : State) :
    exec (.presenceTimeout dt l endFirst) s = execPresenceTimeout dt l endFirst s := rfl

theorem exec_intervalEnd_eq (dt : Nat) (lanes : List Lane) (loops : List Loop) (s : State) :
    exec (.intervalEnd dt lanes loops) s = execIntervalEnd dt lanes loops s := rfl

theorem exec_traceFramePlaced_eq (dt : Nat) (s : State) : exec (.traceFramePlaced dt) s = execTraceFramePlaced dt s := rfl

theorem exec_requestLanes_eq (dt : Nat) (station lane count : Octet) (s : State) :
    exec (.requestLanes dt station lane count) s = execRequestLanes dt station lane count s := rfl

theorem exec_requestTrace_eq (dt : Nat) (station lane count : Octet) (s : State) :
    exec (.requestTrace dt station lane count) s = execRequestTrace dt station lane count s := rfl

theorem exec_requestOtherType_eq (dt : Nat) (station type lane count : Octet) (s : State) :
    exec (.requestOtherType dt station type lane count) s = execRequestOtherType dt station type lane count s := rfl

/-! ### What time alone leaves as it is -/

@[simp] theorem State.advance_acting (s : State) (dt : Nat) : (s.advance dt).acting = s.acting := rfl
@[simp] theorem State.advance_mode (s : State) (dt : Nat) : (s.advance dt).mode = s.mode := rfl
@[simp] theorem State.advance_cfg (s : State) (dt : Nat) : (s.advance dt).cfg = s.cfg := rfl
@[simp] theorem State.advance_loop (s : State) (dt : Nat) (l : Loop) : (s.advance dt).loop l = s.loop l := rfl
@[simp] theorem State.advance_input (s : State) (dt : Nat) (l : Loop) : (s.advance dt).input l = s.input l := rfl
@[simp] theorem State.advance_loopConfigured (s : State) (dt : Nat) (l : Loop) :
    (s.advance dt).loopConfigured l = s.loopConfigured l := rfl
@[simp] theorem State.advance_laneList (s : State) (dt : Nat) : (s.advance dt).laneList = s.laneList := rfl
@[simp] theorem State.advance_tick (s : State) (dt : Nat) : (s.advance dt).tick = BitVec.ofNat 32 ((s.clock + dt) / 100) := rfl

/-! ### The levels of the loop inputs -/

theorem State.setInput_same (s : State) (l : Loop) (level : Bool) : SameOutside [.inputs] s (s.setInput l level) := by
  intro b hb
  cases b
  case inputs => exact absurd (by decide) hb
  all_goals rfl

@[simp] theorem State.input_setInput (s : State) (l : Loop) (level : Bool) : (s.setInput l level).input l = level := by
  obtain ⟨k, side⟩ := l
  cases side <;> simp [State.setInput, State.input]

theorem State.input_setInput_of_ne (s : State) {l l' : Loop} (level : Bool) (h : l' ≠ l) :
    (s.setInput l level).input l' = s.input l' := by
  obtain ⟨k, side⟩ := l
  obtain ⟨k', side'⟩ := l'
  by_cases hk : k' = k
  · subst hk
    cases side <;> cases side' <;> simp_all [State.setInput, State.input]
  · cases side <;> cases side' <;> simp [State.setInput, State.input, Lanes.get_set_of_ne _ _ hk]

/-- Settles O25: each row sets the level and at most one loop's record. -/
theorem presencesBeginAndGlitchesCount : Obligations.PresencesBeginAndGlitchesCount := by
  constructor
  · intro dt l s hin
    rw [exec_loopPresenceStart_eq]
    have frame : SameOutside [.clock, .inputs, .detector] s ((s.advance dt).setInput l true) :=
      (s.advance_same dt).trans (State.setInput_same _ _ _) (by decide) (by decide)
    have others (l' : Loop) (h : l' ≠ l) := (s.advance dt).input_setInput_of_ne true h
    by_cases hc : (s.acting && s.loopConfigured l) = true
    · rw [if_pos hc]
      exact ⟨_, (if_neg (Bool.eq_false_iff.mp hin)).trans (if_pos hc), rfl, State.input_setInput _ _ _, others, rfl,
        frame.trans (State.setLoop_same _ _ _) (fun _ x => x) (by decide), rfl⟩
    · rw [if_neg hc]
      exact ⟨_, (if_neg (Bool.eq_false_iff.mp hin)).trans (if_neg hc), rfl, State.input_setInput _ _ _, others, rfl, frame, rfl⟩
  · intro dt l s p hin ha hc hp hq hl
    rw [exec_releaseEdge_eq]
    have frame : SameOutside [.clock, .inputs, .detector] s (((s.advance dt).setInput l false).glitch l) :=
      ((s.advance_same dt).trans (State.setInput_same _ _ _) (n := [.clock, .inputs]) (by decide) (by decide)).trans
        (State.setLoop_same _ _ _) (by decide) (by decide)
    refine ⟨((s.advance dt).setInput l false).glitch l, ?_, rfl, State.input_setInput _ _ _,
      fun l' h => (s.advance dt).input_setInput_of_ne false h, rfl, frame, rfl⟩
    simp [execReleaseEdge, hin, ha, hc, hp, hq, hl]

/-! ### The lengths of report bodies -/

theorem digitsOf_length (w n : Nat) : (digitsOf w n).length = w := by
  induction w with
  | zero => rfl
  | succ w ih => simp [digitsOf, ih]

theorem packDigits_length (ds : List Bool) : (packDigits ds).length = (ds.length + 7) / 8 := by
  simp [packDigits]

theorem VehicleRecord.digits_length (r : VehicleRecord) : r.digits.length = 56 := by
  cases h : r.result <;> simp [VehicleRecord.digits, VehicleResult.digits, digitsOf_length, h]

theorem laneDigits_length (mode : MeasureMode) (r : LaneRecord) : (laneDigits mode r).length = 46 := by
  simp [laneDigits, digitsOf_length]

theorem length_flatMap_of_const {α β : Type} (f : α → List β) (n : Nat) (h : ∀ a, (f a).length = n) (l : List α) :
    (l.flatMap f).length = n * l.length := by
  simp [List.length_flatMap, h, Nat.mul_comm]

/-- A TRACE frame has 2 octets and 7 for each record (Table 13-7). -/
theorem traceBody_length (lane : Nat) (cut last : Bool) (number : Nat) (rs : List VehicleRecord) :
    (traceBody lane cut last number rs).length = 2 + 7 * rs.length := by
  simp only [traceBody, List.length_cons, packDigits_length, length_flatMap_of_const _ 56 VehicleRecord.digits_length]
  omega

/-! ### The trace frame (R18, R56) -/

/-- A frame that enters the reply queue ends QUIET (R48, R56). -/
theorem State.enqueue_line (s : State) (body : List Octet) :
    (s.enqueue [body]).line =
      { s.line with replies := s.line.replies ++ [body], tx := if s.line.tx = .quiet then .waiting else s.line.tx } := by
  by_cases h : s.line.tx = .quiet <;> simp [State.enqueue, Line.wake, Line.hasWork, h]

theorem State.enqueue_same (s : State) (bodies : List (List Octet)) : SameOutside [.line] s (s.enqueue bodies) :=
  s.setLine_same _

theorem isEmpty_drop_four {α : Type} (l : List α) : (l.drop 4).isEmpty = decide (l.length ≤ 4) := by
  rw [Bool.eq_iff_iff]
  simp

/-- The trace buffer after its next frame has been placed. -/
def Trace.framed (t : Trace) : Trace :=
  { t with records := t.records.drop 4, framesSent := t.framesSent + 1
           state := if t.records.length ≤ 4 then .idle else .draining }

/-- The next frame of a trace. -/
def Trace.frame (t : Trace) : List Octet :=
  traceBody t.lane t.cutShort (decide (t.records.length ≤ 4)) (t.framesSent + 1) (t.records.take 4)

theorem execTraceFramePlaced_of_draining (dt : Nat) (s : State) (ha : s.acting = true) (hd : s.trace.state = .draining)
    (hr : s.line.replies.length < 4) :
    execTraceFramePlaced dt s = .next (((s.advance dt).setTrace s.trace.framed).enqueue [s.trace.frame]) := by
  have hfree : 0 < 4 - s.line.replies.length := by omega
  simp [execTraceFramePlaced, Trace.framed, Trace.frame, State.freePlaces, ha, hd, hfree, isEmpty_drop_four]

/-- Settles O31: the frame holds the first four records, and the others stay. -/
theorem traceFrameIsPlaced : Obligations.TraceFrameIsPlaced := by
  intro dt s ha hd hr
  rw [exec_traceFramePlaced_eq, execTraceFramePlaced_of_draining dt s ha hd hr]
  have line := ((s.advance dt).setTrace s.trace.framed).enqueue_line s.trace.frame
  have replies : _ = s.line.replies ++ [s.trace.frame] := congrArg Line.replies line
  refine ⟨_, rfl, rfl, rfl, replies, fun body hb => ?_, ?_, ?_, rfl⟩
  · have heq := List.append_cancel_left (replies.symm.trans hb)
    rw [← (List.cons.inj heq).1, Trace.frame, traceBody_length, List.length_take]
  · rw [replies]
    exact line
  · exact ((s.advance_same dt).trans (State.setTrace_same _ _) (n := [.clock, .trace]) (by decide) (by decide)).trans
      (State.enqueue_same _ _) (by decide) (by decide)

end Sys2Proof.Machine
end

section
/-!
PROOFS. The readers after a report and the entry into WARMING (R168), and the requests of the gateway (R180).
-/
namespace Sys2Proof.Machine

/-! ### What urgent changes leave of the line -/

/-- The line may have taken an urgent change: only the status slot differs, and a pending mark stays. -/
def Line.slotGrows (a b : Line) : Prop := Line.slotOnly a b ∧ (a.pending = true → b.pending = true)

theorem Line.slotGrows_refl (l : Line) : Line.slotGrows l l := ⟨rfl, id⟩

theorem Line.slotGrows_of_eq {a b : Line} (h : b = a) : Line.slotGrows a b := h ▸ Line.slotGrows_refl b

theorem Line.slotGrows_trans {a b c : Line} (h : Line.slotGrows a b) (k : Line.slotGrows b c) : Line.slotGrows a c :=
  ⟨Line.slotOnly_trans h.1 k.1, fun x => k.2 (h.2 x)⟩

theorem State.flagUrgent_slotGrows (s : State) : Line.slotGrows s.line s.flagUrgent.line := by
  refine ⟨s.flagUrgent_line.2, fun h => ?_⟩
  rw [s.flagUrgent_line.1]
  split
  · exact s.line.setUrgent_spec.2.1
  · exact h

theorem State.noteDisplacement_slotGrows (s : State) (d : Lanes (Option Displacement)) :
    Line.slotGrows s.line (s.noteDisplacement d).line := by
  unfold State.noteDisplacement
  split
  · exact Line.slotGrows_refl _
  · exact s.flagUrgent_slotGrows

theorem State.commit_slotGrows (s : State) : Line.slotGrows s.line s.commit.line := by
  have h : (Chan.all.foldl (fun t c => t.commitChannel s.composer.active c)
      (s.setComposer { s.composer with active := s.composer.next })).line = s.line :=
    SameOutside.foldl (fun t c => t.commitChannel_same s.composer.active c) _ _ .line (by decide)
  exact h ▸ State.noteDisplacement_slotGrows _ _

theorem State.tryCommit_slotGrows (s : State) : Line.slotGrows s.line s.tryCommit.line := by
  rcases s.tryCommit_cases with ⟨-, -, -, h⟩ | ⟨-, h⟩
  · exact h ▸ s.commit_slotGrows
  · exact Line.slotGrows_of_eq (congrArg State.line h)

theorem State.recompute_slotGrows (s : State) : Line.slotGrows s.line s.recompute.line := by
  unfold State.recompute
  split
  · dsimp only
    split
    · exact State.flagUrgent_slotGrows (s.setComposer _)
    · exact Line.slotGrows_refl _
  · exact Line.slotGrows_refl _

theorem State.servePlan_slotGrows (s : State) : Line.slotGrows s.line s.servePlan.line :=
  Line.slotGrows_trans s.recompute_slotGrows (State.tryCommit_slotGrows _)

theorem State.moveShoulder_slotGrows (s : State) (x : Shoulder) : Line.slotGrows s.line (s.moveShoulder x).line := by
  unfold State.moveShoulder
  split
  · exact Line.slotGrows_refl _
  · exact (s.setShoulder x).flagUrgent_slotGrows

theorem State.serveShoulder_slotGrows (s before : State) : Line.slotGrows s.line (s.serveShoulder before).line := by
  unfold State.serveShoulder State.forceClosing
  split
  · split
    · exact s.moveShoulder_slotGrows _
    · exact Line.slotGrows_refl _
  · exact Line.slotGrows_refl _

theorem State.serve_slotGrows (s before : State) (r : Reader) : Line.slotGrows s.line (s.serve before r).line := by
  cases r with
  | queue => exact Line.slotGrows_of_eq (s.serveQueue_same .line (by decide))
  | speed => exact Line.slotGrows_of_eq (s.serveSpeed_same .line (by decide))
  | plan => exact s.servePlan_slotGrows
  | composer => exact State.servePlan_slotGrows s.takeCandidate
  | shoulder => exact s.serveShoulder_slotGrows before

theorem State.serveAll_slotGrows (s before : State) (rs : List Reader) :
    Line.slotGrows s.line (s.serveAll before rs).line := by
  induction rs generalizing s with
  | nil => exact Line.slotGrows_refl _
  | cons r rs ih => exact Line.slotGrows_trans (s.serve_slotGrows before r) (ih _)

/-- Settling touches the line in its status slot alone (R54). -/
theorem State.settle_slotGrows (s before : State) (late : List Reader) :
    Line.slotGrows s.line (s.settle before late).line := by
  rcases s.settle_cases before late with ⟨-, -, h⟩ | ⟨-, h⟩
  · rw [h, State.serveEvery_eq]
    exact Line.slotGrows_trans (s.serveAll_slotGrows before late) (State.serveAll_slotGrows _ before _)
  · exact Line.slotGrows_of_eq (congrArg State.line h)

/-! ### What the plan step and the plan are made of -/

/-- A state that differs in its plans, its channels and its line alone. -/
theorem State.eq_of_composer_same {s t : State} (h : SameOutside [.composer, .signs, .line] s t) :
    t = { s with composer := t.composer, signs := t.signs, line := t.line } := by
  cases s
  cases t
  simp only [State.mk.injEq, true_and]
  exact ⟨h .pending (by decide), h .clock (by decide), h .inputs (by decide), h .station (by decide), h .detector (by decide),
    h .trace (by decide), h .requests (by decide), h .records (by decide), h .measures (by decide), h .neighbours (by decide),
    h .speed (by decide), h .queue (by decide), h .closures (by decide), h .shoulder (by decide), h .retention (by decide),
    h .faults (by decide), h .free (by decide)⟩

/-- The lower bound reads no plan, no channel and no line (R82). -/
theorem State.lowerBound_of_composer_same {s t : State} (h : SameOutside [.composer, .signs, .line] s t) :
    t.lowerBound = s.lowerBound := by
  rw [State.eq_of_composer_same h]
  rfl

/-- Of the composer's own state the composition reads the QUEUE candidate alone (R142). -/
theorem State.compose_of_composer_same {s t : State} (h : SameOutside [.composer, .signs, .line] s t)
    (hq : t.composer.queueCandidate = s.composer.queueCandidate) : t.compose = s.compose := by
  have e := State.eq_of_composer_same h
  generalize t.composer = x, t.signs = g, t.line = l at e hq
  obtain ⟨d, c, n, a⟩ := x
  subst e hq
  rfl

/-- The lower bound reads none of what it sets in speed control (R82, R86). -/
theorem State.lowerBound_setSpeed (s : State) (x : Speed) (hd : x.demand = s.speed.demand)
    (ho : x.override = s.speed.override) : (s.setSpeed x).lowerBound = s.lowerBound := by
  obtain ⟨d, w, l, b, p, h, e, o, c⟩ := x
  subst hd ho
  rfl

/-! ### The readers of a first report -/

theorem State.commit_composer (s : State) : s.commit.composer = { s.composer with active := s.composer.next } := by
  have fold : (Chan.all.foldl (fun t c => t.commitChannel s.composer.active c)
      (s.setComposer { s.composer with active := s.composer.next })).composer = { s.composer with active := s.composer.next } :=
    SameOutside.foldl (fun t c => t.commitChannel_same s.composer.active c) _ _ .composer (by decide)
  exact (State.noteDisplacement_same _ _ .composer (by decide) : _ = _).trans fold

/-- The tried gate leaves the plans equal or a channel SETTING, and changes no plan but the active one (R143). -/
theorem State.tryCommit_spec (s : State) (hd : s.composer.display = true) :
    s.tryCommit.composer = { s.composer with active := s.tryCommit.composer.active } ∧
      (s.composer.next = s.tryCommit.composer.active ∨ s.tryCommit.signs.anySetting = true) := by
  rcases s.tryCommit_cases with ⟨-, -, -, h⟩ | ⟨hg, h⟩
  · rw [h, s.commit_composer]
    exact ⟨rfl, .inl rfl⟩
  · rw [h]
    refine ⟨rfl, ?_⟩
    rcases hg with hg | hg
    · rw [hd] at hg
      cases hg
    · exact hg

theorem State.recompute_composer (s : State) (hd : s.composer.display = true) :
    s.recompute.composer = { s.composer with next := s.compose } := by
  unfold State.recompute
  rw [if_pos hd]
  dsimp only
  split
  · exact State.flagUrgent_same _ .composer (by decide)
  · rfl

/-- The composer's report of a station whose display is on: the next plan is the composition of its inputs, and is the
active one unless a channel is SETTING (R142, R143). -/
theorem State.servePlan_spec (s : State) (hd : s.composer.display = true) :
    s.servePlan.composer.display = true ∧ s.servePlan.composer.next = s.servePlan.compose ∧
      (s.servePlan.composer.next = s.servePlan.composer.active ∨ s.servePlan.signs.anySetting = true) := by
  have hr := s.recompute_composer hd
  obtain ⟨hc, hg⟩ := s.recompute.tryCommit_spec (by rw [hr]; exact hd)
  have hcomp : s.servePlan.compose = s.compose :=
    State.compose_of_composer_same s.servePlan_same (by
      show s.recompute.tryCommit.composer.queueCandidate = _
      rw [hc, hr])
  have hnext : s.servePlan.composer.next = s.compose := by
    show s.recompute.tryCommit.composer.next = _
    rw [hc, hr]
  refine ⟨?_, hnext.trans hcomp.symm, ?_⟩
  · show s.recompute.tryCommit.composer.display = _
    rw [hc, hr]
    exact hd
  · rw [hnext]
    rwa [hr] at hg

theorem State.serveSpeed_speed (s : State) :
    s.serveSpeed.speed = { s.applyBound.speed with endCondition := s.applyBound.endHolds } := rfl

/-- Speed control changes no term of the lower bound (R82). -/
theorem State.lowerBound_serveSpeed (s : State) : s.serveSpeed.lowerBound = s.lowerBound := by
  have hb : s.applyBound.lowerBound = s.lowerBound := by
    rcases s.applyBound_cases with ⟨-, e⟩ | ⟨-, -, e⟩ | ⟨-, -, -, e⟩
    · rw [e]
    · rw [e]
      exact s.lowerBound_setSpeed _ rfl rfl
    · rw [e]
      exact s.lowerBound_setSpeed _ rfl rfl
  unfold State.serveSpeed State.updateEnd
  refine (s.applyBound.lowerBound_setSpeed _ ?_ ?_).trans hb <;> rfl

/-- Speed control's first report after its reset: the plan step is the lower bound, and a hold begins with a step above 0
(R86). -/
theorem State.serveSpeed_of_reset (s : State) (hs : s.speed = Speed.reset) :
    s.serveSpeed.speed.planStep = s.serveSpeed.lowerBound ∧
      s.serveSpeed.speed.heldSince = if s.serveSpeed.lowerBound = 0 then 0 else s.clock := by
  rw [s.lowerBound_serveSpeed, s.serveSpeed_speed]
  have h0 : s.speed.bound = 0 ∧ s.speed.planStep = 0 ∧ s.speed.heldSince = 0 := by rw [hs]; exact ⟨rfl, rfl, rfl⟩
  obtain ⟨hb0, hp0, hh0⟩ := h0
  rcases s.applyBound_cases with ⟨hb, e⟩ | ⟨hb, -, e⟩ | ⟨hb, hl, -, -⟩
  · simp [e, hb, hb0, hp0, hh0]
  · rw [hb0] at hb
    simp [e, hb]
  · omega

theorem State.takeCandidate_display (s : State) : s.takeCandidate.composer.display = s.composer.display := rfl

/-! ### The entry into WARMING (R168) -/

/-- The state in which the blocks have started at the entry into WARMING, before the readers take the change of mode. -/
def State.warmingStarted (s : State) : State :=
  let s1 := s.setStation
    { s.station with mode := .warming, warmUp := some (s.clock + s.cfg.expiryCount * s.cfg.period * second), warmedUp := false
                     firstEvaluation := false, markSetAt := none }
  let s2 := (s1.startDetector.startPublication s.cfg.period).setNeighbours
    { s.neighbours with isolationTimer := some (s.clock + s.cfg.isolationTime * second) }
  s2.setComposer { s2.composer with display := true }

theorem execWarmingEntry_of_ready (dt : Nat) (s : State) (hm : s.mode = .starting) (hc : s.station.check = .usable)
    (hr : s.station.restored = true) (hi : s.signs.anyIdentifying = false) :
    execWarmingEntry dt s = .next ((s.advance dt).warmingStarted.settle (s.advance dt) []) := by
  refine if_pos ?_
  have hi' : (s.advance dt).signs.anyIdentifying = false := hi
  rw [Bool.and_eq_true, hi']
  simp [hm, hc, hr]

/-- All the readers but the shoulder controller take the change of mode at the entry (R163). -/
theorem State.settle_warmingStarted (s : State) (hm : s.mode = .starting) :
    s.warmingStarted.settle s [] = s.warmingStarted.serveQueue.serveSpeed.serveComposer := by
  have hr : s.warmingStarted.reported s = true := by
    have : s.warmingStarted.mode ≠ s.mode := by rw [hm]; exact nofun
    simp [State.reported, this]
  have hs : s.warmingStarted.serveShoulder s = s.warmingStarted := s.warmingStarted.serveShoulder_of_notEntered s nofun
  rcases s.warmingStarted.settle_cases s [] with ⟨-, -, h⟩ | ⟨ha | ha, -⟩
  · rw [h]
    show (((s.warmingStarted.serveShoulder s).serveQueue).serveSpeed).serveComposer = _
    rw [hs]
  · cases ha
  · rw [hr] at ha
    cases ha

theorem State.warmingStarted_same (s : State) :
    SameOutside (andReaders [.clock, .station, .detector, .neighbours]) s s.warmingStarted := by
  intro b hb
  cases b
  case clock | station | detector | neighbours | queue | speed | composer | signs | line => exact absurd (by decide) hb
  all_goals rfl

theorem Line.setPending_spec (l : Line) : l.setPending.pending = true ∧ Line.slotOnly l l.setPending := by
  by_cases h : l.tx = .quiet <;> simp [Line.setPending, Line.wake, Line.hasWork, Line.slotOnly, h]

/-- The publication starts from the present moment with the pending mark set (R53). -/
theorem State.startPublication_line (s : State) (period : Nat) :
    let l := (s.startPublication period).line
    l.pending = true ∧ l.pubTimer = some (s.clock + period * second) ∧ l.timerPeriod = period ∧
      l.gapFrom = s.clock ∧ l.heldFrom = s.clock := by
  obtain ⟨hp, hs⟩ := Line.setPending_spec
    { s.line with pubTimer := some (s.clock + period * second), timerPeriod := period, gapFrom := s.clock, heldFrom := s.clock }
  exact ⟨hp, congrArg Line.pubTimer hs, congrArg Line.timerPeriod hs, congrArg Line.gapFrom hs, congrArg Line.heldFrom hs⟩

theorem State.startLane_loop (s : State) (k : Lane) (side : Side) :
    (s.startLane k).loop side = s.startLoop { lane := k, side := side } := by
  unfold State.startLane
  dsimp only
  split <;> cases side <;> rfl

/-- With both loops OK the mode follows from loop B's presence in the configuration (Table 1-2). -/
theorem State.startLane_mode (s : State) (k : Lane) :
    (s.startLane k).mode =
      if s.cfg.laneCount < k.num then .none else if (s.cfg.lanes.get k).loopB then .dual else .singleA := by
  unfold State.startLane
  dsimp only
  by_cases h : k.num ≤ s.cfg.laneCount
  · rw [if_pos h, if_neg (by omega)]
    simp [modeOfLoops, State.startLoop, LoopRecord.reset]
  · rw [if_neg h, if_pos (by omega)]
    rfl

/-- The state after the entry into WARMING: the blocks have started and the readers have taken their first reports. -/
def State.warmingEntered (s : State) : State := s.warmingStarted.serveQueue.serveSpeed.serveComposer

theorem State.warmingEntered_from (s : State) : SameOutside readers s.warmingStarted s.warmingEntered :=
  ((State.serveQueue_same _).trans (State.serveSpeed_same _) (n := readers) (by decide) (by decide)).trans
    (State.serveComposer_same _) (fun _ x => x) (by decide)

theorem State.warmingEntered_line (s : State) : Line.slotGrows s.warmingStarted.line s.warmingEntered.line := by
  have same : SameOutside [.queue, .speed, .composer] s.warmingStarted s.warmingStarted.serveQueue.serveSpeed.takeCandidate :=
    ((State.serveQueue_same _).trans (State.serveSpeed_same _) (n := [.queue, .speed]) (by decide) (by decide)).trans
      (State.takeCandidate_same _) (by decide) (by decide)
  have h : s.warmingStarted.serveQueue.serveSpeed.takeCandidate.line = s.warmingStarted.line := same .line (by decide)
  exact Line.slotGrows_trans (Line.slotGrows_of_eq h) (State.servePlan_slotGrows _)

/-- The first plan step is the first lower bound (R86). -/
theorem State.warmingEntered_speed (s : State) (hs : s.speed = Speed.reset) :
    s.warmingEntered.speed.planStep = s.warmingEntered.lowerBound ∧
      s.warmingEntered.speed.heldSince = if s.warmingEntered.lowerBound = 0 then 0 else s.clock := by
  let v := s.warmingStarted.serveQueue.serveSpeed
  have hspeed : s.warmingEntered.speed = v.speed := v.serveComposer_same .speed (by decide)
  have hbound : s.warmingEntered.lowerBound = v.lowerBound := State.lowerBound_of_composer_same v.serveComposer_same
  rw [hspeed, hbound]
  exact s.warmingStarted.serveQueue.serveSpeed_of_reset hs

/-- The first plan is the composition of the inputs, committed unless a channel is SETTING (R141 to R143, R147). -/
theorem State.warmingEntered_composer (s : State) :
    s.warmingEntered.composer.display = true ∧ s.warmingEntered.composer.next = s.warmingEntered.compose ∧
      (s.warmingEntered.composer.next = s.warmingEntered.composer.active ∨ s.warmingEntered.signs.anySetting = true) := by
  refine State.servePlan_spec s.warmingStarted.serveQueue.serveSpeed.takeCandidate ?_
  have h : s.warmingStarted.serveQueue.serveSpeed.composer = s.warmingStarted.composer :=
    State.serveSpeed_same s.warmingStarted.serveQueue .composer (by decide)
  rw [State.takeCandidate_display, h]
  rfl

/-- Settles O22: the blocks start, then the queue monitor, speed control and the composer take their first report. -/
theorem warmingEntryStartsTheBlocks : Obligations.WarmingEntryStartsTheBlocks := by
  intro dt s hm hc hr hi hsp
  rw [exec_warmingEntry_eq, execWarmingEntry_of_ready dt s hm hc hr hi, State.settle_warmingStarted (s.advance dt) hm]
  have from_ := (s.advance dt).warmingEntered_from
  have hline := (s.advance dt).warmingEntered_line
  have hclk : (s.advance dt).warmingEntered.clock = s.clock + dt := from_ .clock (by decide)
  have hdet : (s.advance dt).warmingEntered.detector = (s.advance dt).warmingStarted.detector := from_ .detector (by decide)
  have htick : (s.advance dt).warmingEntered.tick = (s.advance dt).tick := congrArg (fun n => BitVec.ofNat 32 (n / 100)) hclk
  obtain ⟨hpend, hpub, hper, hgap, hhold⟩ := (s.advance dt).startPublication_line s.cfg.period
  obtain ⟨hstep, hheld⟩ := (s.advance dt).warmingEntered_speed hsp
  obtain ⟨hdisp, hnext, hgate⟩ := (s.advance dt).warmingEntered_composer
  have hsame : SameOutside (andReaders [.clock, .station, .detector, .neighbours]) s (s.advance dt).warmingEntered :=
    ((s.advance_same dt).trans (s.advance dt).warmingStarted_same (by decide) (fun _ x => x)).trans from_
      (fun _ x => x) (by decide)
  refine ⟨(s.advance dt).warmingEntered, rfl, hclk, from_ .station (by decide), ?_, ?_, ?_, ?_, from_ .neighbours (by decide),
    hline.2 hpend, (congrArg Line.pubTimer hline.1).trans hpub, (congrArg Line.timerPeriod hline.1).trans hper,
    (congrArg Line.gapFrom hline.1).trans hgap, (congrArg Line.heldFrom hline.1).trans hhold, hdisp, hstep, hheld, hnext, hgate,
    hsame⟩
  · rw [hdet, htick]
    rfl
  · rw [hdet, htick]
    rfl
  · intro k _ side
    rw [hdet, htick]
    exact (congrArg (LaneDetector.loop · side) (Lanes.get_build _ k)).trans (State.startLane_loop _ k side)
  · intro k _
    rw [hdet]
    exact (congrArg LaneDetector.mode (Lanes.get_build _ k)).trans (State.startLane_mode _ k)

end Sys2Proof.Machine
end

section
/-!
PROOFS. A command of the gateway that an acting station hears and that addresses it (R46, R175, R176), and the requests for
LANES, TRACE and other types (R17, R180, R182).
-/
namespace Sys2Proof.Machine

/-! ### The arrival of a command's frame -/

/-- No station but one of number 63 rejects the frame of a command (R46). -/
theorem commandFrame_rejected (own : Nat) (kind : CommandKind) (body : List Octet) (h : own ≠ 63) :
    (commandFrame kind body).rejected own = false := by
  have passes : (commandFrame kind body).passes = true := beq_self_eq_true _
  have source : (commandFrame kind body).source = 63 := rfl
  have hk : (commandFrame kind body).kind = BitVec.ofNat 4 kind.code := rfl
  unfold Frame.rejected
  rw [passes, source, hk]
  have h63 : ((63 : BitVec 6).toNat == own) = false := by simpa using h.symm
  rw [h63]
  cases kind <;> rfl

/-- The state in which the frame of a command has arrived and is delivered next. -/
def State.arrived (s : State) : State := (s.setLine (s.line.toIdle s.clock)).noteArrival 63

theorem Mode.heard_acting (m : Mode) : m.heard.acting = m.acting := by cases m <;> rfl

theorem Mode.heard_ne_isolated (m : Mode) : m.heard ≠ .isolated := by cases m <;> exact nofun

theorem Mode.heard_eq_warming (m : Mode) : m.heard = .warming ↔ m = .warming := by cases m <;> simp [Mode.heard]

theorem State.arrived_same (s : State) : SameOutside [.line, .neighbours, .station, .faults] s s.arrived :=
  (s.setLine_same _).trans (State.noteArrival_same _ 63) (by decide) (by decide)

/-- What the arrival of a command's frame does in an acting station (R46, R67, R70, R71). -/
theorem State.arrived_spec (s : State) (ha : s.acting = true) :
    s.arrived.station = { s.station with mode := s.mode.heard } ∧ s.arrived.neighbours = s.heardNeighbours 0 ∧
      s.arrived.faults = s.faults.close .neighbourLost 63 ∧ s.arrived.line = s.line.toIdle s.clock ∧
      s.arrived.signs = s.signs := by
  have ha' : (s.setLine (s.line.toIdle s.clock)).acting = true := ha
  unfold State.arrived State.noteArrival
  rw [if_pos ha']
  by_cases hm : s.mode = .isolated
  · have hh : s.mode.heard = .running := if_pos hm
    have hm' : (s.setLine (s.line.toIdle s.clock)).mode = .isolated := hm
    rw [hh]
    dsimp only
    rw [if_pos hm']
    exact ⟨rfl, rfl, rfl, rfl, rfl⟩
  · have hh : s.mode.heard = s.mode := if_neg hm
    have hm' : (s.setLine (s.line.toIdle s.clock)).mode ≠ .isolated := hm
    rw [hh]
    dsimp only
    rw [if_neg hm']
    exact ⟨rfl, rfl, rfl, rfl, rfl⟩

/-- A command heard by an acting station that it addresses is obeyed by its owner after the arrival of its frame, its result
is recorded, and the reports are taken last (R175, R176). -/
theorem State.command_of_heard (s : State) (c : Command) (body : List Octet) (inFault : Bool)
    (owner : State → State × ResultCode) (ha : s.acting = true) (ho : s.own ≠ 63)
    (hh : s.canHear (commandFrame c.kind body) = true) (hadr : s.arrived.addresses c = true) :
    s.command c body Order.plain inFault owner =
      ((owner s.arrived).1.record c.kind (owner s.arrived).2).settle s [] := by
  have hearly : s.arrived.serveSome s [] = s.arrived := ite_self _
  have hact : s.arrived.acting = true := by
    unfold State.acting State.mode
    rw [(s.arrived_spec ha).1]
    exact (Mode.heard_acting _).trans ha
  have hobey : s.arrived.obey c inFault owner = (owner s.arrived).1.record c.kind (owner s.arrived).2 := by
    unfold State.obey
    rw [if_pos hadr, hact, Bool.true_or, if_pos rfl]
  unfold State.command State.receive
  rw [if_pos hh, commandFrame_rejected _ _ _ ho, if_neg Bool.false_ne_true]
  show ((s.arrived.serveSome s []).obey c inFault owner).settle s [] = _
  rw [hearly, hobey]

/-- What a command that is obeyed leaves behind, whose owner changes the line and the trace buffer at most: `w` is the state
that the owner has made of the arrival's. -/
theorem State.commanded_of_settle (s w : State) (dt : Nat) (kind : CommandKind) (r : ResultCode) {own n : List Block}
    (ha : s.acting = true) (hw : SameOutside own (s.advance dt).arrived w) (hown : own ⊆ [.line, .trace])
    (hn : andReaders [.clock, .station, .neighbours, .faults] ⊆ n) (ho : own ⊆ n) :
    let t := (w.record kind r).settle (s.advance dt) []
    s.commanded dt kind r t ∧ Line.slotOnly w.line t.line ∧ t.trace = w.trace ∧
      t.faults = s.faults.close .neighbourLost 63 ∧
      SameOutside n s t := by
  intro t
  obtain ⟨hst, hne, hfa, -, -⟩ := (s.advance dt).arrived_spec ha
  have hout {b : Block} (h : b ∉ [Block.line, .trace]) : b ∉ own := fun hb => h (hown hb)
  have hws : w.station = { s.station with mode := s.mode.heard } := (hw .station (hout (by decide))).trans hst
  have hne' : (w.record kind r).notEntered (s.advance dt) := by
    intro h
    have : w.station.mode = .isolated := h
    rw [hws] at this
    exact absurd this (Mode.heard_ne_isolated _)
  have hset := (w.record kind r).settle_same_of_notEntered (s.advance dt) [] hne'
  refine ⟨⟨?_, ?_, ?_⟩, ((w.record kind r).settle_slotGrows _ _).1, hset .trace (by decide), ?_, ?_⟩
  · have h1 : t.clock = w.clock := hset .clock (by decide)
    have h2 : w.clock = (s.advance dt).arrived.clock := hw .clock (hout (by decide))
    rw [h1, h2]
    exact (s.advance dt).arrived_same .clock (by decide)
  · have h1 : t.neighbours = w.neighbours := hset .neighbours (by decide)
    have h2 : w.neighbours = (s.advance dt).arrived.neighbours := hw .neighbours (hout (by decide))
    rw [h1, h2, hne]
    rfl
  · have h1 : t.station = (w.record kind r).station := hset .station (by decide)
    rw [h1, State.record, State.setStation_station, hws]
  · have h1 : t.faults = w.faults := hset .faults (by decide)
    have h2 : w.faults = (s.advance dt).arrived.faults := hw .faults (hout (by decide))
    rw [h1, h2, hfa]
    rfl
  · have h1 : SameOutside (andReaders [.clock, .station, .neighbours, .faults]) s (s.advance dt).arrived :=
      (s.advance_same dt).trans (State.arrived_same _) (by decide) (by decide)
    exact ((h1.trans hw hn ho).trans (w.record_same kind r) (fun _ x => x) (fun _ h => hn (by simp_all [andReaders]))).trans hset
      (fun _ x => x) (fun _ h => hn (List.mem_append_right _ h))

/-! ### The LANES report (R182) -/

theorem State.laneList_length (s : State) (h : s.cfg.laneCount ≤ 5) : s.laneList.length = s.cfg.laneCount := by
  unfold State.laneList
  generalize s.cfg.laneCount = n at h
  interval_cases n <;> rfl

/-- The one frame of a LANES report has 46 digits for each lane (Table 13-6). -/
theorem State.lanesReport_length (s : State) (h : s.cfg.laneCount ≤ 5) :
    s.lanesReport.length = 1 + (2 + 46 * s.cfg.laneCount + 7) / 8 := by
  unfold State.lanesReport
  rw [List.length_cons, packDigits_length, List.length_append, digitsOf_length,
    length_flatMap_of_const _ 46 (fun k => laneDigits_length _ _), s.laneList_length h]
  omega

/-- The report reads the configuration, the lanes' modes and records, and whether results are to be left out (R182). -/
theorem State.lanesReport_congr {s t : State} (hc : t.cfg = s.cfg) (hd : t.detector = s.detector) (hr : t.records = s.records)
    (hw : t.mode = .warming ↔ s.mode = .warming) (he : t.station.firstEvaluation = s.station.firstEvaluation) :
    t.lanesReport = s.lanesReport := by
  have hk (k : Lane) : t.reportedRecord k = s.reportedRecord k := by simp only [State.reportedRecord, hw, he, hr]
  simp only [State.lanesReport, State.laneList, hc, hd, hk]

theorem State.arrived_lanesReport (s : State) (ha : s.acting = true) : s.arrived.lanesReport = s.lanesReport := by
  have hst := (s.arrived_spec ha).1
  refine State.lanesReport_congr ?_ (s.arrived_same .detector (by decide)) (s.arrived_same .records (by decide)) ?_ ?_
  · unfold State.cfg
    rw [hst]
  · unfold State.mode
    rw [hst]
    exact Mode.heard_eq_warming _
  · rw [hst]

/-! ### Requests (R17, R180) -/

/-- A request addresses the station of its number. -/
theorem State.arrived_addresses_request (s : State) (ha : s.acting = true) (type lane count : Nat) :
    s.arrived.addresses (.request s.own type lane count) = true := by
  have : s.arrived.own = s.own := by
    unfold State.own
    rw [(s.arrived_spec ha).1]
  unfold State.addresses
  rw [this]
  exact beq_self_eq_true _

/-- One frame is answered in a free place (R180). -/
theorem State.answer_one (s : State) (body : List Octet) :
    s.answer [body] = if s.line.replies.length < 4 then (s.enqueue [body], .accepted) else (s, .busy) := by
  unfold State.answer State.freePlaces
  simp only [List.length_singleton]
  by_cases h : s.line.replies.length < 4
  · rw [if_pos h, if_neg (show ¬(4 - s.line.replies.length < 1) by omega)]
  · rw [if_neg h, if_pos (show 4 - s.line.replies.length < 1 by omega)]

theorem State.enqueue_slotOnly (s : State) (body : List Octet) :
    Line.slotOnly { s.line with replies := s.line.replies ++ [body] } (s.enqueue [body]).line := by
  rw [s.enqueue_line]
  rfl

theorem Line.slotOnly_replies {l m : Line} {r : List (List Octet)} (h : Line.slotOnly { l with replies := r } m) :
    m.replies = r ∧ Line.slotOnly { l with replies := m.replies } m := by
  have hr : m.replies = r := congrArg Line.replies h
  exact ⟨hr, hr ▸ h⟩

/-- A REQUEST for LANES (R180, R182). -/
theorem requestLanes_taken (dt : Nat) (station lane count : Octet) (s : State) (ha : s.acting = true) (ho : s.own ≠ 63)
    (hs : station.toNat = s.own) (hh : s.canHear (commandFrame .request [station, 2, lane, count]) = true) :
    ∃ t, exec (.requestLanes dt station lane count) s = .next t ∧
      s.commanded dt .request (if s.line.replies.length < 4 then .accepted else .busy) t ∧
      t.line.replies = s.line.replies ++ (if s.line.replies.length < 4 then [s.lanesReport] else []) ∧
      Line.slotOnly { s.line.toIdle (s.clock + dt) with replies := t.line.replies } t.line ∧
      t.faults = s.faults.close .neighbourLost 63 ∧
      SameOutside (andReaders [.clock, .station, .neighbours, .faults]) s t := by
  have hadr := (s.advance dt).arrived_addresses_request ha 2 lane.toNat count.toNat
  have hline := ((s.advance dt).arrived_spec ha).2.2.2.1
  have hrep : (s.advance dt).arrived.lanesReport = s.lanesReport := (s.advance dt).arrived_lanesReport ha
  have hcmd := (s.advance dt).command_of_heard (.request s.own 2 lane.toNat count.toNat) [station, 2, lane, count] false
    (fun t => t.answer [t.lanesReport]) ha ho hh hadr
  rw [exec_requestLanes_eq, execRequestLanes, hs]
  refine ⟨_, congrArg _ hcmd, ?_⟩
  have hfree : (s.advance dt).arrived.line.replies = s.line.replies := by rw [hline]; rfl
  simp only [State.answer_one, hrep, hfree]
  by_cases hr : s.line.replies.length < 4
  · simp only [if_pos hr]
    obtain ⟨hc, hslot, -, hf, hsame⟩ := s.commanded_of_settle _ dt .request .accepted
      (n := andReaders [.clock, .station, .neighbours, .faults]) ha ((s.advance dt).arrived.enqueue_same [s.lanesReport])
      (by decide) (fun _ x => x) (by decide)
    have hslot := Line.slotOnly_trans (State.enqueue_slotOnly _ _) hslot
    rw [hline] at hslot
    obtain ⟨hreplies, hslot⟩ := Line.slotOnly_replies hslot
    exact ⟨hc, hreplies, hslot, hf, hsame⟩
  · simp only [if_neg hr, List.append_nil]
    obtain ⟨hc, hslot, -, hf, hsame⟩ := s.commanded_of_settle _ dt .request .busy
      (n := andReaders [.clock, .station, .neighbours, .faults]) ha (SameOutside.refl [] _)
      (by decide) (fun _ x => x) (by decide)
    rw [hline] at hslot
    obtain ⟨hreplies, hslot⟩ := Line.slotOnly_replies (l := s.line.toIdle (s.clock + dt)) (r := s.line.replies) hslot
    exact ⟨hc, hreplies, hslot, hf, hsame⟩

/-- A trace of a lane begins (R17). -/
def Trace.started (lane count : Nat) : Trace := { Trace.reset with state := .capturing, lane := lane, requested := count }

/-- A REQUEST for TRACE, whatever the trace buffer answers (R17, R180): only the trace buffer changes. -/
theorem requestTrace_answered (dt : Nat) (station lane count : Octet) (s : State) (x : Trace) (r : ResultCode)
    (ha : s.acting = true) (ho : s.own ≠ 63) (hs : station.toNat = s.own)
    (hh : s.canHear (commandFrame .request [station, 3, lane, count]) = true)
    (hx : (s.advance dt).arrived.startTrace lane.toNat count.toNat = ((s.advance dt).arrived.setTrace x, r)) :
    ∃ t, exec (.requestTrace dt station lane count) s = .next t ∧ s.commanded dt .request r t ∧ t.trace = x ∧
      t.faults = s.faults.close .neighbourLost 63 ∧ Line.slotOnly (s.line.toIdle (s.clock + dt)) t.line ∧
      SameOutside (andReaders [.clock, .station, .neighbours, .faults, .trace]) s t := by
  have hadr := (s.advance dt).arrived_addresses_request ha 3 lane.toNat count.toNat
  have hline := ((s.advance dt).arrived_spec ha).2.2.2.1
  have hcmd := (s.advance dt).command_of_heard (.request s.own 3 lane.toNat count.toNat) [station, 3, lane, count] false
    (fun t => t.startTrace lane.toNat count.toNat) ha ho hh hadr
  rw [hx] at hcmd
  rw [exec_requestTrace_eq, execRequestTrace, hs]
  obtain ⟨hc, hslot, ht, hf, hsame⟩ := s.commanded_of_settle ((s.advance dt).arrived.setTrace x) dt .request r
    (n := andReaders [.clock, .station, .neighbours, .faults, .trace]) ha (State.setTrace_same _ x)
    (by decide) (by decide) (by decide)
  rw [State.setTrace_line, hline] at hslot
  exact ⟨_, congrArg _ hcmd, hc, ht, hf, hslot, hsame⟩

/-- What the trace buffer answers to a request (R17). -/
theorem State.startTrace_spec (s : State) (lane count : Nat) :
    s.startTrace lane count =
      if lane < 1 ∨ s.cfg.laneCount < lane ∨ count < 1 ∨ 32 < count then (s.setTrace s.trace, .refusedRange)
      else if s.trace.state = .idle then (s.setTrace (Trace.started lane count), .accepted)
      else (s.setTrace s.trace, .busy) := rfl

/-- A REQUEST of any other type (R180). -/
theorem requestOtherType_refused (dt : Nat) (station type lane count : Octet) (s : State) (ha : s.acting = true)
    (ho : s.own ≠ 63) (hs : station.toNat = s.own) (h1 : type ≠ 1) (h2 : type ≠ 2) (h3 : type ≠ 3)
    (hh : s.canHear (commandFrame .request [station, type, lane, count]) = true) :
    ∃ t, exec (.requestOtherType dt station type lane count) s = .next t ∧ s.commanded dt .request .refusedRange t ∧
      t.faults = s.faults.close .neighbourLost 63 ∧ Line.slotOnly (s.line.toIdle (s.clock + dt)) t.line ∧
      SameOutside (andReaders [.clock, .station, .neighbours, .faults]) s t := by
  have hadr := (s.advance dt).arrived_addresses_request ha type.toNat lane.toNat count.toNat
  have hline := ((s.advance dt).arrived_spec ha).2.2.2.1
  have hcmd := (s.advance dt).command_of_heard (.request s.own type.toNat lane.toNat count.toNat)
    [station, type, lane, count] false (fun t => (t, .refusedRange)) ha ho hh hadr
  rw [exec_requestOtherType_eq, execRequestOtherType, hs]
  obtain ⟨hc, hslot, -, hf, hsame⟩ := s.commanded_of_settle (s.advance dt).arrived dt .request .refusedRange
    (n := andReaders [.clock, .station, .neighbours, .faults]) ha (SameOutside.refl [] _)
    (by decide) (fun _ x => x) (by decide)
  rw [hline] at hslot
  exact ⟨_, (if_neg (not_or.mpr ⟨h1, not_or.mpr ⟨h2, h3⟩⟩)).trans (congrArg _ hcmd), hc, hf, hslot, hsame⟩

/-- Settles O59: each request is heard, judged by its owner, and recorded. -/
theorem otherRequestsAreTakenOrRefused : Obligations.OtherRequestsAreTakenOrRefused := by
  refine ⟨?_, ?_, fun dt station type lane count s ha ho hs h1 h2 h3 hh =>
    requestOtherType_refused dt station type lane count s ha ho hs h1 h2 h3 hh⟩
  · intro dt station lane count s ha ho hs hh
    obtain ⟨t, he, hc, hr, hl, hf, hsame⟩ := requestLanes_taken dt station lane count s ha ho hs hh
    exact ⟨t, he, hc, hr, rfl, s.lanesReport_length, hl, hf, hsame⟩
  · intro dt station lane count s ha ho hs hh bad
    have hspec := (s.advance dt).arrived.startTrace_spec lane.toNat count.toNat
    have hcfg : (s.advance dt).arrived.cfg = s.cfg := by
      unfold State.cfg
      rw [((s.advance dt).arrived_spec ha).1]
      rfl
    have htrace : (s.advance dt).arrived.trace = s.trace := (s.advance dt).arrived_same .trace (by decide)
    rw [hcfg, htrace] at hspec
    by_cases hb : bad
    · obtain ⟨t, he, hc, ht, h⟩ := requestTrace_answered dt station lane count s _ _ ha ho hs hh (hspec.trans (if_pos hb))
      exact ⟨t, he, fun _ => ⟨hc, ht⟩, fun n => absurd hb n, fun n => absurd hb n, h⟩
    · rw [if_neg hb] at hspec
      by_cases hi : s.trace.state = .idle
      · obtain ⟨t, he, hc, ht, h⟩ := requestTrace_answered dt station lane count s _ _ ha ho hs hh (hspec.trans (if_pos hi))
        exact ⟨t, he, fun b => absurd b hb, fun _ _ => ⟨hc, ht⟩, fun _ n => absurd hi n, h⟩
      · obtain ⟨t, he, hc, ht, h⟩ := requestTrace_answered dt station lane count s _ _ ha ho hs hh (hspec.trans (if_neg hi))
        exact ⟨t, he, fun b => absurd b hb, fun _ n => absurd n hi, fun _ _ => ⟨hc, ht⟩, h⟩

end Sys2Proof.Machine
end

section
/-!
PROOFS. The layer of the detector unit: what its operations leave alone, what the completion of a vehicle adds to the sums
of its lane (R12 to R14), and what a change of the measurement mode settles (R7, R8).
-/
namespace Sys2Proof.Machine

/-! ### One lane of the detector unit -/

@[simp] theorem State.setLane_get (s : State) (k : Lane) (d : LaneDetector) : (s.setLane k d).detector.lanes.get k = d :=
  Lanes.get_set _ _ _

theorem State.setLane_get_of_ne (s : State) {j k : Lane} (d : LaneDetector) (h : j ≠ k) :
    (s.setLane k d).detector.lanes.get j = s.detector.lanes.get j := Lanes.get_set_of_ne _ _ h

@[simp] theorem State.setLane_setLane (s : State) (k : Lane) (d e : LaneDetector) :
    (s.setLane k d).setLane k e = s.setLane k e := by
  simp [State.setLane, State.setDetector]

@[simp] theorem State.setLane_self (s : State) (k : Lane) : s.setLane k (s.detector.lanes.get k) = s := by
  simp [State.setLane, State.setDetector]

@[simp] theorem LaneDetector.loop_setLoop (d : LaneDetector) (side : Side) (r : LoopRecord) :
    (d.setLoop side r).loop side = r := by cases side <;> rfl

/-! ### The work of the detector unit -/

/-- Of two states the second differs from the first only where loops, vehicles and intervals act: the detector unit, the trace
buffer, the requests, the fault list and the slow-vehicle runs. -/
def State.DetectorWork (s t : State) : Prop :=
  t = { s with detector := t.detector, trace := t.trace, requests := t.requests, faults := t.faults
               queue := { s.queue with runs := t.queue.runs } }

theorem State.DetectorWork.refl (s : State) : s.DetectorWork s := rfl

theorem State.DetectorWork.trans {s t u : State} (h : s.DetectorWork t) (k : t.DetectorWork u) : s.DetectorWork u := by
  refine Eq.trans k ?_
  rw [h]

theorem State.DetectorWork.eq {s t : State} (h : s.DetectorWork t) :
    t = { s with detector := t.detector, trace := t.trace, requests := t.requests, faults := t.faults
                 queue := { s.queue with runs := t.queue.runs } } := h

section
variable {s t : State} (h : s.DetectorWork t)
include h

theorem State.DetectorWork.clock : t.clock = s.clock := (congrArg State.clock h.eq).trans rfl
theorem State.DetectorWork.station : t.station = s.station := (congrArg State.station h.eq).trans rfl
theorem State.DetectorWork.shoulder : t.shoulder = s.shoulder := (congrArg State.shoulder h.eq).trans rfl
theorem State.DetectorWork.signs : t.signs = s.signs := (congrArg State.signs h.eq).trans rfl
theorem State.DetectorWork.cfg : t.cfg = s.cfg := (congrArg State.cfg h.eq).trans rfl
theorem State.DetectorWork.tick : t.tick = s.tick := (congrArg State.tick h.eq).trans rfl
theorem State.DetectorWork.seconds : t.seconds = s.seconds := (congrArg State.seconds h.eq).trans rfl
theorem State.DetectorWork.acting : t.acting = s.acting := (congrArg State.acting h.eq).trans rfl
theorem State.DetectorWork.inputs : t.inputs = s.inputs := (congrArg State.inputs h.eq).trans rfl
theorem State.DetectorWork.laneList : t.laneList = s.laneList := (congrArg State.laneList h.eq).trans rfl
theorem State.DetectorWork.queueState : t.queue.state = s.queue.state := (congrArg (fun u => u.queue.state) h.eq).trans rfl
theorem State.DetectorWork.loopConfigured (l : Loop) : t.loopConfigured l = s.loopConfigured l :=
  (congrArg (State.loopConfigured · l) h.eq).trans rfl
theorem State.DetectorWork.reached (x : Tick) : t.reached x = s.reached x := (congrArg (State.reached · x) h.eq).trans rfl
theorem State.DetectorWork.lasted (p : Presence) : t.lasted p = s.lasted p := (congrArg (State.lasted · p) h.eq).trans rfl
theorem State.DetectorWork.runsForMeasurement (k : Lane) : t.runsForMeasurement k = s.runsForMeasurement k :=
  (congrArg (State.runsForMeasurement · k) h.eq).trans rfl

theorem State.DetectorWork.same : SameOutside [.detector, .trace, .requests, .faults, .queue] s t := by
  rw [h]
  intro b hb
  cases b
  case detector | trace | requests | faults | queue => exact absurd (by decide) hb
  all_goals rfl

/-- Nothing that the detector unit does is reported to a reader (R63, R85, R142). -/
theorem State.DetectorWork.reported : t.reported s = false := by
  rw [h]
  simp [State.reported, State.mode]

theorem State.DetectorWork.settle (late : List Reader) : t.settle s late = t := by
  rcases t.settle_cases s late with ⟨-, ht, -⟩ | ⟨-, e⟩
  · exact absurd (h.reported.symm.trans ht) nofun
  · exact e

end

/-- Nor is the level of a loop input, with which a step may have begun. -/
theorem State.DetectorWork.settle_of_setInput {s t : State} {l : Loop} {level : Bool} (h : (s.setInput l level).DetectorWork t)
    (late : List Reader) : t.settle s late = t := by
  have hr : t.reported s = false := h.reported
  rcases t.settle_cases s late with ⟨-, ht, -⟩ | ⟨-, e⟩
  · exact absurd (hr.symm.trans ht) nofun
  · exact e

theorem State.setDetector_work (s : State) (x : Detector) : s.DetectorWork (s.setDetector x) := rfl
theorem State.setTrace_work (s : State) (x : Trace) : s.DetectorWork (s.setTrace x) := rfl
theorem State.setRequests_work (s : State) (x : List Request) : s.DetectorWork (s.setRequests x) := rfl
theorem State.setFaults_work (s : State) (x : FaultList) : s.DetectorWork (s.setFaults x) := rfl
theorem State.setRun_work (s : State) (k : Lane) (n : Nat) : s.DetectorWork (s.setRun k n) := rfl
theorem State.setLane_work (s : State) (k : Lane) (d : LaneDetector) : s.DetectorWork (s.setLane k d) := rfl

theorem State.DetectorWork.foldl {α : Type} {f : State → α → State} (h : ∀ (s : State) a, s.DetectorWork (f s a)) (xs : List α)
    (s : State) : s.DetectorWork (xs.foldl f s) := by
  induction xs generalizing s with
  | nil => exact State.DetectorWork.refl s
  | cons a as ih => exact (h s a).trans (ih (f s a))

/-- A part that turns out the same leaves the frame. -/
theorem SameOutside.drop {b : Block} {l : List Block} {s t : State} (h : SameOutside (b :: l) s t) (hb : b.same s t) :
    SameOutside l s t := by
  intro c hc
  by_cases hcb : c = b
  · exact hcb ▸ hb
  · exact h c (fun hm => (List.mem_cons.mp hm).elim hcb hc)

/-- Work that makes no request and raises or ends no fault. -/
theorem State.DetectorWork.same_of_quiet {s t : State} (h : s.DetectorWork t) (hr : t.requests = s.requests)
    (hf : t.faults = s.faults) : SameOutside [.detector, .trace, .queue] s t :=
  ((h.same.mono (m := [.requests, .faults, .detector, .trace, .queue]) (by decide)).drop hr).drop hf

/-! ### The work on some lanes -/

/-- The second state is what work on some lanes makes of the first: no other lane and no other run changes, no run but one of
0 begins, the requests only grow, by VEHICLE requests, a trace that captures nothing stays, and no fault is raised or ended. -/
structure State.LanesWork (ks : List Lane) (s t : State) : Prop where
  work : s.DetectorWork t
  faults : t.faults = s.faults
  traceIntervals : t.trace.intervals = s.trace.intervals
  trace : s.trace.state ≠ .capturing → t.trace = s.trace
  requests : ∃ vs, t.requests = s.requests ++ vs ∧ ∀ v ∈ vs, v.isVehicle = true
  otherRuns : ∀ j, j ∉ ks → t.queue.runs.get j = s.queue.runs.get j
  zeroRuns : ∀ j, s.queue.runs.get j = 0 → t.queue.runs.get j = 0
  otherLanes : ∀ j, j ∉ ks → t.detector.lanes.get j = s.detector.lanes.get j
  intervalStart : t.detector.intervalStart = s.detector.intervalStart
  intervalEnd : t.detector.intervalEnd = s.detector.intervalEnd

theorem State.LanesWork.refl (ks : List Lane) (s : State) : State.LanesWork ks s s :=
  ⟨rfl, rfl, rfl, fun _ => rfl, ⟨[], (List.append_nil _).symm, nofun⟩, fun _ _ => rfl, fun _ => id, fun _ _ => rfl, rfl, rfl⟩

theorem State.LanesWork.trans {ks : List Lane} {s t u : State} (h : State.LanesWork ks s t) (g : State.LanesWork ks t u) :
    State.LanesWork ks s u where
  work := h.work.trans g.work
  faults := g.faults.trans h.faults
  traceIntervals := g.traceIntervals.trans h.traceIntervals
  trace hs := by
    have ht := h.trace hs
    rw [g.trace (ht ▸ hs), ht]
  requests := by
    obtain ⟨vs, hv, hvs⟩ := h.requests
    obtain ⟨ws, hw, hws⟩ := g.requests
    exact ⟨vs ++ ws, by rw [hw, hv, List.append_assoc], fun v hm => (List.mem_append.mp hm).elim (hvs v) (hws v)⟩
  otherRuns j hj := (g.otherRuns j hj).trans (h.otherRuns j hj)
  zeroRuns j h0 := g.zeroRuns j (h.zeroRuns j h0)
  otherLanes j hj := (g.otherLanes j hj).trans (h.otherLanes j hj)
  intervalStart := g.intervalStart.trans h.intervalStart
  intervalEnd := g.intervalEnd.trans h.intervalEnd

theorem State.LanesWork.mono {ks ls : List Lane} {s t : State} (h : State.LanesWork ks s t) (hl : ks ⊆ ls) :
    State.LanesWork ls s t :=
  { h with otherRuns := fun j hj => h.otherRuns j (fun hk => hj (hl hk))
           otherLanes := fun j hj => h.otherLanes j (fun hk => hj (hl hk)) }

theorem State.LanesWork.foldl {α : Type} {ks : List Lane} {f : State → α → State} (h : ∀ s a, State.LanesWork ks s (f s a))
    (xs : List α) (s : State) : State.LanesWork ks s (xs.foldl f s) := by
  induction xs generalizing s with
  | nil => exact State.LanesWork.refl ks s
  | cons a as ih => exact (h s a).trans (ih (f s a))

/-- Work on one lane. -/
abbrev State.LaneWork (k : Lane) (s t : State) : Prop := State.LanesWork [k] s t

theorem State.LaneWork.otherLane {j k : Lane} {s t : State} (h : State.LaneWork k s t) (hj : j ≠ k) :
    t.detector.lanes.get j = s.detector.lanes.get j := h.otherLanes j (fun hm => hj (List.mem_singleton.mp hm))

theorem State.setLane_laneWork (s : State) (k : Lane) (d : LaneDetector) : State.LaneWork k s (s.setLane k d) :=
  { State.LanesWork.refl [k] s with
    work := rfl, otherLanes := fun _ hj => s.setLane_get_of_ne d (fun e => hj (List.mem_singleton.mpr e)) }

theorem State.setRun_laneWork (s : State) (k : Lane) : State.LaneWork k s (s.setRun k 0) :=
  { State.LanesWork.refl [k] s with
    work := rfl
    otherRuns := fun _ hj => Lanes.get_set_of_ne _ _ (fun e => hj (List.mem_singleton.mpr e))
    zeroRuns := fun j h0 => by
      by_cases hj : j = k
      · subst hj
        exact Lanes.get_set _ _ _
      · exact (Lanes.get_set_of_ne _ _ hj).trans h0 }

theorem State.setRequests_laneWork (s : State) (k : Lane) (r : VehicleRequest) :
    State.LaneWork k s (s.setRequests (s.requests ++ [.vehicle r])) :=
  { State.LanesWork.refl [k] s with
    work := rfl, requests := ⟨[.vehicle r], rfl, fun v hv => by rw [List.mem_singleton.mp hv]; rfl⟩ }

/-! ### Finished records without a speed (R14, R18, R99) -/

/-- A record without a speed goes to the trace buffer, and zeroes its lane's run unless the lane is running and DUAL. -/
theorem State.finishRecord_unmeasured (s : State) (r : VehicleRecord) (reason : UnmeasuredReason)
    (h : r.result = .unmeasured reason) :
    s.finishRecord r =
      if s.runsForMeasurement r.lane && (s.detector.lanes.get r.lane).mode == .dual then s.setTrace (s.trace.capture r)
      else (s.setTrace (s.trace.capture r)).setRun r.lane 0 := by
  unfold State.finishRecord State.countLong State.watchRecord
  rw [h]
  rfl

theorem Trace.capture_intervals (t : Trace) (r : VehicleRecord) : (t.capture r).intervals = t.intervals := by
  unfold Trace.capture
  split
  · dsimp only
    split <;> rfl
  · rfl

theorem State.setTrace_laneWork (s : State) (k : Lane) (r : VehicleRecord) :
    State.LaneWork k s (s.setTrace (s.trace.capture r)) :=
  { State.LanesWork.refl [k] s with
    work := rfl, traceIntervals := s.trace.capture_intervals r
    trace := fun hs => (s.trace.capture_cases r).elim (fun c => absurd c.1 hs) (fun c => c.2) }

theorem State.finishRecord_laneWork (s : State) (r : VehicleRecord) (reason : UnmeasuredReason)
    (h : r.result = .unmeasured reason) : State.LaneWork r.lane s (s.finishRecord r) := by
  rw [s.finishRecord_unmeasured r reason h]
  split
  · exact s.setTrace_laneWork _ r
  · exact (s.setTrace_laneWork _ r).trans (State.setRun_laneWork _ _)

/-- A record without a speed touches neither the detector unit nor the requests. -/
theorem State.finishRecord_detector (s : State) (r : VehicleRecord) (reason : UnmeasuredReason)
    (h : r.result = .unmeasured reason) : (s.finishRecord r).detector = s.detector ∧ (s.finishRecord r).requests = s.requests := by
  rw [s.finishRecord_unmeasured r reason h]
  split <;> exact ⟨rfl, rfl⟩

theorem State.finishRecord_delivered (s : State) (r : VehicleRecord) (reason : UnmeasuredReason)
    (h : r.result = .unmeasured reason) : s.delivered r (s.finishRecord r) := by
  have htrace : (s.finishRecord r).trace = s.trace.capture r := by
    rw [s.finishRecord_unmeasured r reason h]
    split <;> rfl
  refine ⟨fun hc hl => ?_, fun hn => ?_, ?_⟩
  · rw [htrace, Trace.capture, if_pos ⟨hc, hl⟩]
    dsimp only
    split
    · rfl
    · rw [← hc]
  · rw [htrace, Trace.capture, if_neg (fun c => hn.elim (absurd c.1) (absurd c.2))]
  · rw [s.finishRecord_unmeasured r reason h]
    split <;> rfl

/-- A delivery is judged by the trace buffer, the queue monitor and the lane as they stood before it. -/
theorem State.delivered_congr {s u t : State} {r : VehicleRecord} (ht : u.trace = s.trace) (hq : u.queue = s.queue)
    (hr : u.runsForMeasurement r.lane = s.runsForMeasurement r.lane)
    (hm : (u.detector.lanes.get r.lane).mode = (s.detector.lanes.get r.lane).mode) (h : u.delivered r t) : s.delivered r t := by
  unfold State.delivered at *
  rwa [ht, hq, hr, hm] at h

/-- A record without a speed is finished after the sums of its lane have been raised. -/
theorem State.finishRecord_setSums (s : State) (r : VehicleRecord) (reason : UnmeasuredReason) (x : Sums)
    (h : r.result = .unmeasured reason) :
    let t := (s.setSums r.lane x).finishRecord r
    t.detector = (s.setSums r.lane x).detector ∧ s.delivered r t ∧ SameOutside [.detector, .trace, .queue] s t := by
  intro t
  have hm : ((s.setSums r.lane x).detector.lanes.get r.lane).mode = (s.detector.lanes.get r.lane).mode := by
    rw [State.setSums, State.setLane_get]
  have hw := State.finishRecord_laneWork (s.setSums r.lane x) r reason h
  obtain ⟨hd, hq⟩ := State.finishRecord_detector (s.setSums r.lane x) r reason h
  exact ⟨hd, State.delivered_congr (u := s.setSums r.lane x) rfl rfl rfl hm
      (State.finishRecord_delivered (s.setSums r.lane x) r reason h),
    ((s.setLane_work r.lane _).trans hw.work).same_of_quiet hq hw.faults⟩

/-! ### The completion of a vehicle (R12) -/

/-- What a vehicle adds to the sums of its lane by its outcome: not paired, implausible, or measured (R12). -/
def Arrival.addTo (a : Arrival) (x : Sums) : Sums :=
  match a.bOn with
  | none => { x with n := x.n + 1 }
  | some b =>
      if b = a.on then { x with n := x.n + 1, implausible := min (x.implausible + 1) 255 }
      else { x with n := x.n + 1, m := x.m + 1, sumT := x.sumT + (b - a.on).toNat }

theorem Arrival.addTo_n (a : Arrival) (x : Sums) : (a.addTo x).n = x.n + 1 := by
  unfold Arrival.addTo
  split
  · rfl
  · split <;> rfl

theorem Arrival.addTo_sumOn (a : Arrival) (x : Sums) : (a.addTo x).sumOn = x.sumOn := by
  unfold Arrival.addTo
  split
  · rfl
  · split <;> rfl

theorem Arrival.addTo_unpaired (a : Arrival) (x : Sums) (h : a.bOn = none) : a.addTo x = { x with n := x.n + 1 } := by
  unfold Arrival.addTo
  rw [h]

/-- The record of a vehicle of a lane that completes now without a speed (R14). -/
def State.unmeasured (s : State) (k : Lane) (a : Arrival) (reason : UnmeasuredReason) : VehicleRecord :=
  { lane := k, seconds := s.seconds, tick := s.tick, onA := (a.off.getD s.tick - a.on).toNat, result := .unmeasured reason }

/-- The VEHICLE request of a paired vehicle of a lane that completes now (R20, R22). -/
def State.vehicleRequest (s : State) (k : Lane) (a : Arrival) (b : Tick) : VehicleRequest :=
  { lane := k, spacing := (s.cfg.lanes.get k).spacing, transit := (b - a.on).toNat, onA := (a.off.getD s.tick - a.on).toNat
    loopLength := (s.cfg.lanes.get k).loopLength, longThreshold := (s.cfg.lanes.get k).longThreshold
    seconds := s.seconds, tick := s.tick }

theorem toNat_sub_eq_zero_iff (a b : Tick) : (b - a).toNat = 0 ↔ b = a := by
  constructor
  · intro h
    bv_omega
  · rintro rfl
    simp

/-- A vehicle completes by its outcome: its sums are added, and it becomes a finished record or a VEHICLE request, which
becomes a record with reason LOAD while 7 are held (R12, R21). -/
theorem State.completeVehicle_cases (s : State) (k : Lane) (a : Arrival) :
    let s1 := s.setSums k (a.addTo (s.detector.lanes.get k).sums)
    (a.bOn = none ∧ s.completeVehicle k a = s1.finishRecord (s.unmeasured k a .notPaired)) ∨
      (a.bOn = some a.on ∧ s.completeVehicle k a = s1.finishRecord (s.unmeasured k a .implausible)) ∨
      ∃ b, a.bOn = some b ∧ b ≠ a.on ∧
        ((vehicleCount s.requests < 7 ∧
            s.completeVehicle k a = s1.setRequests (s.requests ++ [.vehicle (s.vehicleRequest k a b)])) ∨
          (7 ≤ vehicleCount s.requests ∧ s.completeVehicle k a = s1.finishRecord (s.unmeasured k a .load))) := by
  unfold State.completeVehicle Arrival.addTo
  cases hb : a.bOn with
  | none => exact .inl ⟨rfl, rfl⟩
  | some b =>
    by_cases he : b = a.on
    · subst he
      refine .inr (.inl ⟨rfl, ?_⟩)
      simp only [(toNat_sub_eq_zero_iff _ _).mpr rfl, if_true]
      rfl
    · have ht : (b - a.on).toNat ≠ 0 := fun h => he ((toNat_sub_eq_zero_iff _ _).mp h)
      refine .inr (.inr ⟨b, rfl, he, ?_⟩)
      simp only [if_neg ht, if_neg he, State.offerVehicle]
      by_cases hc : vehicleCount s.requests < 7
      · exact .inl ⟨hc, if_pos hc⟩
      · exact .inr ⟨Nat.le_of_not_lt hc, if_neg hc⟩

theorem State.setSums_laneWork (s : State) (k : Lane) (x : Sums) : State.LaneWork k s (s.setSums k x) :=
  s.setLane_laneWork k _

/-- The completion of a vehicle changes its lane's sums alone of the detector unit. -/
theorem State.completeVehicle_detector (s : State) (k : Lane) (a : Arrival) :
    (s.completeVehicle k a).detector = (s.setSums k (a.addTo (s.detector.lanes.get k).sums)).detector := by
  rcases s.completeVehicle_cases k a with ⟨-, e⟩ | ⟨-, e⟩ | ⟨b, -, -, ⟨-, e⟩ | ⟨-, e⟩⟩
  · rw [e, (State.finishRecord_detector _ _ _ rfl).1]
  · rw [e, (State.finishRecord_detector _ _ _ rfl).1]
  · rw [e, State.setRequests_detector]
  · rw [e, (State.finishRecord_detector _ _ _ rfl).1]

theorem State.completeVehicle_laneWork (s : State) (k : Lane) (a : Arrival) :
    State.LaneWork k s (s.completeVehicle k a) := by
  have hs := s.setSums_laneWork k (a.addTo (s.detector.lanes.get k).sums)
  rcases s.completeVehicle_cases k a with ⟨-, e⟩ | ⟨-, e⟩ | ⟨b, -, -, ⟨-, e⟩ | ⟨-, e⟩⟩
  · exact e ▸ hs.trans (State.finishRecord_laneWork _ (s.unmeasured k a .notPaired) _ rfl)
  · exact e ▸ hs.trans (State.finishRecord_laneWork _ (s.unmeasured k a .implausible) _ rfl)
  · exact e ▸ hs.trans (State.setRequests_laneWork _ k _)
  · exact e ▸ hs.trans (State.finishRecord_laneWork _ (s.unmeasured k a .load) _ rfl)

/-- A vehicle that is not paired counts in n alone and is delivered as NOT PAIRED (R12). -/
theorem State.completeVehicle_notPaired (s : State) (k : Lane) (a : Arrival) (h : a.bOn = none) :
    let x := (s.detector.lanes.get k).sums
    (s.completeVehicle k a).detector = (s.setSums k { x with n := x.n + 1 }).detector ∧
      s.delivered (s.unmeasured k a .notPaired) (s.completeVehicle k a) ∧
      SameOutside [.detector, .trace, .queue] s (s.completeVehicle k a) := by
  rcases s.completeVehicle_cases k a with ⟨-, e⟩ | ⟨hb, -⟩ | ⟨b, hb, -⟩
  · rw [e, a.addTo_unpaired _ h]
    exact s.finishRecord_setSums (s.unmeasured k a .notPaired) .notPaired _ rfl
  · exact absurd (h.symm.trans hb) nofun
  · exact absurd (h.symm.trans hb) nofun

/-- A vehicle that is not paired makes no VEHICLE request (R12). -/
theorem State.completeVehicle_requests (s : State) (k : Lane) (a : Arrival) (h : a.bOn = none) :
    (s.completeVehicle k a).requests = s.requests := by
  rcases s.completeVehicle_cases k a with ⟨-, e⟩ | ⟨hb, -⟩ | ⟨b, hb, -⟩
  · rw [e, (State.finishRecord_detector _ _ _ rfl).2]
    rfl
  · rw [h] at hb
    cases hb
  · rw [h] at hb
    cases hb

/-! ### Several vehicles complete -/

/-- The vehicles of several entries complete, one after the other. -/
def State.completeAll (s : State) (k : Lane) (l : List Arrival) : State := l.foldl (fun t a => t.completeVehicle k a) s

theorem State.completeAll_laneWork (s : State) (k : Lane) (l : List Arrival) : State.LaneWork k s (s.completeAll k l) :=
  State.LanesWork.foldl (fun t a => t.completeVehicle_laneWork k a) l s

theorem State.completeAll_lane (s : State) (k : Lane) (l : List Arrival) :
    (s.completeAll k l).detector.lanes.get k =
      { s.detector.lanes.get k with sums := l.foldl (fun x a => a.addTo x) (s.detector.lanes.get k).sums } := by
  induction l generalizing s with
  | nil => rfl
  | cons a as ih =>
    have h : (s.completeVehicle k a).detector.lanes.get k =
        { s.detector.lanes.get k with sums := a.addTo (s.detector.lanes.get k).sums } := by
      rw [s.completeVehicle_detector k a]
      exact s.setLane_get k _
    have := ih (s.completeVehicle k a)
    rw [h] at this
    exact this

theorem State.completeAll_requests (s : State) (k : Lane) (l : List Arrival) (h : ∀ a ∈ l, a.bOn = none) :
    (s.completeAll k l).requests = s.requests := by
  induction l generalizing s with
  | nil => rfl
  | cons a as ih =>
    exact (ih (s.completeVehicle k a) (fun b hb => h b (List.mem_cons_of_mem _ hb))).trans
      (s.completeVehicle_requests k a (h a List.mem_cons_self))

/-- What several vehicles add to the sums: each counts in n, none in ΣOn, and those not paired in n alone (R12, R15). -/
theorem foldl_addTo_spec (l : List Arrival) (x : Sums) :
    let y := l.foldl (fun x a => a.addTo x) x
    y.n = x.n + l.length ∧ y.sumOn = x.sumOn ∧ ((∀ a ∈ l, a.bOn = none) → y.m = x.m ∧ y.sumT = x.sumT) := by
  induction l generalizing x with
  | nil => exact ⟨rfl, rfl, fun _ => ⟨rfl, rfl⟩⟩
  | cons a as ih =>
    obtain ⟨hn, ho, hu⟩ := ih (a.addTo x)
    refine ⟨?_, ?_, fun h => ?_⟩
    · rw [List.foldl_cons, hn, a.addTo_n, List.length_cons]
      omega
    · rw [List.foldl_cons, ho, a.addTo_sumOn]
    · have := hu (fun b hb => h b (List.mem_cons_of_mem _ hb))
      rw [a.addTo_unpaired x (h a List.mem_cons_self)] at this
      rw [List.foldl_cons, a.addTo_unpaired x (h a List.mem_cons_self)]
      exact this

/-! ### A change of the measurement mode (R7, R8) -/

theorem modeOfLoops_eq (loopB : Bool) (d : LaneDetector) : modeOfLoops loopB d = modeOfStates loopB d.a.status d.b.status := by
  unfold modeOfLoops modeOfStates
  cases loopB <;> cases d.a.status <;> cases d.b.status <;> rfl

/-- The ticks that a counting loop has been held up to a moment; none without a mark (R15). -/
def LaneDetector.heldUpTo (d : LaneDetector) (upTo : Tick) : Nat :=
  match d.mark with
  | some m => heldTicks m upTo
  | none => 0

/-- A lane whose occupancy is settled up to a moment (R15). -/
theorem LaneDetector.addOccupancy_eq (d : LaneDetector) (upTo : Tick) (mark : Option Tick) :
    d.addOccupancy upTo mark =
      { d with mark := mark, sums := { d.sums with sumOn := d.sums.sumOn + d.heldUpTo upTo } } := by
  unfold LaneDetector.addOccupancy LaneDetector.heldUpTo
  cases d.mark <;> rfl

/-- The occupancy mark of a new mode's counting loop, which begins at the moment when the loop is held (R8). -/
def LaneDetector.markFor (d : LaneDetector) (new : MeasureMode) (moment : Tick) : Option Tick :=
  match new.counting with
  | some side => if (d.loop side).held then some moment else none
  | none => none

/-- The occupancy of a lane as a change of mode settles it: a counting loop that stays goes on, another adds its held time
and leaves its place to the new one (R8, R15). -/
def LaneDetector.settled (d : LaneDetector) (new : MeasureMode) (moment : Tick) : LaneDetector :=
  if new.counting = d.mode.counting then d else d.addOccupancy moment (d.markFor new moment)

/-- What a change of the measurement mode makes of a lane before the vehicles that have left it complete. -/
def State.changedLane (s : State) (k : Lane) (new : MeasureMode) (moment : Tick) : LaneDetector :=
  let d := s.detector.lanes.get k
  { d.settled new moment with
    mode := new, measured := (d.settled new moment).measured || new != .none
    arrivals := s.keptArrivals k d.mode new d.arrivals }

/-- The recomputation of a lane's mode aborts no opening check: it is not lane 1, it does not end in NONE, or no check is in
progress (R127). -/
def State.AbortsNothing (s : State) (k : Lane) : Prop :=
  k = .l1 → modeOfLoops (s.cfg.lanes.get k).loopB (s.detector.lanes.get k) = .none → s.shoulder.state ≠ .checking

theorem State.abortsNothing_of (s : State) (k : Lane) (h : k ≠ .l1 ∨ s.shoulder.state ≠ .checking) : s.AbortsNothing k :=
  fun hk _ => h.resolve_left (fun n => n hk)

/-- Without an opening check to abort a change of mode ends with the completion of the vehicles that have left loop A. -/
theorem State.settleMode_cases (s : State) (k : Lane) (moment : Tick) (h : s.AbortsNothing k) :
    let d := s.detector.lanes.get k
    let new := modeOfLoops (s.cfg.lanes.get k).loopB d
    (new = d.mode ∧ s.settleMode k moment = s) ∨
      (new ≠ d.mode ∧ s.settleMode k moment =
        ((s.setLane k (s.changedLane k new moment)).setRun k 0).completeAll k (d.arrivals.filter (fun a => a.off.isSome))) := by
  intro d new
  unfold State.settleMode
  by_cases hm : new = d.mode
  · exact .inl ⟨hm, if_pos hm⟩
  · refine .inr ⟨hm, (if_neg hm).trans ?_⟩
    have hsh : (((s.setLane k (s.changedLane k new moment)).setRun k 0).completeAll k
        (d.arrivals.filter (fun a => a.off.isSome))).shoulder = s.shoulder :=
      (State.completeAll_laneWork _ k _).work.shoulder
    by_cases hk : k = .l1 ∧ new = .none
    · refine (if_pos hk).trans (State.abortCheck_of_ne _ ?_)
      exact fun hc => h hk.1 hk.2 ((congrArg Shoulder.state hsh).symm.trans hc)
    · exact if_neg hk

theorem State.settleMode_laneWork (s : State) (k : Lane) (moment : Tick) (h : s.AbortsNothing k) :
    State.LaneWork k s (s.settleMode k moment) := by
  rcases s.settleMode_cases k moment h with ⟨-, e⟩ | ⟨-, e⟩
  · rw [e]
    exact State.LanesWork.refl [k] s
  · rw [e]
    exact ((s.setLane_laneWork k _).trans (State.setRun_laneWork _ k)).trans (State.completeAll_laneWork _ k _)

/-- The lane after a change of mode: settled, and with the vehicles that have left loop A counted. -/
theorem State.settleMode_lane (s : State) (k : Lane) (moment : Tick) (h : s.AbortsNothing k)
    (hm : modeOfLoops (s.cfg.lanes.get k).loopB (s.detector.lanes.get k) ≠ (s.detector.lanes.get k).mode) :
    let d := s.detector.lanes.get k
    let c := s.changedLane k (modeOfLoops (s.cfg.lanes.get k).loopB d) moment
    (s.settleMode k moment).detector.lanes.get k =
        { c with sums := (d.arrivals.filter (fun a => a.off.isSome)).foldl (fun x a => a.addTo x) c.sums } ∧
      (s.settleMode k moment).queue.runs.get k = 0 := by
  intro d c
  rcases s.settleMode_cases k moment h with ⟨e, -⟩ | ⟨-, e⟩
  · exact absurd e hm
  · rw [e]
    constructor
    · rw [State.completeAll_lane]
      have hc : ((s.setLane k c).setRun k 0).detector.lanes.get k = c := s.setLane_get k c
      exact hc ▸ rfl
    · exact (State.completeAll_laneWork _ k _).zeroRuns k (Lanes.get_set _ _ _)

/-- A vehicle that is not paired makes no VEHICLE request at a change of mode (R12). -/
theorem State.settleMode_requests (s : State) (k : Lane) (moment : Tick) (h : s.AbortsNothing k)
    (hp : ∀ a ∈ (s.detector.lanes.get k).arrivals, a.off ≠ none → a.bOn = none) :
    (s.settleMode k moment).requests = s.requests := by
  rcases s.settleMode_cases k moment h with ⟨-, e⟩ | ⟨-, e⟩
  · rw [e]
  · rw [e, State.completeAll_requests]
    · rfl
    · intro a ha
      obtain ⟨hm, ho⟩ := List.mem_filter.mp ha
      exact hp a hm (Option.isSome_iff_ne_none.mp ho)

theorem LaneDetector.settled_measured (d : LaneDetector) (new : MeasureMode) (moment : Tick) :
    (d.settled new moment).measured = d.measured := by
  unfold LaneDetector.settled
  rw [d.addOccupancy_eq]
  split <;> rfl

/-- A lane whose mode has changed is measured from then on, unless the mode is NONE (R7). -/
theorem State.settleMode_measured (s : State) (k : Lane) (moment : Tick) (h : s.AbortsNothing k) :
    let d := s.detector.lanes.get k
    let e := (s.settleMode k moment).detector.lanes.get k
    e.measured = (d.measured || (e.mode != d.mode && e.mode != .none)) := by
  intro d e
  rcases s.settleMode_cases k moment h with ⟨-, he⟩ | ⟨hm, -⟩
  · have : e = d := congrArg (fun t => t.detector.lanes.get k) he
    rw [this, bne_self_eq_false, Bool.false_and, Bool.or_false]
  · obtain ⟨hl, -⟩ := s.settleMode_lane k moment h hm
    have hset := (d.settled_measured (modeOfLoops (s.cfg.lanes.get k).loopB d) moment)
    have hmode : e.mode = modeOfLoops (s.cfg.lanes.get k).loopB d := congrArg LaneDetector.mode hl
    have hmeas : e.measured = _ := congrArg LaneDetector.measured hl
    rw [hmode, hmeas, bne_iff_ne.mpr hm, Bool.true_and]
    exact congrArg (· || _) hset

theorem LaneDetector.settled_loops (d : LaneDetector) (new : MeasureMode) (moment : Tick) :
    (d.settled new moment).a = d.a ∧ (d.settled new moment).b = d.b ∧ (d.settled new moment).sums.n = d.sums.n ∧
      (d.settled new moment).sums.m = d.sums.m ∧ (d.settled new moment).sums.sumT = d.sums.sumT := by
  unfold LaneDetector.settled
  rw [d.addOccupancy_eq]
  split <;> exact ⟨rfl, rfl, rfl, rfl, rfl⟩

/-- A loop that goes on counting keeps its mark and its sum. -/
theorem LaneDetector.settled_of_counting (d : LaneDetector) (new : MeasureMode) (moment : Tick)
    (h : new.counting = d.mode.counting) : d.settled new moment = d := if_pos h

/-- A counting loop that changes leaves its held time, and its successor begins at the moment (R8, R15). -/
theorem LaneDetector.settled_of_change (d : LaneDetector) (new : MeasureMode) (moment : Tick)
    (h : new.counting ≠ d.mode.counting) :
    (d.settled new moment).sums.sumOn = d.sums.sumOn + d.heldUpTo moment ∧
      (d.settled new moment).mark = d.markFor new moment := by
  unfold LaneDetector.settled
  rw [if_neg h, d.addOccupancy_eq]
  exact ⟨rfl, rfl⟩

/-- Two modes with one counting loop are DUAL and SINGLE_A. -/
theorem MeasureMode.counting_ne (new old : MeasureMode) (h : new ≠ old) (h1 : ¬(old = .dual ∧ new = .singleA))
    (h2 : ¬(old = .singleA ∧ new = .dual)) : new.counting ≠ old.counting := by
  cases new <;> cases old <;> simp_all [MeasureMode.counting]

theorem State.keptArrivals_other (s : State) (k : Lane) (old new : MeasureMode) (l : List Arrival)
    (h1 : ¬(old = .dual ∧ new = .singleA)) (h2 : ¬(old = .singleA ∧ new = .dual)) : s.keptArrivals k old new l = [] := by
  cases new <;> cases old <;> simp_all [State.keptArrivals]

theorem LoopRecord.held_eq (r : LoopRecord) : r.held = r.presence.any (fun p => p.qualified) := by
  unfold LoopRecord.held
  cases r.presence <;> rfl

/-- The recomputation of a lane's mode settles the lane as R7, R8 and R99 say. -/
theorem State.settleMode_settledFrom (s : State) (k : Lane) (moment : Tick) (h : s.AbortsNothing k) :
    s.settledFrom k (s.detector.lanes.get k) moment (s.settleMode k moment) := by
  have hnew := modeOfLoops_eq (s.cfg.lanes.get k).loopB (s.detector.lanes.get k)
  unfold State.settledFrom
  dsimp only
  rw [← hnew]
  by_cases hm : modeOfLoops (s.cfg.lanes.get k).loopB (s.detector.lanes.get k) = (s.detector.lanes.get k).mode
  · rcases s.settleMode_cases k moment h with ⟨-, he⟩ | ⟨hn, -⟩
    · rw [he, hm]
      exact ⟨rfl, rfl, rfl, fun _ => rfl, fun n => absurd rfl n, fun h1 h2 => absurd (h1.symm.trans h2) nofun,
        fun h1 h2 => absurd (h1.symm.trans h2) nofun, fun n => absurd rfl n⟩
    · exact absurd hm hn
  · obtain ⟨hl, hrun⟩ := s.settleMode_lane k moment h hm
    generalize modeOfLoops (s.cfg.lanes.get k).loopB (s.detector.lanes.get k) = new at hm hl
    rw [hl]
    generalize hd : s.detector.lanes.get k = d at hm
    obtain ⟨ha, hb, hn, hmm, ht⟩ := d.settled_loops new moment
    obtain ⟨fn, fo, fu⟩ := foldl_addTo_spec (d.arrivals.filter (fun a => a.off.isSome)) (d.settled new moment).sums
    simp only [State.changedLane, hd]
    refine ⟨trivial, ha, hb, fun e => absurd e hm, fun _ => ⟨hrun, fn.trans (by rw [hn]), fun hu => ?_⟩, ?_, ?_, ?_⟩
    · obtain ⟨f1, f2⟩ := fu hu
      exact ⟨f1.trans hmm, f2.trans ht⟩
    · intro h1 h2
      subst h2
      rw [d.settled_of_counting _ _ (by rw [h1]; rfl)] at fo ⊢
      rw [h1]
      exact ⟨rfl, rfl, fo⟩
    · intro h1 h2
      subst h2
      rw [d.settled_of_counting _ _ (by rw [h1]; rfl)] at fo ⊢
      rw [h1]
      refine ⟨List.map_congr_left fun a _ => ?_, rfl, fo⟩
      obtain ⟨on, off, bOn, resolved⟩ := a
      cases bOn <;> cases resolved <;> cases s.reached _ <;> rfl
    · intro _ h1 h2
      obtain ⟨so, sm⟩ := d.settled_of_change new moment (MeasureMode.counting_ne new d.mode hm h1 h2)
      refine ⟨s.keptArrivals_other k _ _ _ h1 h2, fo.trans so, sm.trans ?_⟩
      cases new <;> simp only [LaneDetector.markFor, MeasureMode.counting, LoopRecord.held_eq, LaneDetector.loop]

/-- What a lane is settled from depends on the configuration and the time alone. -/
theorem State.settledFrom_congr {s u : State} (hc : u.cfg = s.cfg) (hk : u.clock = s.clock) (k : Lane) (d : LaneDetector)
    (moment : Tick) (t : State) (h : u.settledFrom k d moment t) : s.settledFrom k d moment t := by
  have hr (x : Tick) : u.reached x = s.reached x := by simp only [State.reached, State.tick, hk]
  have hd (a : Arrival) : u.pairingDeadline k a = s.pairingDeadline k a := by
    simp only [State.pairingDeadline, State.tmax, hc]
  unfold State.settledFrom at *
  simpa only [hc, hr, hd] using h

end Sys2Proof.Machine
end

section
/-!
PROOFS. The presence timeout (R4, R6 to R8).
-/
namespace Sys2Proof.Machine

/-- The counting loop of a mode is loop A in DUAL and SINGLE_A, and loop B in SINGLE_B (Table 1-2). -/
theorem MeasureMode.counting_iff (m : MeasureMode) (side : Side) :
    m.counting = some side ↔ (side = .a ∧ (m = .dual ∨ m = .singleA)) ∨ (side = .b ∧ m = .singleB) := by
  cases m <;> cases side <;> simp [MeasureMode.counting]

/-- The lane of a loop that becomes STUCK, before its mode is recomputed: its occupancy is cut off at the moment (R4). -/
def State.stuckLane (s : State) (l : Loop) (p : Presence) (moment : Tick) : LaneDetector :=
  let d := (s.detector.lanes.get l.lane).setLoop l.side
    { s.loop l with status := .stuck, presence := some { p with timing := false } }
  if d.mode.counting = some l.side then d.addOccupancy moment none else d

/-- The fault list after a loop that was not STUCK has become it (R6, log 3). -/
def State.stuckFaults (s : State) (l : Loop) (endFirst : Bool) : FaultList :=
  if (s.loop l).status = .ok then s.faults.raise .loopStuck (loopNumber l) s.seconds
  else if endFirst then (s.faults.close .loopChatter (loopNumber l)).raise .loopStuck (loopNumber l) s.seconds
  else (s.faults.raise .loopStuck (loopNumber l) s.seconds).close .loopChatter (loopNumber l)

/-- The state in which a loop has become STUCK and its lane's mode is still to be recomputed. -/
def State.madeStuck (s : State) (l : Loop) (p : Presence) (endFirst : Bool) : State :=
  (s.setLane l.lane (s.stuckLane l p (s.timeoutTick p))).setFaults (s.stuckFaults l endFirst)

theorem State.madeStuck_work (s : State) (l : Loop) (p : Presence) (endFirst : Bool) :
    s.DetectorWork (s.madeStuck l p endFirst) := rfl

/-- The occupancy of a counting loop is cut off in the lane that has taken the loop's new state (R4). -/
theorem State.setLane_stuckLane (s : State) (l : Loop) (p : Presence) (moment : Tick) :
    let u := s.setLoop l { s.loop l with status := .stuck, presence := some { p with timing := false } }
    (if (u.detector.lanes.get l.lane).mode.counting = some l.side then
        u.setLane l.lane ((u.detector.lanes.get l.lane).addOccupancy moment none)
      else u) = s.setLane l.lane (s.stuckLane l p moment) := by
  simp only [State.setLoop, State.setLane_get, State.setLane_setLane, State.stuckLane]
  split <;> rfl

theorem execPresenceTimeout_of_due (dt : Nat) (l : Loop) (endFirst : Bool) (s : State) (p : Presence)
    (ha : s.acting = true) (hc : s.loopConfigured l = true) (hp : (s.loop l).presence = some p) (hq : p.qualified = true)
    (ht : p.timing = true) (hr : (s.advance dt).reached (s.timeoutTick p) = true) (hs : (s.loop l).status ≠ .stuck)
    (hl : l.lane ≠ .l1 ∨ s.shoulder.state ≠ .checking) :
    execPresenceTimeout dt l endFirst s =
      .next (((s.advance dt).madeStuck l p endFirst).settleMode l.lane (s.timeoutTick p)) := by
  have hp' : ((s.advance dt).loop l).presence = some p := hp
  have hmoment : (s.advance dt).timeoutTick p = s.timeoutTick p := rfl
  have hcond : ((s.advance dt).acting && (s.advance dt).loopConfigured l && p.qualified && p.timing &&
      (s.advance dt).reached (s.timeoutTick p)) = true := by
    rw [hr, hq, ht]
    simp [ha, hc]
  unfold execPresenceTimeout
  simp only [hp', hmoment, hcond, if_true, State.setLane_stuckLane]
  have hset := (((s.advance dt).madeStuck_work l p endFirst).trans
    (((s.advance dt).madeStuck l p endFirst).settleMode_laneWork l.lane (s.timeoutTick p)
      (State.abortsNothing_of _ _ hl)).work).settle []
  refine congrArg _ (Eq.trans ?_ hset)
  refine congrArg (fun u => (State.settleMode u l.lane (s.timeoutTick p)).settle (s.advance dt) []) ?_
  unfold State.madeStuck State.stuckFaults
  cases hst : ((s.advance dt).loop l).status
  · rfl
  · exact absurd hst hs
  · cases endFirst <;> rfl

/-- Settles O28: the loop becomes STUCK, then its lane's mode is recomputed, and no reader is told of it. -/
theorem presenceTimeoutMakesTheLoopStuck : Obligations.PresenceTimeoutMakesTheLoopStuck := by
  intro dt l endFirst s p ha hc hp hq ht hr hs hl moment d0 on counts d1
  rw [exec_presenceTimeout_eq, execPresenceTimeout_of_due dt l endFirst s p ha hc hp hq ht hr hs hl]
  let u := (s.advance dt).madeStuck l p endFirst
  have hlane : u.detector.lanes.get l.lane = (s.advance dt).stuckLane l p moment := State.setLane_get _ _ _
  have hn : u.AbortsNothing l.lane := u.abortsNothing_of l.lane hl
  have hw := u.settleMode_laneWork l.lane moment hn
  have hsettled := State.settledFrom_congr (s := s.advance dt) (u := u) rfl rfl _ _ _ _ (u.settleMode_settledFrom l.lane moment hn)
  have hmeas := u.settleMode_measured l.lane moment hn
  rw [hlane] at hsettled hmeas
  have hcount : d0.mode.counting = some l.side ↔ counts := d0.mode.counting_iff l.side
  have hs1 (h : counts) : (s.advance dt).stuckLane l p moment = d1 := (if_pos (hcount.mpr h)).trans (d0.addOccupancy_eq moment none)
  have hs0 (h : ¬counts) : (s.advance dt).stuckLane l p moment = d0 := if_neg (fun c => h (hcount.mp c))
  have hmode : ((s.advance dt).stuckLane l p moment).mode = d0.mode ∧
      ((s.advance dt).stuckLane l p moment).measured = d0.measured := by
    by_cases h : counts
    · rw [hs1 h]; exact ⟨rfl, rfl⟩
    · rw [hs0 h]; exact ⟨rfl, rfl⟩
  dsimp only at hmeas
  rw [hmode.1, hmode.2] at hmeas
  refine ⟨_, rfl, hw.work.clock, fun h => hs1 h ▸ hsettled, fun h => hs0 h ▸ hsettled, hmeas,
    fun k hk => (hw.otherLane hk).trans (State.setLane_get_of_ne _ _ hk), hw.intervalStart, hw.intervalEnd, hw.faults, ?_,
    congrArg Signs.sent hw.work.signs⟩
  exact (s.advance_same dt).trans (((s.advance dt).madeStuck_work l p endFirst).trans hw.work).same (by decide) (by decide)

end Sys2Proof.Machine
end

section
/-!
PROOFS. Qualified on edges (R3, R9, R10, R13, R15).
-/
namespace Sys2Proof.Machine

/-! ### Work on a lane that leaves its loops alone -/

theorem State.loop_of_lanes {s t : State} (h : ∀ k side, (t.detector.lanes.get k).loop side = (s.detector.lanes.get k).loop side)
    (l : Loop) : t.loop l = s.loop l := h l.lane l.side

/-- A lane set anew with the loops it had leaves every loop alone. -/
theorem State.setLane_loop (s : State) (k : Lane) (d : LaneDetector)
    (h : ∀ side, d.loop side = (s.detector.lanes.get k).loop side) (l : Loop) : (s.setLane k d).loop l = s.loop l := by
  refine State.loop_of_lanes (fun j side => ?_) l
  by_cases hj : j = k
  · subst hj
    rw [State.setLane_get]
    exact h side
  · rw [State.setLane_get_of_ne _ _ hj]

theorem State.setArrivals_loop (s : State) (k : Lane) (as : List Arrival) (l : Loop) : (s.setArrivals k as).loop l = s.loop l :=
  s.setLane_loop k _ (fun side => by cases side <;> rfl) l

theorem State.completeAll_loop (s : State) (k : Lane) (as : List Arrival) (l : Loop) : (s.completeAll k as).loop l = s.loop l := by
  refine State.loop_of_lanes (fun j side => ?_) l
  by_cases hj : j = k
  · subst hj
    rw [s.completeAll_lane j as]
    cases side <;> rfl
  · rw [(s.completeAll_laneWork k as).otherLane hj]

theorem State.setLoop_loop (s : State) (l : Loop) (r : LoopRecord) : (s.setLoop l r).loop l = r := by
  unfold State.loop State.setLoop
  rw [State.setLane_get, LaneDetector.loop_setLoop]

theorem LaneDetector.loop_setLoop_of_ne (d : LaneDetector) {side side' : Side} (r : LoopRecord) (h : side' ≠ side) :
    (d.setLoop side r).loop side' = d.loop side' := by
  cases side <;> cases side'
  case a.a | b.b => exact absurd rfl h
  all_goals rfl

theorem State.setLoop_loop_of_ne (s : State) {l l' : Loop} (r : LoopRecord) (h : l' ≠ l) : (s.setLoop l r).loop l' = s.loop l' := by
  unfold State.loop State.setLoop
  by_cases hk : l'.lane = l.lane
  · have hs : l'.side ≠ l.side := fun hs => h (by cases l; cases l'; simp_all)
    rw [hk, State.setLane_get, LaneDetector.loop_setLoop_of_ne _ _ hs]
  · rw [State.setLane_get_of_ne _ _ hk]

/-! ### The list of pending arrivals -/

/-- The list is drained by the completion of its complete entries (R12). -/
theorem State.drainArrivals_eq (s : State) (k : Lane) :
    let l := (s.detector.lanes.get k).arrivals
    s.drainArrivals k = (s.setArrivals k (l.filter (fun a => !a.complete))).completeAll k (l.filter Arrival.complete) := rfl

theorem State.setArrivals_eq (s : State) (k : Lane) (l : List Arrival) :
    s.setArrivals k l = s.setLane k { s.detector.lanes.get k with arrivals := l } := rfl

theorem State.setArrivals_setLane (s : State) (k : Lane) (d : LaneDetector) (l : List Arrival) :
    (s.setLane k d).setArrivals k l = s.setLane k { d with arrivals := l } := by
  rw [State.setArrivals_eq, State.setLane_get, State.setLane_setLane]

theorem State.setArrivals_detector_congr {s t : State} (k : Lane) (l : List Arrival) (h : t.detector = s.detector) :
    (t.setArrivals k l).detector = (s.setArrivals k l).detector := by
  simp only [State.setArrivals, State.setLane, State.setDetector_detector, h]

theorem State.setArrivals_laneWork (s : State) (k : Lane) (l : List Arrival) : State.LaneWork k s (s.setArrivals k l) :=
  s.setLane_laneWork k _

theorem State.drainArrivals_laneWork (s : State) (k : Lane) : State.LaneWork k s (s.drainArrivals k) :=
  (s.setArrivals_laneWork k _).trans (State.completeAll_laneWork _ k _)

theorem State.drainArrivals_loop (s : State) (k : Lane) (l : Loop) : (s.drainArrivals k).loop l = s.loop l :=
  (State.completeAll_loop _ k _ l).trans (s.setArrivals_loop k _ l)

theorem State.appendArrival_laneWork (s : State) (k : Lane) (on : Tick) : State.LaneWork k s (s.appendArrival k on) := by
  unfold State.appendArrival
  dsimp only
  split
  · exact ((s.setArrivals_laneWork k _).trans (State.drainArrivals_laneWork _ k)).trans (State.setArrivals_laneWork _ k _)
  · exact s.setArrivals_laneWork k _

theorem State.appendArrival_loop (s : State) (k : Lane) (on : Tick) (l : Loop) : (s.appendArrival k on).loop l = s.loop l := by
  unfold State.appendArrival
  dsimp only
  split
  · exact (State.setArrivals_loop _ k _ l).trans ((State.drainArrivals_loop _ k l).trans (s.setArrivals_loop k _ l))
  · exact s.setArrivals_loop k _ l

/-! ### An edge of an OK loop -/

/-- The lane after an edge that is not of the lane's counting loop, or after the occupancy mark of one that is (R15). -/
def State.markedLane (s : State) (l : Loop) (on : Tick) : LaneDetector :=
  let d := s.detector.lanes.get l.lane
  if d.mode.counting = some l.side then
    { d with mark := some (if precedes on s.detector.intervalStart then s.detector.intervalStart else on) }
  else d

/-- An edge marks the occupancy and then acts on the list by the lane's mode, with no opening check to abort (R9, R10, R13). -/
theorem State.takeOnEdge_cases (s : State) (l : Loop) (on : Tick) (h : l.lane ≠ .l1 ∨ s.shoulder.state ≠ .checking) :
    let d := s.detector.lanes.get l.lane
    let u := s.setLane l.lane (s.markedLane l on)
    (d.mode = .dual ∧ l.side = .a ∧ s.takeOnEdge l on = u.appendArrival l.lane on) ∨
      (d.mode = .dual ∧ l.side = .b ∧
        s.takeOnEdge l on = (u.setArrivals l.lane (offerEdge (s.tmax l.lane) on d.arrivals)).drainArrivals l.lane) ∨
      (((d.mode = .singleA ∧ l.side = .a) ∨ (d.mode = .singleB ∧ l.side = .b)) ∧
        s.takeOnEdge l on = u.setArrivals l.lane [Arrival.start on]) ∨
      (d.mode.counting ≠ some l.side ∧ d.mode ≠ .dual ∧ s.takeOnEdge l on = u) := by
  intro d u
  have hu : (if d.mode.counting = some l.side then
        s.setLane l.lane { d with mark := some (if precedes on s.detector.intervalStart then s.detector.intervalStart else on) }
      else s) = u := by
    by_cases hc : d.mode.counting = some l.side
    · have hmark : s.markedLane l on = _ := if_pos hc
      exact (if_pos hc).trans (congrArg (s.setLane l.lane) hmark.symm)
    · have hmark : s.markedLane l on = _ := if_neg hc
      exact (if_neg hc).trans ((s.setLane_self l.lane).symm.trans (congrArg (s.setLane l.lane) hmark.symm))
  have habort : (if l.lane = .l1 then u.abortCheck else u) = u := by
    split
    · next hl => exact State.abortCheck_of_ne _ (h.resolve_left (fun n => n hl))
    · rfl
  unfold State.takeOnEdge
  dsimp only
  rw [hu, habort]
  cases hm : d.mode <;> cases hs : l.side <;> simp [d, MeasureMode.counting]

theorem State.markedLane_loop (s : State) (l : Loop) (on : Tick) (side : Side) :
    (s.markedLane l on).loop side = (s.detector.lanes.get l.lane).loop side := by
  unfold State.markedLane
  dsimp only
  split
  · cases side <;> rfl
  · rfl

theorem State.takeOnEdge_laneWork (s : State) (l : Loop) (on : Tick) (h : l.lane ≠ .l1 ∨ s.shoulder.state ≠ .checking) :
    State.LaneWork l.lane s (s.takeOnEdge l on) := by
  have hu := s.setLane_laneWork l.lane (s.markedLane l on)
  rcases s.takeOnEdge_cases l on h with ⟨-, -, e⟩ | ⟨-, -, e⟩ | ⟨-, e⟩ | ⟨-, -, e⟩
  · exact e ▸ hu.trans (State.appendArrival_laneWork _ _ _)
  · exact e ▸ (hu.trans (State.setArrivals_laneWork _ _ _)).trans (State.drainArrivals_laneWork _ _)
  · exact e ▸ hu.trans (State.setArrivals_laneWork _ _ _)
  · exact e ▸ hu

theorem State.takeOnEdge_loop (s : State) (l l' : Loop) (on : Tick) (h : l.lane ≠ .l1 ∨ s.shoulder.state ≠ .checking) :
    (s.takeOnEdge l on).loop l' = s.loop l' := by
  have hu := s.setLane_loop l.lane (s.markedLane l on) (s.markedLane_loop l on) l'
  rcases s.takeOnEdge_cases l on h with ⟨-, -, e⟩ | ⟨-, -, e⟩ | ⟨-, e⟩ | ⟨-, -, e⟩
  · rw [e, State.appendArrival_loop, hu]
  · rw [e, State.drainArrivals_loop, State.setArrivals_loop, hu]
  · rw [e, State.setArrivals_loop, hu]
  · rw [e, hu]

/-! ### A presence that becomes qualified (R3, R4) -/

/-- The presence as it is once qualified: its timeout runs from its raw on time. -/
def Presence.qualify (p : Presence) : Presence := { on := p.on, qualified := true, timing := true }

theorem State.qualify_laneWork (s : State) (l : Loop) (p : Presence) (h : l.lane ≠ .l1 ∨ s.shoulder.state ≠ .checking) :
    State.LaneWork l.lane s (s.qualify l p) := by
  have hu : State.LaneWork l.lane s (s.setLoop l { s.loop l with presence := some p.qualify }) := s.setLane_laneWork _ _
  unfold State.qualify
  dsimp only
  split
  · exact hu.trans (State.takeOnEdge_laneWork _ l p.on h)
  · exact hu

theorem State.qualify_loop (s : State) (l l' : Loop) (p : Presence) (h : l.lane ≠ .l1 ∨ s.shoulder.state ≠ .checking) :
    (s.qualify l p).loop l' = (s.setLoop l { s.loop l with presence := some p.qualify }).loop l' := by
  unfold State.qualify
  dsimp only
  split
  · exact State.takeOnEdge_loop (s.setLoop l { s.loop l with presence := some p.qualify }) l l' p.on h
  · rfl

theorem State.qualify_of_ok (s : State) (l : Loop) (p : Presence) (h : (s.loop l).status = .ok) :
    s.qualify l p = (s.setLoop l { s.loop l with presence := some p.qualify }).takeOnEdge l p.on := if_pos h

theorem execQualifiedOnEdge_of_lasted (dt : Nat) (l : Loop) (s : State) (p : Presence) (ha : s.acting = true)
    (hc : s.loopConfigured l = true) (hp : (s.loop l).presence = some p) (hq : p.qualified = false)
    (hl : (s.advance dt).lasted p = true) :
    execQualifiedOnEdge dt l s = .next (((s.advance dt).qualifyInOrder l p).settle (s.advance dt) []) := by
  have hp' : ((s.advance dt).loop l).presence = some p := hp
  have hcond : ((s.advance dt).acting && (s.advance dt).loopConfigured l && !p.qualified && (s.advance dt).lasted p) = true := by
    rw [hl, hq]
    simp [ha, hc]
  unfold execQualifiedOnEdge
  simp only [hp', hcond, if_true]

/-- An edge that R3 puts before no other is taken alone, and no reader is told of it. -/
theorem exec_qualifiedOnEdge_of_edgeFree (dt : Nat) (l : Loop) (s : State) (p : Presence) (ha : s.acting = true)
    (hc : s.loopConfigured l = true) (hp : (s.loop l).presence = some p) (hq : p.qualified = false)
    (hl : (s.advance dt).lasted p = true) (hf : (s.advance dt).edgeFree l p)
    (hs : l.lane ≠ .l1 ∨ s.shoulder.state ≠ .checking) :
    exec (.qualifiedOnEdge dt l) s = .next ((s.advance dt).qualify l p) := by
  rw [exec_qualifiedOnEdge_eq, execQualifiedOnEdge_of_lasted dt l s p ha hc hp hq hl,
    (s.advance dt).qualifyInOrder_of_edgeFree l p hf]
  exact congrArg _ (((s.advance dt).qualify_laneWork l p hs).work.settle [])

/-- The lane of a loop whose presence has become qualified. -/
def State.qualifiedLane (s : State) (l : Loop) (p : Presence) : LaneDetector :=
  (s.detector.lanes.get l.lane).setLoop l.side { s.loop l with presence := some p.qualify }

/-- The occupancy mark that an edge of the counting loop sets (R15). -/
def State.edgeMark (s : State) (p : Presence) : Option Tick :=
  some (if precedes p.on s.detector.intervalStart then s.detector.intervalStart else p.on)

theorem LaneDetector.setLoop_mode (d : LaneDetector) (side : Side) (r : LoopRecord) : (d.setLoop side r).mode = d.mode := by
  cases side <;> rfl

theorem LaneDetector.setLoop_arrivals (d : LaneDetector) (side : Side) (r : LoopRecord) :
    (d.setLoop side r).arrivals = d.arrivals := by
  cases side <;> rfl

/-- A qualified edge of an OK loop, by the lane's mode. -/
theorem State.qualify_cases (s : State) (l : Loop) (p : Presence) (hok : (s.loop l).status = .ok)
    (h : l.lane ≠ .l1 ∨ s.shoulder.state ≠ .checking) :
    let d := s.detector.lanes.get l.lane
    let e := s.qualifiedLane l p
    (d.mode = .dual → l.side = .a →
        s.qualify l p = (s.setLane l.lane { e with mark := s.edgeMark p }).appendArrival l.lane p.on) ∧
      (d.mode = .dual → l.side = .b →
        s.qualify l p = (s.setLane l.lane { e with arrivals := offerEdge (s.tmax l.lane) p.on d.arrivals }).drainArrivals l.lane) ∧
      (((d.mode = .singleA ∧ l.side = .a) ∨ (d.mode = .singleB ∧ l.side = .b)) →
        s.qualify l p = s.setLane l.lane { e with arrivals := [Arrival.start p.on], mark := s.edgeMark p }) := by
  intro d e
  let u := s.setLoop l { s.loop l with presence := some p.qualify }
  have hlane : u.detector.lanes.get l.lane = e := s.setLane_get _ _
  have hm : e.mode = d.mode := d.setLoop_mode _ _
  have harr : e.arrivals = d.arrivals := d.setLoop_arrivals _ _
  have hset (x : LaneDetector) : u.setLane l.lane x = s.setLane l.lane x := s.setLane_setLane _ _ _
  have hc : (u.detector.lanes.get l.lane).mode.counting = d.mode.counting := by rw [hlane, hm]
  have hmarked (h : d.mode.counting = some l.side) : u.markedLane l p.on = { e with mark := s.edgeMark p } := by
    refine (if_pos (hc.trans h)).trans ?_
    rw [hlane]
    rfl
  have hplain (h : d.mode.counting ≠ some l.side) : u.markedLane l p.on = e := by
    refine (if_neg (fun n => h (hc.symm.trans n))).trans ?_
    rw [hlane]
  have ht : u.tmax l.lane = s.tmax l.lane := rfl
  have hcases := u.takeOnEdge_cases l p.on h
  dsimp only at hcases
  rw [hlane, hm, harr, hset, ht, ← s.qualify_of_ok l p hok] at hcases
  refine ⟨fun h1 h2 => ?_, fun h1 h2 => ?_, fun h12 => ?_⟩
  · rw [hmarked (by rw [h1, h2]; rfl)] at hcases
    simpa [h1, h2] using hcases
  · rw [hplain (by rw [h1, h2]; exact nofun), State.setArrivals_setLane] at hcases
    simpa [h1, h2] using hcases
  · have hcount : d.mode.counting = some l.side :=
      (d.mode.counting_iff l.side).mpr (h12.imp (fun ⟨m, x⟩ => ⟨x, .inr m⟩) (fun ⟨m, x⟩ => ⟨x, m⟩))
    rw [hmarked hcount] at hcases
    rcases h12 with ⟨h1, h2⟩ | ⟨h1, h2⟩ <;>
      simpa [h1, h2, MeasureMode.counting, State.setArrivals_setLane] using hcases

/-! ### The four statements on edges -/

/-- An edge of loop A in DUAL is appended to a list that is not full (R9). -/
theorem State.appendArrival_of_lt (s : State) (k : Lane) (d : LaneDetector) (on : Tick) (h : d.arrivals.length < 4) :
    (s.setLane k d).appendArrival k on = s.setLane k { d with arrivals := d.arrivals ++ [Arrival.start on] } := by
  unfold State.appendArrival
  dsimp only
  rw [State.setLane_get, if_neg (by omega), State.setLane_get, State.setArrivals_setLane]

/-- The oldest of four entries that has left loop A unpaired completes as a vehicle not paired before the append (R9). -/
theorem State.appendArrival_of_full (s : State) (k : Lane) (d : LaneDetector) (on : Tick) (oldest : Arrival)
    (rest : List Arrival) (hd : d.arrivals = oldest :: rest) (hl : rest.length = 3) (ho : oldest.off ≠ none)
    (hr : ∀ e ∈ rest, e.complete = false) :
    (s.setLane k d).appendArrival k on =
      (((s.setLane k { d with arrivals := rest }).completeVehicle k { oldest with resolved := true }).setArrivals k
        (rest ++ [Arrival.start on])) := by
  have hcomplete : ({ oldest with resolved := true } : Arrival).complete = true := by
    simp [Arrival.complete, Option.isSome_iff_ne_none.mpr ho]
  have hkept : rest.filter (fun a => !a.complete) = rest := List.filter_eq_self.mpr fun e he => by simp [hr e he]
  have hdone : rest.filter Arrival.complete = [] := List.filter_eq_nil_iff.mpr fun e he => by simp [hr e he]
  have hdrain : ((s.setLane k d).setArrivals k (resolveOldest d.arrivals)).drainArrivals k =
      (s.setLane k { d with arrivals := rest }).completeVehicle k { oldest with resolved := true } := by
    rw [State.drainArrivals_eq, State.setArrivals_setLane, State.setLane_get, State.setArrivals_setLane, hd]
    simp only [resolveOldest, List.filter_cons, hcomplete, hkept, hdone, Bool.not_true, Bool.false_eq_true, if_false, if_true]
    rfl
  unfold State.appendArrival
  dsimp only
  rw [State.setLane_get, if_pos (by rw [hd, List.length_cons, hl]), hdrain, State.completeVehicle_detector]
  simp only [State.setSums, State.setLane_get]

/-- An edge offered to a list passes the entries that are paired or resolved (R10). -/
theorem offerEdge_append (tmax : Nat) (on : Tick) (pre l : List Arrival) (h : ∀ e ∈ pre, e.bOn ≠ none ∨ e.resolved = true) :
    offerEdge tmax on (pre ++ l) = pre ++ offerEdge tmax on l := by
  induction pre with
  | nil => rfl
  | cons e es ih =>
    have he : (e.bOn.isNone && !e.resolved) = false := by
      rcases h e List.mem_cons_self with hb | hr
      · cases hb' : e.bOn with
        | none => exact absurd hb' hb
        | some b => rfl
      · rw [hr]
        exact Bool.and_false _
    rw [List.cons_append, offerEdge, he, if_neg Bool.false_ne_true, ih (fun a ha => h a (List.mem_cons_of_mem _ ha))]
    rfl

theorem precedes_self (x : Tick) : precedes x x = false := by
  unfold precedes
  simp

/-- With no message on the sign lines a command that follows at once changes nothing first. -/
theorem State.advance_zero (s : State) (h : s.signs.sent = []) : s.advance 0 = s := by
  obtain ⟨⟩ := s
  unfold State.advance State.setClock State.setSigns
  rw [← h]
  rfl

/-- Two edges of one lane are taken in R3's order whichever command comes first: the later edge's command takes both. -/
theorem qualifiedOnEdge_order (dt : Nat) (l : Loop) (s : State) (p q : Presence) (ha : s.acting = true)
    (hc : s.loopConfigured l = true) (hc' : s.loopConfigured (otherLoop l) = true)
    (hp : (s.loop l).presence = some p) (hpq : p.qualified = false) (hpl : (s.advance dt).lasted p = true)
    (hq : (s.loop (otherLoop l)).presence = some q) (hqq : q.qualified = false) (hql : (s.advance dt).lasted q = true)
    (hfirst : precedes q.on p.on = true ∨ (l.side = .b ∧ q.on = p.on)) (hlast : precedes p.on q.on = false)
    (hs : l.lane ≠ .l1 ∨ s.shoulder.state ≠ .checking) :
    ∃ t u, exec (.qualifiedOnEdge dt (otherLoop l)) s = .next u ∧ exec (.qualifiedOnEdge 0 l) u = .next t ∧
      exec (.qualifiedOnEdge dt l) s = .next t := by
  have hother : otherLoop (otherLoop l) = l := by
    obtain ⟨k, side⟩ := l
    cases side <;> rfl
  have hlane : (otherLoop l).lane = l.lane := by
    obtain ⟨k, side⟩ := l
    cases side <;> rfl
  have hne : l ≠ otherLoop l := by
    obtain ⟨k, side⟩ := l
    cases side <;> exact nofun
  have hs' : (otherLoop l).lane ≠ .l1 ∨ (s.advance dt).shoulder.state ≠ .checking := hlane ▸ hs
  let u := (s.advance dt).qualify (otherLoop l) q
  have hw : State.LaneWork (otherLoop l).lane (s.advance dt) u := State.qualify_laneWork _ _ _ hs'
  have hul : u.loop l = s.loop l := ((s.advance dt).qualify_loop (otherLoop l) l q hs').trans (State.setLoop_loop_of_ne _ _ hne)
  have hum : (u.loop (otherLoop l)).presence = some q.qualify := by
    rw [State.qualify_loop _ _ _ q hs', State.setLoop_loop]
  have hus : l.lane ≠ .l1 ∨ u.shoulder.state ≠ .checking := by
    rw [hw.work.shoulder]
    exact hs
  have hadv : u.advance 0 = u := u.advance_zero (by rw [hw.work.signs]; rfl)
  have hfirst' : (s.advance dt).edgeFree (otherLoop l) q := by
    intro r hr _ _ _
    rw [hother] at hr
    obtain rfl : p = r := Option.some.inj (hp.symm.trans hr)
    refine ⟨hlast, fun hb he => ?_⟩
    have ha : l.side ≠ .b := by
      obtain ⟨k, side⟩ := l
      cases side
      · exact nofun
      · exact absurd hb nofun
    rcases hfirst with h | h
    · rw [he, precedes_self] at h
      cases h
    · exact ha h.1
  have hsecond : (u.advance 0).edgeFree l p := by
    intro r hr _ hru _
    rw [hadv, hum] at hr
    obtain rfl := Option.some.inj hr
    cases hru
  refine ⟨u.qualify l p, u, exec_qualifiedOnEdge_of_edgeFree dt _ s q ha hc' hq hqq hql hfirst' hs', ?_, ?_⟩
  · have := exec_qualifiedOnEdge_of_edgeFree 0 l u p (hw.work.acting.trans ha) ((hw.work.loopConfigured l).trans hc)
      (hul ▸ hp) hpq (by rw [hadv, hw.work.lasted]; exact hpl) hsecond hus
    rwa [hadv] at this
  · rw [exec_qualifiedOnEdge_eq, execQualifiedOnEdge_of_lasted dt l s p ha hc hp hpq hpl]
    have horder : (s.advance dt).qualifyInOrder l p = u.qualify l p := by
      rcases (s.advance dt).qualifyInOrder_cases l p with ⟨r, hr, -, -, -, -, e⟩ | ⟨hn, -⟩
      · obtain rfl : q = r := Option.some.inj (hq.symm.trans hr)
        exact e
      · have hfalse := hn q hq hc' hqq hql
        have htrue : edgeFirst (otherLoop l).side q.on p.on = true := by
          obtain ⟨k, side⟩ := l
          rcases hfirst with h | ⟨h1, h2⟩
          · rw [edgeFirst, h, Bool.true_or]
          · obtain rfl : side = .b := h1
            simp [edgeFirst, otherLoop, h2]
        rw [hfalse] at htrue
        cases htrue
    rw [horder]
    exact congrArg _ ((hw.work.trans (u.qualify_laneWork l p hus).work).settle [])

/-- Settles O26: an edge acts by its lane's mode, a full list completes its oldest entry first, and two edges of one lane
keep R3's order. -/
theorem qualifiedEdgesAppendAndPair : Obligations.QualifiedEdgesAppendAndPair := by
  refine ⟨?_, ?_, ?_, ?_, ?_, ?_⟩
  · rintro dt k s p d ⟨ha, hc, hp, hq, hl, hf, hok, hs⟩ hd hlen
    have e := (((s.advance dt).qualify_cases { lane := k, side := .a } p hok hs).1 hd rfl).trans
      ((s.advance dt).appendArrival_of_lt k _ p.on hlen)
    exact ⟨_, (exec_qualifiedOnEdge_of_edgeFree dt _ s p ha hc hp hq hl hf hs).trans (congrArg _ e), rfl, rfl,
      (s.advance_same dt).trans (State.setLane_same _ _ _) (by decide) (by decide), rfl⟩
  · rintro dt k s p oldest rest off d ⟨ha, hc, hp, hq, hl, hf, hok, hs⟩ hd harr hlen hoff hb hr
    have e := (((s.advance dt).qualify_cases { lane := k, side := .a } p hok hs).1 hd rfl).trans
      ((s.advance dt).appendArrival_of_full k _ p.on oldest rest harr hlen (by rw [hoff]; exact nofun) hr)
    refine ⟨_, (exec_qualifiedOnEdge_of_edgeFree dt _ s p ha hc hp hq hl hf hs).trans (congrArg _ e), ?_⟩
    let v := (s.advance dt).setLane k
      { (s.advance dt).qualifiedLane { lane := k, side := .a } p with mark := s.edgeMark p, arrivals := rest }
    obtain ⟨hdet, hdel, hsame⟩ := v.completeVehicle_notPaired k { oldest with resolved := true } hb
    have hrecord : v.unmeasured k { oldest with resolved := true } .notPaired =
        { lane := k, seconds := (s.clock + dt) / second, tick := BitVec.ofNat 32 ((s.clock + dt) / 100)
          onA := (off - oldest.on).toNat, result := .unmeasured .notPaired } := by
      unfold State.unmeasured
      rw [hoff]
      rfl
    rw [hrecord] at hdel
    have hmode : (v.detector.lanes.get k).mode = (s.detector.lanes.get k).mode :=
      (congrArg LaneDetector.mode (State.setLane_get _ _ _)).trans rfl
    refine ⟨hsame .clock (by decide), ?_, State.delivered_congr (u := v) rfl rfl rfl hmode hdel, ?_, ?_⟩
    · refine (State.setArrivals_detector_congr k _ hdet).trans ?_
      simp only [v, State.setSums, State.setLane_get, State.setLane_setLane, State.setArrivals_setLane]
      rfl
    · exact ((s.advance_same dt).trans (State.setLane_same _ _ _) (n := [.clock, .detector]) (by decide) (by decide)).trans
        (hsame.trans (State.setArrivals_same _ _ _) (n := [.detector, .trace, .queue]) (fun _ x => x) (by decide)) (by decide) (by decide)
    · exact congrArg Signs.sent (State.completeVehicle_laneWork v k _).work.signs
  · rintro dt l s p d ⟨ha, hc, hp, hq, hl, hf, hok, hs⟩ hm
    have e := ((s.advance dt).qualify_cases l p hok hs).2.2 hm
    exact ⟨_, (exec_qualifiedOnEdge_of_edgeFree dt _ s p ha hc hp hq hl hf hs).trans (congrArg _ e), rfl, rfl,
      (s.advance_same dt).trans (State.setLane_same _ _ _) (by decide) (by decide), rfl⟩
  · rintro dt k s p d offered ⟨ha, hc, hp, hq, hl, hf, hok, hs⟩ hd
    have e := ((s.advance dt).qualify_cases { lane := k, side := .b } p hok hs).2.1 hd rfl
    rw [exec_qualifiedOnEdge_of_edgeFree dt _ s p ha hc hp hq hl hf hs, e, State.drainArrivals_eq, State.setLane_get,
      State.setArrivals_setLane]
    rfl
  · intro tmax on pre post a hpre hb hr
    have h := offerEdge_append tmax on pre (a :: post) hpre
    refine ⟨by simpa [offerEdge] using offerEdge_append tmax on pre [] hpre, h.trans ?_⟩
    simp [offerEdge, hb, hr]
  · intro dt l s p q ha hc hc' hp hpq hpl hq hqq hql hfirst hlast hs
    exact qualifiedOnEdge_order dt l s p q ha hc hc' hp hpq hpl hq hqq hql hfirst hlast hs

end Sys2Proof.Machine
end

section
/-!
PROOFS. Releases and the completion of vehicles (R4, R8, R9, R12 to R15, R21).
-/
namespace Sys2Proof.Machine

/-! ### The list at a release -/

/-- The newest entry takes the A-off time if it has none (R9). -/
theorem setOff_append (t : Tick) (pre : List Arrival) (a : Arrival) :
    setOff t (pre ++ [a]) = pre ++ [if a.off.isNone then { a with off := some t } else a] := by
  induction pre with
  | nil => rfl
  | cons e es ih =>
    cases es with
    | nil => rfl
    | cons f fs => exact congrArg (e :: ·) ih

/-- A list whose newest entry has left loop A stays as it is. -/
theorem setOff_of_off (t : Tick) (l : List Arrival) (h : ∀ a ∈ l, a.off ≠ none) : setOff t l = l := by
  rcases l.eq_nil_or_concat with rfl | ⟨pre, a, rfl⟩
  · rfl
  · rw [List.concat_eq_append] at h ⊢
    have ha : a.off.isNone = false := Option.isNone_eq_false_iff.mpr (Option.isSome_iff_ne_none.mpr (h a (by simp)))
    rw [setOff_append, ha, if_neg Bool.false_ne_true]

/-- A lane none of whose entries is complete has nothing to drain. -/
theorem State.drainArrivals_of_none (s : State) (k : Lane) (h : ∀ a ∈ (s.detector.lanes.get k).arrivals, a.complete = false) :
    s.drainArrivals k = s := by
  rw [State.drainArrivals_eq]
  rw [List.filter_eq_self.mpr (fun a ha => by rw [h a ha]; rfl), List.filter_eq_nil_iff.mpr (fun a ha => by rw [h a ha]; exact nofun)]
  exact s.setLane_self k

/-- A lane of which the newest entry alone is complete completes that vehicle. -/
theorem State.drainArrivals_of_last (s : State) (k : Lane) (d : LaneDetector) (pre : List Arrival) (a : Arrival)
    (hd : d.arrivals = pre ++ [a]) (hp : ∀ e ∈ pre, e.complete = false) (ha : a.complete = true) :
    (s.setLane k d).drainArrivals k = (s.setLane k { d with arrivals := pre }).completeVehicle k a := by
  have hkept : pre.filter (fun a => !a.complete) = pre := List.filter_eq_self.mpr fun e he => by rw [hp e he]; rfl
  have hdone : pre.filter Arrival.complete = [] := List.filter_eq_nil_iff.mpr fun e he => by rw [hp e he]; exact nofun
  rw [State.drainArrivals_eq, State.setLane_get, State.setArrivals_setLane, hd]
  simp only [List.filter_append, hkept, hdone, List.filter_cons, ha, Bool.not_true, Bool.false_eq_true, if_false, if_true,
    List.filter_nil, List.append_nil, List.nil_append]
  rfl

/-! ### The release of an OK loop -/

/-- The lane that a counting loop has been released in: its held time is added up to the present (R15). -/
def State.leftLane (s : State) (l : Loop) : LaneDetector :=
  ((s.detector.lanes.get l.lane).setLoop l.side { s.loop l with presence := none }).addOccupancy s.tick none

theorem State.leftLane_mode (s : State) (l : Loop) : (s.leftLane l).mode = (s.detector.lanes.get l.lane).mode := by
  unfold State.leftLane
  rw [LaneDetector.addOccupancy_eq]
  exact LaneDetector.setLoop_mode _ _ _

theorem State.leftLane_arrivals (s : State) (l : Loop) : (s.leftLane l).arrivals = (s.detector.lanes.get l.lane).arrivals := by
  unfold State.leftLane
  rw [LaneDetector.addOccupancy_eq]
  exact LaneDetector.setLoop_arrivals _ _ _

/-- The release of the counting loop when it is OK, by the lane's mode (R9, R13). -/
theorem State.releaseQualified_of_ok (s : State) (l : Loop) (hok : (s.loop l).status = .ok) :
    let d := s.detector.lanes.get l.lane
    let u := s.setLane l.lane (s.leftLane l)
    (d.mode = .dual → l.side = .a → s.releaseQualified l = (u.setArrivals l.lane (setOff s.tick d.arrivals)).drainArrivals l.lane) ∧
      (d.mode = .singleA → l.side = .a → s.releaseQualified l = u.releaseSingle l.lane true) ∧
      (d.mode = .singleB → l.side = .b → s.releaseQualified l = u.releaseSingle l.lane false) := by
  intro d u
  let v := s.setLoop l { s.loop l with presence := none }
  have hrel : s.releaseQualified l = v.takeRelease l := by
    unfold State.releaseQualified
    simp only [hok, v]
  have ht : v.tick = s.tick := rfl
  have hlane : v.detector.lanes.get l.lane = d.setLoop l.side { s.loop l with presence := none } := s.setLane_get _ _
  have hm : (v.detector.lanes.get l.lane).mode = d.mode := by
    rw [hlane]
    exact d.setLoop_mode _ _
  have harr : (v.detector.lanes.get l.lane).arrivals = d.arrivals := by
    rw [hlane]
    exact d.setLoop_arrivals _ _
  have hu : v.setLane l.lane ((v.detector.lanes.get l.lane).addOccupancy s.tick none) = u := by
    rw [hlane]
    exact s.setLane_setLane _ _ _
  rw [hrel]
  unfold State.takeRelease
  dsimp only
  rw [hm, harr, ht, hu]
  refine ⟨fun h1 h2 => ?_, fun h1 h2 => ?_, fun h1 h2 => ?_⟩
  all_goals simp only [h1, h2, MeasureMode.counting, if_true]

theorem execReleaseEdge_of_qualified (dt : Nat) (l : Loop) (s : State) (p : Presence) (hin : s.input l = true)
    (ha : s.acting = true) (hc : s.loopConfigured l = true) (hp : (s.loop l).presence = some p) (hq : p.qualified = true) :
    execReleaseEdge dt l s =
      .next ((((s.advance dt).setInput l false).releaseQualified l).settle (s.advance dt) []) := by
  have hp' : ((s.advance dt).loop l).presence = some p := hp
  have hin' : (s.advance dt).input l = true := hin
  have hcond : ((s.advance dt).acting && (s.advance dt).loopConfigured l) = true := by
    rw [Bool.and_eq_true]
    exact ⟨ha, hc⟩
  unfold execReleaseEdge
  simp only [hin', hcond, hp', hq, if_true]

/-- A release whose work is the detector unit's alone is told to no reader. -/
theorem exec_releaseEdge_of_work (dt : Nat) (l : Loop) (s t : State) (p : Presence) (hin : s.input l = true)
    (ha : s.acting = true) (hc : s.loopConfigured l = true) (hp : (s.loop l).presence = some p) (hq : p.qualified = true)
    (ht : ((s.advance dt).setInput l false).releaseQualified l = t)
    (hw : ((s.advance dt).setInput l false).DetectorWork t) : exec (.releaseEdge dt l) s = .next t := by
  rw [exec_releaseEdge_eq, execReleaseEdge_of_qualified dt l s p hin ha hc hp hq, ht]
  exact congrArg _ (hw.settle_of_setInput [])

/-- The entry of a single-loop mode completes, as a paired vehicle where that counts and as a single-loop one else (R13). -/
theorem State.releaseSingle_setLane (s : State) (k : Lane) (d : LaneDetector) (pairedCounts : Bool) :
    (d.arrivals = [] → (s.setLane k d).releaseSingle k pairedCounts = s.setLane k d) ∧
      (∀ a, d.arrivals = [a] → (s.setLane k d).releaseSingle k pairedCounts =
        if (pairedCounts && a.bOn.isSome) = true then
          (s.setLane k { d with arrivals := [] }).completeVehicle k { a with off := some s.tick }
        else (s.setLane k { d with arrivals := [] }).completeSingle k { a with off := some s.tick }) := by
  have harr : ((s.setLane k d).detector.lanes.get k).arrivals = d.arrivals := by rw [State.setLane_get]
  refine ⟨fun h => ?_, fun a h => ?_⟩
  · unfold State.releaseSingle
    rw [harr, h]
  · unfold State.releaseSingle
    rw [harr, h]
    simp only [State.setArrivals_setLane]
    rfl

/-- A single-loop vehicle counts in n alone and is delivered with reason SINGLE LOOP (R13). -/
theorem State.completeSingle_spec (s : State) (k : Lane) (a : Arrival) :
    let x := (s.detector.lanes.get k).sums
    (s.completeSingle k a).detector = (s.setSums k { x with n := x.n + 1 }).detector ∧
      s.delivered (s.unmeasured k a .singleLoop) (s.completeSingle k a) ∧
      SameOutside [.detector, .trace, .queue] s (s.completeSingle k a) :=
  s.finishRecord_setSums (s.unmeasured k a .singleLoop) .singleLoop _ rfl

theorem State.completeSingle_laneWork (s : State) (k : Lane) (a : Arrival) : State.LaneWork k s (s.completeSingle k a) :=
  (s.setSums_laneWork k _).trans (State.finishRecord_laneWork _ (s.unmeasured k a .singleLoop) _ rfl)

/-! ### The clauses on releases -/

/-- The state in which the counting loop has been released, with a list of arrivals. -/
def State.leftState (s : State) (dt : Nat) (l : Loop) (arrivals : List Arrival) : State :=
  let r := (s.advance dt).setInput l false
  r.setLane l.lane { r.leftLane l with arrivals := arrivals }

theorem State.leftState_eq (s : State) (dt : Nat) (l : Loop) (arrivals : List Arrival) :
    let d := s.detector.lanes.get l.lane
    s.leftState dt l arrivals = ((s.advance dt).setInput l false).setLane l.lane
      { d.setLoop l.side { s.loop l with presence := none } with
        arrivals := arrivals, mark := none, sums := { d.sums with sumOn := d.sums.sumOn + d.heldUpTo (BitVec.ofNat 32 ((s.clock + dt) / 100)) } } := by
  intro d
  unfold State.leftState State.leftLane
  dsimp only
  rw [LaneDetector.addOccupancy_eq]
  obtain ⟨k, side⟩ := l
  cases side <;> rfl

/-- A held loop that releases: the hypotheses that the clauses on releases share. -/
structure State.Releases (s : State) (l : Loop) (p : Presence) : Prop where
  input : s.input l = true
  acting : s.acting = true
  configured : s.loopConfigured l = true
  presence : (s.loop l).presence = some p
  qualified : p.qualified = true

theorem State.Releases.exec {s : State} {l : Loop} {p : Presence} (h : s.Releases l p) {dt : Nat} {t : State}
    (ht : ((s.advance dt).setInput l false).releaseQualified l = t)
    (hw : ((s.advance dt).setInput l false).DetectorWork t) : exec (.releaseEdge dt l) s = .next t :=
  exec_releaseEdge_of_work dt l s t p h.input h.acting h.configured h.presence h.qualified ht hw

/-- The release of loop A in DUAL sets the A-off time of the newest entry, which completes if it is paired or resolved. -/
theorem exec_releaseEdge_dual (dt : Nat) (k : Lane) (s : State) (p : Presence) (pre : List Arrival) (a : Arrival)
    (h : s.Releases { lane := k, side := .a } p) (hok : (s.loop { lane := k, side := .a }).status = .ok)
    (hm : (s.detector.lanes.get k).mode = .dual) (harr : (s.detector.lanes.get k).arrivals = pre ++ [a]) (ha : a.off = none)
    (hp : ∀ e ∈ pre, e.complete = false) :
    let e : Arrival := { a with off := some (BitVec.ofNat 32 ((s.clock + dt) / 100)) }
    exec (.releaseEdge dt { lane := k, side := .a }) s =
      .next (if a.bOn ≠ none ∨ a.resolved = true then (s.leftState dt { lane := k, side := .a } pre).completeVehicle k e
        else s.leftState dt { lane := k, side := .a } (pre ++ [e])) := by
  intro e
  let r := (s.advance dt).setInput { lane := k, side := .a } false
  let d := r.leftLane { lane := k, side := .a }
  have hoff : setOff r.tick (r.detector.lanes.get k).arrivals = pre ++ [e] := by
    have : (r.detector.lanes.get k).arrivals = pre ++ [a] := harr
    rw [this, setOff_append, if_pos (by rw [ha]; rfl)]
    rfl
  have hrel := (r.releaseQualified_of_ok { lane := k, side := .a } hok).1 hm rfl
  rw [hoff, State.setArrivals_setLane] at hrel
  have hcomplete : e.complete = decide (a.bOn ≠ none ∨ a.resolved = true) := by
    cases hb : a.bOn <;> simp [Arrival.complete, e, hb]
  by_cases hc : a.bOn ≠ none ∨ a.resolved = true
  · rw [if_pos hc]
    rw [r.drainArrivals_of_last k _ pre e rfl hp (by rw [hcomplete]; exact decide_eq_true hc)] at hrel
    exact h.exec hrel ((State.setLane_work r k _).trans (State.completeVehicle_laneWork _ k e).work)
  · rw [if_neg hc]
    rw [State.drainArrivals_of_none] at hrel
    · exact h.exec hrel (State.setLane_work r k _)
    · intro x hx
      rw [State.setLane_get] at hx
      rcases List.mem_append.mp hx with hx | hx
      · exact hp x hx
      · rw [List.mem_singleton.mp hx, hcomplete]
        exact decide_eq_false hc

/-- Without an entry that waits for its A-off time the release of loop A in DUAL makes no vehicle. -/
theorem exec_releaseEdge_dual_empty (dt : Nat) (k : Lane) (s : State) (p : Presence)
    (h : s.Releases { lane := k, side := .a } p) (hok : (s.loop { lane := k, side := .a }).status = .ok)
    (hm : (s.detector.lanes.get k).mode = .dual)
    (harr : ∀ e ∈ (s.detector.lanes.get k).arrivals, e.off ≠ none ∧ e.complete = false) :
    exec (.releaseEdge dt { lane := k, side := .a }) s =
      .next (s.leftState dt { lane := k, side := .a } (s.detector.lanes.get k).arrivals) := by
  let r := (s.advance dt).setInput { lane := k, side := .a } false
  have hrel := (r.releaseQualified_of_ok { lane := k, side := .a } hok).1 hm rfl
  have hoff := setOff_of_off r.tick (r.detector.lanes.get k).arrivals (fun a ha => (harr a ha).1)
  rw [hoff, State.setArrivals_setLane, State.drainArrivals_of_none] at hrel
  · exact h.exec hrel (State.setLane_work r k _)
  · intro x hx
    rw [State.setLane_get] at hx
    exact (harr x hx).2

/-- The release of the counting loop in a single-loop mode (R13). -/
theorem exec_releaseEdge_single (dt : Nat) (l : Loop) (s : State) (p : Presence) (h : s.Releases l p)
    (hok : (s.loop l).status = .ok)
    (hm : ((s.detector.lanes.get l.lane).mode = .singleA ∧ l.side = .a) ∨ ((s.detector.lanes.get l.lane).mode = .singleB ∧ l.side = .b)) :
    let d := s.detector.lanes.get l.lane
    let now : Tick := BitVec.ofNat 32 ((s.clock + dt) / 100)
    (d.arrivals = [] → exec (.releaseEdge dt l) s = .next (s.leftState dt l [])) ∧
      (∀ a, d.arrivals = [a] → d.mode = .singleA → a.bOn ≠ none →
        exec (.releaseEdge dt l) s = .next ((s.leftState dt l []).completeVehicle l.lane { a with off := some now })) ∧
      (∀ a, d.arrivals = [a] → (d.mode = .singleB ∨ a.bOn = none) →
        exec (.releaseEdge dt l) s = .next ((s.leftState dt l []).completeSingle l.lane { a with off := some now })) := by
  intro d now
  let r := (s.advance dt).setInput l false
  have harr : (r.leftLane l).arrivals = d.arrivals := r.leftLane_arrivals l
  have hrel : r.releaseQualified l = (r.setLane l.lane (r.leftLane l)).releaseSingle l.lane (d.mode == .singleA) := by
    obtain ⟨-, hA, hB⟩ := r.releaseQualified_of_ok l hok
    rcases hm with ⟨h1, h2⟩ | ⟨h1, h2⟩
    · rw [hA h1 h2, h1]
      rfl
    · rw [hB h1 h2, h1]
      rfl
  obtain ⟨hnil, hone⟩ := r.releaseSingle_setLane l.lane (r.leftLane l) (d.mode == .singleA)
  rw [harr] at hnil hone
  refine ⟨fun he => ?_, fun a he hA hb => ?_, fun a he hc => ?_⟩
  · have hleft : r.setLane l.lane (r.leftLane l) = s.leftState dt l [] := by
      show _ = r.setLane l.lane { r.leftLane l with arrivals := [] }
      rw [← he, ← harr]
    exact h.exec (hrel.trans ((hnil he).trans hleft)) (State.setLane_work r l.lane _)
  · have hcond : ((d.mode == .singleA) && a.bOn.isSome) = true := by
      rw [hA, Option.isSome_iff_ne_none.mpr hb]
      rfl
    exact h.exec (hrel.trans ((hone a he).trans (if_pos hcond)))
      ((State.setLane_work r l.lane _).trans (State.completeVehicle_laneWork _ l.lane _).work)
  · have hcond : ¬((d.mode == .singleA) && a.bOn.isSome) = true := by
      rcases hc with hc | hc
      · rw [hc]
        exact nofun
      · rw [hc, Option.isSome_none, Bool.and_false]
        exact nofun
    exact h.exec (hrel.trans ((hone a he).trans (if_neg hcond)))
      ((State.setLane_work r l.lane _).trans (State.completeSingle_laneWork _ l.lane _).work)

/-- The single-loop vehicle of a release counts in n alone and is delivered as it stands before the release (R13). -/
theorem State.completeSingle_leftState (s : State) (dt : Nat) (l : Loop) (a : Arrival) :
    let u := s.leftState dt l []
    (u.completeSingle l.lane a).detector =
        (u.setSums l.lane { (u.detector.lanes.get l.lane).sums with n := (s.detector.lanes.get l.lane).sums.n + 1 }).detector ∧
      s.delivered (u.unmeasured l.lane a .singleLoop) (u.completeSingle l.lane a) ∧
      SameOutside [.clock, .inputs, .detector, .trace, .queue] s (u.completeSingle l.lane a) ∧ (u.completeSingle l.lane a).quiet := by
  intro u
  obtain ⟨hdet, hdel, hsame⟩ := u.completeSingle_spec l.lane a
  have hlane : u.detector.lanes.get l.lane =
      { ((s.advance dt).setInput l false).leftLane l with arrivals := [] } := State.setLane_get _ _ _
  have hn : (u.detector.lanes.get l.lane).sums.n = (s.detector.lanes.get l.lane).sums.n := by
    rw [hlane, State.leftLane, LaneDetector.addOccupancy_eq]
    cases l.side <;> rfl
  have hm : (u.detector.lanes.get l.lane).mode = (s.detector.lanes.get l.lane).mode := by
    rw [hlane]
    exact State.leftLane_mode _ l
  rw [hn] at hdet
  refine ⟨hdet, State.delivered_congr (u := u) rfl rfl rfl hm hdel, ?_, congrArg Signs.sent (u.completeSingle_laneWork l.lane a).work.signs⟩
  exact ((s.advance_same dt).trans (State.setInput_same _ l false) (n := [.clock, .inputs]) (by decide) (by decide)).trans
    ((State.setLane_same _ _ _).trans hsame (n := [.detector, .trace, .queue]) (by decide) (fun _ x => x)) (by decide) (by decide)

/-! ### The release of a STUCK loop -/

/-- The lane of a STUCK loop that has been released and is OK again. -/
def State.freedLane (s : State) (l : Loop) : LaneDetector :=
  (s.detector.lanes.get l.lane).setLoop l.side { s.loop l with presence := none, status := .ok }

theorem State.releaseQualified_of_stuck (s : State) (l : Loop) (h : (s.loop l).status = .stuck) :
    s.releaseQualified l =
      ((s.setLane l.lane (s.freedLane l)).endFault .loopStuck (loopNumber l)).settleMode l.lane s.tick := by
  have hset (x y : LoopRecord) : (s.setLoop l x).setLoop l y = s.setLane l.lane ((s.detector.lanes.get l.lane).setLoop l.side y) := by
    have hd : ((s.detector.lanes.get l.lane).setLoop l.side x).setLoop l.side y = (s.detector.lanes.get l.lane).setLoop l.side y := by
      cases l.side <;> rfl
    unfold State.setLoop
    rw [State.setLane_get, State.setLane_setLane, hd]
  unfold State.releaseQualified
  simp only [h, hset]
  rfl

/-- A lane with an OK loop is measured by it: its mode is not NONE (Table 1-2). -/
theorem State.modeOfLoops_freedLane (s : State) (l : Loop) (hc : s.loopConfigured l = true) :
    modeOfLoops (s.cfg.lanes.get l.lane).loopB (s.freedLane l) ≠ .none := by
  obtain ⟨k, side⟩ := l
  cases side
  · have ha : (s.freedLane { lane := k, side := .a }).a.status = .ok := rfl
    unfold modeOfLoops
    rw [if_pos ha]
    split <;> exact nofun
  · have hb : (s.freedLane { lane := k, side := .b }).b.status = .ok := rfl
    have hB : (s.cfg.lanes.get k).loopB = true := (Bool.and_eq_true _ _ ▸ hc).2
    unfold modeOfLoops
    rw [hb, hB]
    split <;> exact nofun

/-- The release of a STUCK loop ends LOOP STUCK and settles its lane's mode (R4, R6 to R8). -/
theorem exec_releaseEdge_stuck (dt : Nat) (l : Loop) (s : State) (p : Presence) (h : s.Releases l p)
    (hs : (s.loop l).status = .stuck) :
    ∃ t, exec (.releaseEdge dt l) s = .next t ∧ t.clock = s.clock + dt ∧ t.input l = false ∧
      (∀ l', l' ≠ l → t.input l' = s.input l') ∧ t.faults = s.faults.close .loopStuck (loopNumber l) ∧
      (s.advance dt).settledFrom l.lane (s.freedLane l) (BitVec.ofNat 32 ((s.clock + dt) / 100)) t ∧
      (let e := t.detector.lanes.get l.lane
      e.measured = ((s.freedLane l).measured || (e.mode != (s.freedLane l).mode && e.mode != .none))) ∧
      (∀ k, k ≠ l.lane → t.detector.lanes.get k = s.detector.lanes.get k) ∧
      SameOutside [.clock, .inputs, .detector, .requests, .trace, .queue, .faults] s t ∧ t.quiet := by
  let r := (s.advance dt).setInput l false
  let u := (r.setLane l.lane (s.freedLane l)).endFault .loopStuck (loopNumber l)
  have hlane : u.detector.lanes.get l.lane = s.freedLane l := State.setLane_get _ _ _
  have hn : u.AbortsNothing l.lane := by
    intro _ hnone
    rw [hlane] at hnone
    exact absurd hnone (s.modeOfLoops_freedLane l h.configured)
  have hw := u.settleMode_laneWork l.lane r.tick hn
  have hru : r.DetectorWork u := rfl
  have hinputs (l' : Loop) : (u.settleMode l.lane r.tick).input l' = r.input l' := by
    unfold State.input
    rw [hw.work.inputs]
    rfl
  have hsettled := State.settledFrom_congr (s := s.advance dt) (u := u) rfl rfl _ _ _ _ (u.settleMode_settledFrom l.lane r.tick hn)
  have hmeas := u.settleMode_measured l.lane r.tick hn
  rw [hlane] at hsettled hmeas
  refine ⟨_, h.exec (r.releaseQualified_of_stuck l hs) (hru.trans hw.work), hw.work.clock,
    (hinputs l).trans ((s.advance dt).input_setInput l false), fun l' hl' => (hinputs l').trans ((s.advance dt).input_setInput_of_ne false hl'),
    hw.faults, hsettled, hmeas, fun k hk => (hw.otherLane hk).trans (State.setLane_get_of_ne _ _ hk), ?_,
    congrArg Signs.sent hw.work.signs⟩
  exact ((s.advance_same dt).trans (State.setInput_same _ l false) (n := [.clock, .inputs]) (by decide) (by decide)).trans
    (hru.trans hw.work).same (by decide) (by decide)

/-! ### The outcome of a completed vehicle -/

/-- A vehicle with T = 0 counts as implausible and is delivered so (R12). -/
theorem State.completeVehicle_implausible (s : State) (k : Lane) (a : Arrival) (h : a.bOn = some a.on) :
    let x := (s.detector.lanes.get k).sums
    (s.completeVehicle k a).detector =
        (s.setSums k { x with n := x.n + 1, implausible := min (x.implausible + 1) 255 }).detector ∧
      s.delivered (s.unmeasured k a .implausible) (s.completeVehicle k a) ∧
      SameOutside [.detector, .trace, .queue] s (s.completeVehicle k a) := by
  have hadd (x : Sums) : a.addTo x = { x with n := x.n + 1, implausible := min (x.implausible + 1) 255 } := by
    unfold Arrival.addTo
    rw [h]
    exact if_pos rfl
  rcases s.completeVehicle_cases k a with ⟨hn, -⟩ | ⟨-, e⟩ | ⟨b, hb, hne, -⟩
  · exact absurd (h.symm.trans hn) nofun
  · rw [e, hadd]
    exact s.finishRecord_setSums (s.unmeasured k a .implausible) .implausible _ rfl
  · exact absurd (Option.some.inj (hb.symm.trans h)) hne

/-- A measured vehicle counts in m and ΣT; its VEHICLE request is taken while fewer than 7 are held, and is else a record with
reason LOAD (R12, R21). -/
theorem State.completeVehicle_measured (s : State) (k : Lane) (a : Arrival) (b : Tick) (h : a.bOn = some b) (hne : b ≠ a.on) :
    let x := (s.detector.lanes.get k).sums
    let s1 := s.setSums k { x with n := x.n + 1, m := x.m + 1, sumT := x.sumT + (b - a.on).toNat }
    (vehicleCount s.requests < 7 →
        s.completeVehicle k a = s1.setRequests (s.requests ++ [.vehicle (s.vehicleRequest k a b)])) ∧
      (7 ≤ vehicleCount s.requests → (s.completeVehicle k a).detector = s1.detector ∧
        s.delivered (s.unmeasured k a .load) (s.completeVehicle k a) ∧
        SameOutside [.detector, .trace, .queue] s (s.completeVehicle k a)) := by
  have hadd (x : Sums) : a.addTo x = { x with n := x.n + 1, m := x.m + 1, sumT := x.sumT + (b - a.on).toNat } := by
    unfold Arrival.addTo
    rw [h]
    exact if_neg hne
  rcases s.completeVehicle_cases k a with ⟨hn, -⟩ | ⟨hi, -⟩ | ⟨c, hc, -, hcase⟩
  · exact absurd (h.symm.trans hn) nofun
  · exact absurd (Option.some.inj (h.symm.trans hi)) hne
  · obtain rfl := Option.some.inj (h.symm.trans hc)
    rw [hadd] at hcase
    rcases hcase with ⟨hlt, e⟩ | ⟨hge, e⟩
    · exact ⟨fun _ => e, fun hge => absurd hlt (Nat.not_lt.mpr hge)⟩
    · refine ⟨fun hlt => absurd hlt (Nat.not_lt.mpr hge), fun _ => ?_⟩
      rw [e]
      exact s.finishRecord_setSums (s.unmeasured k a .load) .load _ rfl

/-- Settles O27: the release by the lane's mode, the outcome of the vehicle it completes, and the release of a STUCK loop. -/
theorem releaseCompletesAPairedVehicle : Obligations.ReleaseCompletesAPairedVehicle := by
  refine ⟨?_, ?_, ?_, ?_, ?_⟩
  · rintro dt k s p pre a l d e ⟨hin, ha, hc, hp, hq, hok⟩ hm harr hoff hpre
    have h := exec_releaseEdge_dual dt k s p pre a ⟨hin, ha, hc, hp, hq⟩ hok hm harr hoff hpre
    dsimp only at h
    rw [State.leftState_eq, State.leftState_eq] at h
    exact h
  · rintro dt k s p l d ⟨hin, ha, hc, hp, hq, hok⟩ hm harr
    have h := exec_releaseEdge_dual_empty dt k s p ⟨hin, ha, hc, hp, hq⟩ hok hm harr
    rw [State.leftState_eq] at h
    exact h
  · rintro dt l s p a d now ⟨hin, ha, hc, hp, hq, hok⟩ hm
    obtain ⟨hnil, hpaired, hsingle⟩ := exec_releaseEdge_single dt l s p ⟨hin, ha, hc, hp, hq⟩ hok hm
    have hspec := s.completeSingle_leftState dt l { a with off := some now }
    rw [State.leftState_eq] at hnil hpaired hsingle hspec
    exact ⟨hnil, hpaired a, fun harr hb => ⟨_, hsingle a harr hb, hspec⟩⟩
  · intro s k a off hoff x c t record
    have hrec (reason : UnmeasuredReason) : s.unmeasured k a reason = record reason := by
      unfold State.unmeasured
      rw [hoff]
      rfl
    refine ⟨fun b hb hne => ?_, fun b hb hne => ?_, fun hb => ?_, fun hb => ?_⟩
    · have h := (s.completeVehicle_measured k a b hb hne).1
      unfold State.vehicleRequest at h
      rw [hoff] at h
      exact h
    · have h := (s.completeVehicle_measured k a b hb hne).2
      rw [hrec] at h
      exact h
    · have h := s.completeVehicle_implausible k a hb
      rw [hrec] at h
      exact h
    · have h := s.completeVehicle_notPaired k a hb
      rw [hrec] at h
      exact h
  · intro dt l s p hin ha hc hp hq hst d
    exact exec_releaseEdge_stuck dt l s p ⟨hin, ha, hc, hp, hq⟩ hst

end Sys2Proof.Machine
end

section
/-!
PROOFS. The end of an interval (R5 to R8, R15, R16, R18, R28, R29): its phases one after the other, each said for every lane
or loop at once.
-/
namespace Sys2Proof.Machine

/-! ### Visits -/

theorem Lane.mem_all (k : Lane) : k ∈ Lane.all := by cases k <;> decide

theorem Lane.all_nodup : Lane.all.Nodup := by decide

theorem State.laneList_nodup (s : State) : s.laneList.Nodup := Lane.all_nodup.filter _

/-- The configured loops are each named once. -/
theorem State.loopList_nodup (s : State) : s.loopList.Nodup := List.Nodup.filter _ (by decide)

theorem State.mem_loopList (s : State) (l : Loop) : l ∈ s.loopList ↔ s.loopConfigured l = true := by
  unfold State.loopList
  rw [List.mem_filter]
  refine and_iff_right (List.mem_flatMap.mpr ⟨l.lane, Lane.mem_all _, ?_⟩)
  obtain ⟨k, side⟩ := l
  cases side <;> simp

/-- An order of visits visits what is to be visited (log 3). -/
theorem mem_visitOrder {α : Type} [DecidableEq α] (given all : List α) (x : α) : x ∈ visitOrder given all ↔ x ∈ all := by
  unfold visitOrder
  simp only [List.mem_append, List.mem_eraseDups, List.mem_filter, List.contains_eq_mem, decide_eq_true_eq, Bool.not_eq_true',
    decide_eq_false_iff_not]
  tauto

theorem nodup_eraseDups {α : Type} [DecidableEq α] (l : List α) : l.eraseDups.Nodup := by
  induction h : l.length using Nat.strong_induction_on generalizing l with
  | _ n ih =>
    cases l with
    | nil => exact List.nodup_nil
    | cons a as =>
      rw [List.eraseDups_cons, List.nodup_cons]
      refine ⟨fun hm => ?_, ih _ ?_ _ rfl⟩
      · simp at hm
      · rw [← h, List.length_cons]
        exact Nat.lt_succ_of_le (List.length_filter_le _ _)

/-- An order of visits visits each thing once. -/
theorem visitOrder_nodup {α : Type} [DecidableEq α] (given all : List α) (h : all.Nodup) : (visitOrder given all).Nodup := by
  unfold visitOrder
  refine List.nodup_append.mpr ⟨nodup_eraseDups _, h.filter _, fun x hx y hy => ?_⟩
  rintro rfl
  have hg := (List.mem_filter.mp (List.mem_eraseDups.mp hx)).1
  simpa [hg] using (List.mem_filter.mp hy).2

/-! ### A change of every lane of a list -/

/-- Every lane of a list is changed by one function. -/
def State.mapLanes (s : State) (ks : List Lane) (g : LaneDetector → LaneDetector) : State :=
  s.setDetector { s.detector with
    lanes := Lanes.build (fun k => if k ∈ ks then g (s.detector.lanes.get k) else s.detector.lanes.get k) }

theorem State.mapLanes_get (s : State) (ks : List Lane) (g : LaneDetector → LaneDetector) (k : Lane) :
    (s.mapLanes ks g).detector.lanes.get k = if k ∈ ks then g (s.detector.lanes.get k) else s.detector.lanes.get k :=
  Lanes.get_build _ k

theorem State.mapLanes_get_mem (s : State) {ks : List Lane} (g : LaneDetector → LaneDetector) {k : Lane} (h : k ∈ ks) :
    (s.mapLanes ks g).detector.lanes.get k = g (s.detector.lanes.get k) := (s.mapLanes_get ks g k).trans (if_pos h)

theorem State.mapLanes_get_not_mem (s : State) {ks : List Lane} (g : LaneDetector → LaneDetector) {k : Lane} (h : k ∉ ks) :
    (s.mapLanes ks g).detector.lanes.get k = s.detector.lanes.get k := (s.mapLanes_get ks g k).trans (if_neg h)

/-- Lanes changed one after the other are all changed. -/
theorem State.foldl_setLane (ks : List Lane) (h : ks.Nodup) (g : LaneDetector → LaneDetector) (s : State) :
    ks.foldl (fun t k => t.setLane k (g (t.detector.lanes.get k))) s = s.mapLanes ks g := by
  have ext (x y : Lanes LaneDetector) (hxy : x = y) :
      s.setDetector { s.detector with lanes := x } = s.setDetector { s.detector with lanes := y } := by rw [hxy]
  induction ks generalizing s with
  | nil => exact (ext _ _ (Lanes.ext_get fun k => (Lanes.get_build _ k).trans (if_neg List.not_mem_nil))).symm
  | cons k ks ih =>
    obtain ⟨hk, hks⟩ := List.nodup_cons.mp h
    refine (ih hks _ (fun x y hxy => by rw [hxy])).trans (ext _ _ (Lanes.ext_get fun j => ?_))
    rw [Lanes.get_build, Lanes.get_build]
    by_cases hj : j = k
    · subst hj
      rw [if_neg hk, if_pos List.mem_cons_self, State.setLane_get]
    · rw [State.setLane_get_of_ne _ _ hj]
      simp only [List.mem_cons, hj, false_or]

/-! ### The sums are handed over (R28, R29) -/

theorem State.foldl_handTo (ks : List Lane) (s : State) :
    ks.foldl (fun t k => t.setRequests (handTo t.requests k (t.handed k))) s =
      s.setRequests (ks.foldl (fun q k => handTo q k (s.handed k)) s.requests) := by
  induction ks generalizing s with
  | nil => rfl
  | cons k ks ih => exact ih _

/-- What handing over a lane's sums makes of one request: the lane's own INTERVAL request takes them in (R29). -/
def Request.mergeIf (k : Lane) (x : Snapshot) (r : Request) : Request :=
  match r with
  | .interval j y => if j = k then .interval j (y.merge x) else r
  | .vehicle _ => r

theorem handTo_eq (q : List Request) (k : Lane) (x : Snapshot) :
    handTo q k x = if q.any (Request.isIntervalOf k) then q.map (Request.mergeIf k x) else q ++ [.interval k x] := rfl

theorem Request.isVehicle_mergeIf (k : Lane) (x : Snapshot) (r : Request) : (r.mergeIf k x).isVehicle = r.isVehicle := by
  cases r with
  | vehicle v => rfl
  | interval j y =>
    unfold Request.mergeIf
    dsimp only
    split <;> rfl

theorem Request.isIntervalOf_mergeIf (j k : Lane) (x : Snapshot) (r : Request) :
    (r.mergeIf k x).isIntervalOf j = r.isIntervalOf j := by
  cases r with
  | vehicle v => rfl
  | interval i y =>
    unfold Request.mergeIf
    dsimp only
    split <;> rfl

theorem Request.mergeIf_of_not (k : Lane) (x : Snapshot) (r : Request) (h : r.isIntervalOf k = false) : r.mergeIf k x = r := by
  cases r with
  | vehicle v => rfl
  | interval j y =>
    have hj : j ≠ k := by simpa [Request.isIntervalOf] using h
    exact if_neg hj

/-- Handing over touches no VEHICLE request. -/
theorem handTo_vehicles (q : List Request) (k : Lane) (x : Snapshot) :
    (handTo q k x).filter Request.isVehicle = q.filter Request.isVehicle := by
  rw [handTo_eq]
  split
  · rw [List.filter_map]
    have hf : Request.isVehicle ∘ Request.mergeIf k x = Request.isVehicle := funext (Request.isVehicle_mergeIf k x)
    rw [hf]
    refine (List.map_congr_left fun r hr => ?_).trans (List.map_id _)
    have hv := (List.mem_filter.mp hr).2
    cases r with
    | vehicle v => rfl
    | interval j y => cases hv
  · rw [List.filter_append]
    exact List.append_nil _

/-- Handing over one lane's sums leaves the other lanes' INTERVAL requests. -/
theorem handTo_other (q : List Request) {j k : Lane} (x : Snapshot) (h : j ≠ k) :
    (handTo q k x).filter (Request.isIntervalOf j) = q.filter (Request.isIntervalOf j) := by
  rw [handTo_eq]
  split
  · rw [List.filter_map]
    have hf : Request.isIntervalOf j ∘ Request.mergeIf k x = Request.isIntervalOf j :=
      funext (Request.isIntervalOf_mergeIf j k x)
    rw [hf]
    refine (List.map_congr_left fun r hr => Request.mergeIf_of_not k x r ?_).trans (List.map_id _)
    have hv := (List.mem_filter.mp hr).2
    cases r with
    | vehicle v => rfl
    | interval i y =>
      obtain rfl : i = j := by simpa [Request.isIntervalOf] using hv
      simpa [Request.isIntervalOf] using h
  · have hk : (Request.interval k x).isIntervalOf j = false := by simpa [Request.isIntervalOf] using h.symm
    rw [List.filter_append, List.filter_cons, hk]
    exact List.append_nil _

/-- A lane's sums are merged into the INTERVAL request it has, or make a new one (R28, R29). -/
theorem handTo_self (q : List Request) (k : Lane) (x : Snapshot) :
    (handTo q k x).filter (Request.isIntervalOf k) =
      if q.any (Request.isIntervalOf k) then (q.filter (Request.isIntervalOf k)).map (Request.mergeIf k x)
      else [.interval k x] := by
  rw [handTo_eq]
  split
  · rw [List.filter_map]
    have hf : Request.isIntervalOf k ∘ Request.mergeIf k x = Request.isIntervalOf k :=
      funext (Request.isIntervalOf_mergeIf k k x)
    rw [hf]
  · next h =>
    have hnone : q.filter (Request.isIntervalOf k) = [] := by
      refine List.filter_eq_nil_iff.mpr fun r hr hk => h ?_
      exact List.any_eq_true.mpr ⟨r, hr, hk⟩
    have hk : (Request.interval k x).isIntervalOf k = true := beq_self_eq_true k
    rw [List.filter_append, hnone, List.filter_cons, hk]
    rfl

theorem any_eq_not_isEmpty_filter {α : Type} (l : List α) (p : α → Bool) : l.any p = !(l.filter p).isEmpty := by
  rw [Bool.eq_iff_iff, List.any_eq_true, Bool.not_eq_true', List.isEmpty_eq_false_iff, ne_eq, List.filter_eq_nil_iff]
  push Not
  rfl

theorem foldl_handTo_vehicles (ks : List Lane) (f : Lane → Snapshot) (q : List Request) :
    (ks.foldl (fun q k => handTo q k (f k)) q).filter Request.isVehicle = q.filter Request.isVehicle := by
  induction ks generalizing q with
  | nil => rfl
  | cons k ks ih => exact (ih _).trans (handTo_vehicles q k _)

theorem foldl_handTo_other (ks : List Lane) (f : Lane → Snapshot) (q : List Request) (j : Lane) (h : j ∉ ks) :
    (ks.foldl (fun q k => handTo q k (f k)) q).filter (Request.isIntervalOf j) = q.filter (Request.isIntervalOf j) := by
  induction ks generalizing q with
  | nil => rfl
  | cons k ks ih =>
    exact (ih _ (fun hm => h (List.mem_cons_of_mem _ hm))).trans
      (handTo_other q _ (fun e => h (e ▸ List.mem_cons_self)))

/-- The INTERVAL requests of a lane of the list after every lane has handed its sums. -/
theorem foldl_handTo_mem (ks : List Lane) (hn : ks.Nodup) (f : Lane → Snapshot) (q : List Request) (k : Lane) (h : k ∈ ks) :
    (ks.foldl (fun q k => handTo q k (f k)) q).filter (Request.isIntervalOf k) =
      if q.any (Request.isIntervalOf k) then (q.filter (Request.isIntervalOf k)).map (Request.mergeIf k (f k))
      else [.interval k (f k)] := by
  induction ks generalizing q with
  | nil => exact absurd h List.not_mem_nil
  | cons j ks ih =>
    obtain ⟨hj, hks⟩ := List.nodup_cons.mp hn
    by_cases hk : k = j
    · subst hk
      exact (foldl_handTo_other ks f _ k hj).trans (handTo_self q k (f k))
    · have hmem := (List.mem_cons.mp h).resolve_left hk
      have hsame := handTo_other q (f j) hk
      have hany : (handTo q j (f j)).any (Request.isIntervalOf k) = q.any (Request.isIntervalOf k) := by
        rw [any_eq_not_isEmpty_filter, hsame, ← any_eq_not_isEmpty_filter]
      have := ih hks (handTo q j (f j)) hmem
      rw [hsame, hany] at this
      exact this

/-! ### PAIR IMPLAUSIBLE (R16) -/

/-- The fault list after PAIR IMPLAUSIBLE is raised for a lane with a count. -/
def State.implausibleFault (s : State) (f : FaultList) (k : Lane) : FaultList :=
  if (s.detector.lanes.get k).sums.implausible = 0 then f else f.raise .pairImplausible k.num s.seconds

theorem State.raiseImplausible_eq (s : State) (k : Lane) : s.raiseImplausible k = s.setFaults (s.implausibleFault s.faults k) := by
  unfold State.raiseImplausible State.implausibleFault
  split <;> rfl

theorem State.foldl_raiseImplausible (ks : List Lane) (s : State) :
    ks.foldl State.raiseImplausible s = s.setFaults (ks.foldl s.implausibleFault s.faults) := by
  induction ks generalizing s with
  | nil => rfl
  | cons k ks ih =>
    rw [List.foldl_cons, ih, s.raiseImplausible_eq k]
    rfl

/-! ### The loops are judged (R5, R6) -/

/-- The fault list after a loop has been judged: LOOP CHATTER is raised or ended by a change of its state. -/
def State.judgementFault (s : State) (f : FaultList) (l : Loop) : FaultList :=
  match (s.loop l).status, (s.judged l).status with
  | .ok, .chatter => f.raise .loopChatter (loopNumber l) s.seconds
  | .chatter, .ok => f.close .loopChatter (loopNumber l)
  | _, _ => f

theorem State.judgeLoop_eq (s : State) (l : Loop) :
    s.judgeLoop l = (s.setLoop l (s.judged l)).setFaults (s.judgementFault s.faults l) := by
  unfold State.judgeLoop State.judgementFault State.judged
  dsimp only
  by_cases hn : s.cfg.chatterLimit < (s.loop l).glitches <;> cases hst : (s.loop l).status <;>
    simp only [hn, decide_true, decide_false, if_true, if_false, Bool.false_eq_true] <;> rfl

/-- A lane with those of its loops judged that a list names. -/
def State.judgedLane (s : State) (ls : List Loop) (k : Lane) : LaneDetector :=
  let d := s.detector.lanes.get k
  { d with a := if { lane := k, side := .a } ∈ ls then s.judged { lane := k, side := .a } else d.a
           b := if { lane := k, side := .b } ∈ ls then s.judged { lane := k, side := .b } else d.b }

/-- Every loop of a list is judged. -/
def State.judgeAll (s : State) (ls : List Loop) : State :=
  (s.setDetector { s.detector with lanes := Lanes.build (s.judgedLane ls) }).setFaults (ls.foldl s.judgementFault s.faults)

/-- The judgement of one loop is not seen by that of another. -/
theorem State.judged_judgeLoop (s : State) {l l' : Loop} (h : l' ≠ l) :
    (s.judgeLoop l).loop l' = s.loop l' ∧ (s.judgeLoop l).judged l' = s.judged l' := by
  have hl : (s.judgeLoop l).loop l' = s.loop l' := by
    rw [s.judgeLoop_eq l]
    exact s.setLoop_loop_of_ne _ h
  have hc : (s.judgeLoop l).cfg = s.cfg := by
    rw [s.judgeLoop_eq l]
    rfl
  refine ⟨hl, ?_⟩
  unfold State.judged
  rw [hl, hc]

theorem State.judgementFault_judgeLoop (s : State) {l l' : Loop} (h : l' ≠ l) (f : FaultList) :
    (s.judgeLoop l).judgementFault f l' = s.judgementFault f l' := by
  obtain ⟨hl, hj⟩ := s.judged_judgeLoop h
  have hs : (s.judgeLoop l).seconds = s.seconds := by
    rw [s.judgeLoop_eq l]
    rfl
  unfold State.judgementFault
  rw [hl, hj, hs]

/-- A lane after one loop and then others have been judged. -/
theorem State.judgedLane_judgeLoop (s : State) (l : Loop) (ls : List Loop) (h : l ∉ ls) (k : Lane) :
    (s.judgeLoop l).judgedLane ls k = s.judgedLane (l :: ls) k := by
  have hside (side : Side) :
      (if { lane := k, side := side } ∈ ls then (s.judgeLoop l).judged { lane := k, side := side }
        else (s.judgeLoop l).loop { lane := k, side := side }) =
      if { lane := k, side := side } ∈ l :: ls then s.judged { lane := k, side := side }
        else s.loop { lane := k, side := side } := by
    by_cases hl : ({ lane := k, side := side } : Loop) = l
    · subst hl
      rw [if_neg h, if_pos List.mem_cons_self, State.judgeLoop_eq]
      exact s.setLoop_loop _ _
    · obtain ⟨h1, h2⟩ := s.judged_judgeLoop hl
      rw [h1, h2]
      simp only [List.mem_cons, hl, false_or]
  have hrest : (s.judgeLoop l).detector.lanes.get k =
      { s.detector.lanes.get k with a := ((s.judgeLoop l).detector.lanes.get k).a, b := ((s.judgeLoop l).detector.lanes.get k).b } := by
    rw [s.judgeLoop_eq l]
    obtain ⟨j, side⟩ := l
    by_cases hk : k = j
    · subst hk
      rw [show ((s.setLoop ⟨k, side⟩ (s.judged ⟨k, side⟩)).setFaults (s.judgementFault s.faults ⟨k, side⟩)).detector.lanes.get k =
        (s.detector.lanes.get k).setLoop side (s.judged ⟨k, side⟩) from s.setLane_get k _]
      cases side <;> rfl
    · rw [show ((s.setLoop ⟨j, side⟩ (s.judged ⟨j, side⟩)).setFaults (s.judgementFault s.faults ⟨j, side⟩)).detector.lanes.get k =
        s.detector.lanes.get k from s.setLane_get_of_ne _ hk]
  have ha := hside .a
  have hb := hside .b
  unfold State.loop at ha hb
  unfold State.judgedLane
  dsimp only [LaneDetector.loop] at ha hb ⊢
  rw [ha, hb, hrest]

theorem State.foldl_judgeLoop (ls : List Loop) (h : ls.Nodup) (s : State) : ls.foldl State.judgeLoop s = s.judgeAll ls := by
  induction ls generalizing s with
  | nil =>
    have hl : Lanes.build (s.judgedLane []) = s.detector.lanes := Lanes.ext_get fun k => Lanes.get_build _ k
    unfold State.judgeAll
    rw [hl]
    rfl
  | cons l ls ih =>
    obtain ⟨hl, hls⟩ := List.nodup_cons.mp h
    have hlanes : (s.judgeLoop l).judgedLane ls = s.judgedLane (l :: ls) := funext (s.judgedLane_judgeLoop l ls hl)
    have hfaults : ls.foldl (s.judgeLoop l).judgementFault (s.judgeLoop l).faults =
        ls.foldl s.judgementFault (s.judgementFault s.faults l) := by
      have hf : (s.judgeLoop l).faults = s.judgementFault s.faults l := by
        rw [s.judgeLoop_eq l]
        rfl
      rw [hf]
      exact List.foldl_ext _ _ _ fun f l' hm => s.judgementFault_judgeLoop (ne_of_mem_of_not_mem hm hl) f
    rw [List.foldl_cons, ih hls]
    unfold State.judgeAll
    rw [hlanes, hfaults, s.judgeLoop_eq l]
    rfl

/-! ### The modes are recomputed (R7, R8) -/

/-- What a lane has been settled to, but for the mark whether it is measured, says all of it. -/
theorem State.settledFrom_target {s t u : State} {k : Lane} {d : LaneDetector} {moment : Tick} (x : Bool)
    (hl : u.detector.lanes.get k = { t.detector.lanes.get k with measured := x })
    (hr : u.queue.runs.get k = t.queue.runs.get k) (h : s.settledFrom k d moment t) : s.settledFrom k d moment u := by
  unfold State.settledFrom at *
  rw [hl, hr]
  exact h

/-- Several lanes have their modes recomputed, one after the other. -/
def State.settleAll (s : State) (ks : List Lane) (moment : Tick) : State := ks.foldl (fun t k => t.settleMode k moment) s

theorem State.settleAll_lanesWork (ks : List Lane) (moment : Tick) (s : State) (h : s.shoulder.state ≠ .checking) :
    State.LanesWork ks s (s.settleAll ks moment) := by
  induction ks generalizing s with
  | nil => exact State.LanesWork.refl [] s
  | cons k ks ih =>
    have h1 := s.settleMode_laneWork k moment (s.abortsNothing_of k (.inr h))
    have h2 := ih (s.settleMode k moment) (fun hc => h ((congrArg Shoulder.state h1.work.shoulder).symm.trans hc))
    exact (h1.mono (List.cons_subset_cons k (List.nil_subset ks))).trans (h2.mono (List.subset_cons_self k ks))

/-- Every lane of the list is settled from what it was (R7, R8). -/
theorem State.settleAll_settledFrom (ks : List Lane) (hn : ks.Nodup) (moment : Tick) (s : State)
    (h : s.shoulder.state ≠ .checking) (j : Lane) (hj : j ∈ ks) :
    s.settledFrom j (s.detector.lanes.get j) moment (s.settleAll ks moment) := by
  induction ks generalizing s with
  | nil => exact absurd hj List.not_mem_nil
  | cons k ks ih =>
    obtain ⟨hk, hks⟩ := List.nodup_cons.mp hn
    have ha := s.abortsNothing_of k (.inr h)
    have h1 := s.settleMode_laneWork k moment ha
    have hsh : (s.settleMode k moment).shoulder.state ≠ .checking :=
      fun hc => h ((congrArg Shoulder.state h1.work.shoulder).symm.trans hc)
    have h2 := State.settleAll_lanesWork ks moment (s.settleMode k moment) hsh
    rcases List.mem_cons.mp hj with rfl | hm
    · exact State.settledFrom_target _ (h2.otherLanes j hk) (h2.otherRuns j hk) (s.settleMode_settledFrom j moment ha)
    · have hne : j ≠ k := fun e => hk (e ▸ hm)
      have := ih hks (s.settleMode k moment) hsh hm
      rw [h1.otherLane hne] at this
      exact State.settledFrom_congr h1.work.cfg h1.work.clock _ _ _ _ this

/-- Vehicles that are not paired make no VEHICLE request when the modes change (R12). -/
theorem State.settleAll_requests (ks : List Lane) (hn : ks.Nodup) (moment : Tick) (s : State)
    (h : s.shoulder.state ≠ .checking)
    (hp : ∀ k ∈ ks, ∀ a ∈ (s.detector.lanes.get k).arrivals, a.off ≠ none → a.bOn = none) :
    (s.settleAll ks moment).requests = s.requests := by
  induction ks generalizing s with
  | nil => rfl
  | cons k ks ih =>
    obtain ⟨hk, hks⟩ := List.nodup_cons.mp hn
    have ha := s.abortsNothing_of k (.inr h)
    have h1 := s.settleMode_laneWork k moment ha
    have hsh : (s.settleMode k moment).shoulder.state ≠ .checking :=
      fun hc => h ((congrArg Shoulder.state h1.work.shoulder).symm.trans hc)
    refine (ih hks (s.settleMode k moment) hsh fun j hj => ?_).trans
      (s.settleMode_requests k moment ha (hp k List.mem_cons_self))
    rw [h1.otherLane (fun e => hk (e ▸ hj))]
    exact hp j (List.mem_cons_of_mem _ hj)

/-! ### The phases of an interval end -/

/-- The sums of every lane are complete, and the trace buffer has counted the interval. -/
def State.closed (s : State) (stop : Tick) : State :=
  (s.setTrace s.trace.countInterval).mapLanes s.laneList (fun d => d.closeInterval stop)

/-- The sums have been handed over, PAIR IMPLAUSIBLE raised, and the sums start again. -/
def State.handedOver (s : State) (lanes : List Lane) : State :=
  let u := s.setRequests (s.laneList.foldl (fun q k => handTo q k (s.handed k)) s.requests)
  (u.setFaults ((visitOrder lanes s.laneList).foldl u.implausibleFault s.faults)).mapLanes s.laneList
    (fun d => { d with sums := Sums.zero })

/-- The next interval has opened: the loops are judged. -/
def State.opened (s : State) (stop : Tick) (lanes : List Lane) (loops : List Loop) : State :=
  ((s.closed stop).handedOver lanes).judgeAll (visitOrder loops s.loopList)

/-- The modes have been recomputed, and the lanes are measured by them. -/
def State.remeasured (s : State) (stop : Tick) : State :=
  let t := s.settleAll s.laneList stop
  t.mapLanes t.laneList (fun d => { d with measured := d.mode != .none })

theorem State.closeInterval_eq (s : State) (stop : Tick) (lanes : List Lane) (loops : List Loop) :
    let t := (s.opened stop lanes loops).remeasured stop
    s.closeInterval stop lanes loops =
      t.setDetector { t.detector with intervalStart := stop, intervalEnd := some (stop + BitVec.ofNat 32 s.intervalTicks) } := by
  intro t
  have hmap (g : LaneDetector → LaneDetector) (u : State) :
      u.laneList.foldl (fun t k => t.setLane k (g (t.detector.lanes.get k))) u = u.mapLanes u.laneList g :=
    State.foldl_setLane _ u.laneList_nodup g u
  have hclose := hmap (fun d => d.closeInterval stop)
  have hzero : ∀ u : State, u.laneList.foldl (fun t k => t.setSums k Sums.zero) u = _ := hmap (fun d => { d with sums := Sums.zero })
  have hmeasure := hmap (fun d => { d with measured := d.mode != .none })
  have hjudge (u : State) :
      (visitOrder loops u.loopList).foldl State.judgeLoop u = u.judgeAll (visitOrder loops u.loopList) :=
    State.foldl_judgeLoop _ (visitOrder_nodup _ _ u.loopList_nodup) u
  have hsettle (u : State) : u.laneList.foldl (fun t k => t.settleMode k stop) u = u.settleAll u.laneList stop := rfl
  unfold State.closeInterval
  dsimp only
  rw [hclose, State.foldl_handTo, State.foldl_raiseImplausible, hzero, hjudge, hsettle, hmeasure]
  rfl

/-! ### What the opening of the next interval makes of a lane -/

theorem LaneDetector.closeInterval_eq (d : LaneDetector) (stop : Tick) :
    d.closeInterval stop =
      { d with mark := d.mark.map (fun m => if precedes m stop then stop else m)
               sums := { d.sums with sumOn := d.sums.sumOn + d.heldUpTo stop } } := by
  unfold LaneDetector.closeInterval
  cases hm : d.mark with
  | none =>
    unfold LaneDetector.heldUpTo
    rw [hm]
    cases d
    cases hm
    rfl
  | some m => exact d.addOccupancy_eq stop _

theorem State.closed_work (s : State) (stop : Tick) : s.DetectorWork (s.closed stop) :=
  (s.setTrace_work _).trans (State.setDetector_work _ _)

theorem State.handedOver_work (s : State) (stop : Tick) (lanes : List Lane) :
    s.DetectorWork ((s.closed stop).handedOver lanes) :=
  (s.closed_work stop).trans
    (((State.setRequests_work _ _).trans (State.setFaults_work _ _)).trans (State.setDetector_work _ _))

theorem State.closed_get (s : State) (stop : Tick) (k : Lane) :
    (s.closed stop).detector.lanes.get k =
      if k ∈ s.laneList then (s.detector.lanes.get k).closeInterval stop else s.detector.lanes.get k :=
  State.mapLanes_get _ _ _ k

/-- The two loops, the mode, the arrivals and the count of implausible pairings do not change before the judgement. -/
theorem State.closed_rest (s : State) (stop : Tick) (k : Lane) :
    let d := s.detector.lanes.get k
    let e := (s.closed stop).detector.lanes.get k
    e.a = d.a ∧ e.b = d.b ∧ e.sums.implausible = d.sums.implausible := by
  intro d e
  have he : e = _ := s.closed_get stop k
  rw [he, LaneDetector.closeInterval_eq]
  split <;> exact ⟨rfl, rfl, rfl⟩

theorem State.handedOver_get (s : State) (lanes : List Lane) (k : Lane) :
    (s.handedOver lanes).detector.lanes.get k =
      if k ∈ s.laneList then { s.detector.lanes.get k with sums := Sums.zero } else s.detector.lanes.get k :=
  State.mapLanes_get _ _ _ k

theorem State.handedOver_loop (s : State) (stop : Tick) (lanes : List Lane) (l : Loop) :
    ((s.closed stop).handedOver lanes).loop l = s.loop l := by
  refine State.loop_of_lanes (fun k side => ?_) l
  obtain ⟨ha, hb, -⟩ := s.closed_rest stop k
  have hl : ((s.closed stop).laneList) = s.laneList := rfl
  rw [State.handedOver_get, hl]
  cases side
  · split <;> exact ha
  · split <;> exact hb

theorem State.judged_congr {s t : State} (hc : t.cfg = s.cfg) {l : Loop} (hl : t.loop l = s.loop l) : t.judged l = s.judged l := by
  unfold State.judged
  rw [hl, hc]

theorem State.handedOver_judged (s : State) (stop : Tick) (lanes : List Lane) (l : Loop) :
    ((s.closed stop).handedOver lanes).judged l = s.judged l :=
  State.judged_congr (s.handedOver_work stop lanes).cfg (s.handedOver_loop stop lanes l)

/-- A lane that has opened the next interval: its configured loops are judged, its sums are zero, and a mark has moved to the
interval end. -/
def State.openedLane (s : State) (stop : Tick) (k : Lane) : LaneDetector :=
  let d := s.detector.lanes.get k
  { d with a := if s.loopConfigured { lane := k, side := .a } then s.judged { lane := k, side := .a } else d.a
           b := if s.loopConfigured { lane := k, side := .b } then s.judged { lane := k, side := .b } else d.b
           sums := Sums.zero, mark := d.mark.map (fun m => if precedes m stop then stop else m) }

theorem State.mem_visitOrder_loopList (s : State) (loops : List Loop) (l : Loop) :
    l ∈ visitOrder loops s.loopList ↔ s.loopConfigured l = true := (mem_visitOrder _ _ l).trans (s.mem_loopList l)

theorem State.opened_get (s : State) (stop : Tick) (lanes : List Lane) (loops : List Loop) (k : Lane) :
    (s.opened stop lanes loops).detector.lanes.get k =
      let d := ((s.closed stop).handedOver lanes).detector.lanes.get k
      { d with a := if s.loopConfigured { lane := k, side := .a } then s.judged { lane := k, side := .a } else d.a
               b := if s.loopConfigured { lane := k, side := .b } then s.judged { lane := k, side := .b } else d.b } := by
  have h : (s.opened stop lanes loops).detector.lanes.get k = _ := Lanes.get_build _ k
  rw [h, State.judgedLane]
  simp only [s.mem_visitOrder_loopList, s.handedOver_judged]

theorem State.opened_get_mem (s : State) (stop : Tick) (lanes : List Lane) (loops : List Loop) {k : Lane} (hk : k ∈ s.laneList) :
    (s.opened stop lanes loops).detector.lanes.get k = s.openedLane stop k := by
  have hd : ((s.closed stop).handedOver lanes).detector.lanes.get k =
      { (s.detector.lanes.get k).closeInterval stop with sums := Sums.zero } := by
    refine (State.handedOver_get _ lanes k).trans ((if_pos hk).trans ?_)
    rw [s.closed_get, if_pos hk]
  rw [s.opened_get, hd, LaneDetector.closeInterval_eq]
  rfl

theorem State.mem_laneList (s : State) (k : Lane) : k ∈ s.laneList ↔ k.num ≤ s.cfg.laneCount := by
  unfold State.laneList
  rw [List.mem_filter, decide_eq_true_eq]
  exact and_iff_right (Lane.mem_all k)

theorem State.loopConfigured_of_not_mem (s : State) {k : Lane} (hk : k ∉ s.laneList) (side : Side) :
    s.loopConfigured { lane := k, side := side } = false := by
  unfold State.loopConfigured
  rw [decide_eq_false (fun h => hk ((s.mem_laneList k).mpr h))]
  rfl

theorem State.opened_get_not_mem (s : State) (stop : Tick) (lanes : List Lane) (loops : List Loop) {k : Lane}
    (hk : k ∉ s.laneList) : (s.opened stop lanes loops).detector.lanes.get k = s.detector.lanes.get k := by
  have hd : ((s.closed stop).handedOver lanes).detector.lanes.get k = s.detector.lanes.get k := by
    refine (State.handedOver_get _ lanes k).trans ((if_neg hk).trans ?_)
    rw [s.closed_get, if_neg hk]
  rw [s.opened_get, hd, s.loopConfigured_of_not_mem hk, s.loopConfigured_of_not_mem hk]
  rfl

theorem State.opened_work (s : State) (stop : Tick) (lanes : List Lane) (loops : List Loop) :
    s.DetectorWork (s.opened stop lanes loops) :=
  (s.handedOver_work stop lanes).trans ((State.setDetector_work _ _).trans (State.setFaults_work _ _))

theorem State.opened_faults (s : State) (stop : Tick) (lanes : List Lane) (loops : List Loop) :
    (s.opened stop lanes loops).faults =
      s.intervalFaults (visitOrder lanes s.laneList) (visitOrder loops s.loopList) s.seconds := by
  let c := s.closed stop
  have hraise : (c.setRequests (c.laneList.foldl (fun q k => handTo q k (c.handed k)) c.requests)).implausibleFault =
      s.implausibleFault := by
    funext f k
    obtain ⟨-, -, hi⟩ := s.closed_rest stop k
    have hi' : ((c.setRequests (c.laneList.foldl (fun q k => handTo q k (c.handed k)) c.requests)).detector.lanes.get k).sums.implausible =
      (s.detector.lanes.get k).sums.implausible := hi
    unfold State.implausibleFault
    rw [hi']
    rfl
  have hjudge : (c.handedOver lanes).judgementFault = s.judgementFault := by
    funext f l
    unfold State.judgementFault
    rw [s.handedOver_loop, s.handedOver_judged]
    rfl
  have hf : (c.handedOver lanes).faults = (visitOrder lanes s.laneList).foldl s.implausibleFault s.faults := by
    rw [← hraise]
    rfl
  have ho : (s.opened stop lanes loops).faults =
      (visitOrder loops s.loopList).foldl (c.handedOver lanes).judgementFault (c.handedOver lanes).faults := rfl
  rw [ho, hjudge, hf]
  rfl

/-- The snapshot that a lane hands over (R16, R28). -/
def State.handedAt (s : State) (stop : Tick) (k : Lane) : Snapshot :=
  let d := s.detector.lanes.get k
  { n := min d.sums.n 4294967295, m := min d.sums.m 4294967295, sumT := min d.sums.sumT 4294967295
    sumOn := min (d.sums.sumOn + d.heldUpTo stop) 4294967295, nLong := min d.sums.nLong 4294967295
    covered := min (s.cfg.intervalLength * 10000) 4294967295, measured := d.measured, merges := 0 }

theorem State.closed_handed (s : State) (stop : Tick) {k : Lane} (hk : k ∈ s.laneList) :
    (s.closed stop).handed k = s.handedAt stop k := by
  have hc : (s.closed stop).intervalTicks = s.cfg.intervalLength * 10000 := rfl
  unfold State.handed State.handedAt
  rw [s.closed_get, if_pos hk, LaneDetector.closeInterval_eq, hc]
  simp only [satAdd, Nat.add_zero]

theorem State.opened_requests (s : State) (stop : Tick) (lanes : List Lane) (loops : List Loop) :
    (s.opened stop lanes loops).requests = s.laneList.foldl (fun q k => handTo q k ((s.closed stop).handed k)) s.requests := rfl

/-! ### What the recomputation of the modes keeps -/

theorem State.remeasured_work (s : State) (stop : Tick) (h : s.shoulder.state ≠ .checking) : s.DetectorWork (s.remeasured stop) :=
  (State.settleAll_lanesWork s.laneList stop s h).work.trans (State.setDetector_work _ _)

/-- A trace buffer that has counted an interval end counts no more of it; one that captures nothing stays (R18). -/
theorem State.remeasured_trace (s : State) (stop : Tick) (h : s.shoulder.state ≠ .checking) :
    (s.remeasured stop).trace.intervals = s.trace.intervals ∧
      (s.trace.state ≠ .capturing → (s.remeasured stop).trace = s.trace) :=
  ⟨(State.settleAll_lanesWork s.laneList stop s h).traceIntervals, (State.settleAll_lanesWork s.laneList stop s h).trace⟩

theorem State.remeasured_faults (s : State) (stop : Tick) (h : s.shoulder.state ≠ .checking) :
    (s.remeasured stop).faults = s.faults := (State.settleAll_lanesWork s.laneList stop s h).faults

theorem State.remeasured_get (s : State) (stop : Tick) (k : Lane) :
    let e := (s.settleAll s.laneList stop).detector.lanes.get k
    (s.remeasured stop).detector.lanes.get k =
      if k ∈ (s.settleAll s.laneList stop).laneList then { e with measured := e.mode != .none } else e := State.mapLanes_get _ _ _ k

theorem State.remeasured_mem (s : State) (stop : Tick) (h : s.shoulder.state ≠ .checking) {k : Lane} (hk : k ∈ s.laneList) :
    s.settledFrom k (s.detector.lanes.get k) stop (s.remeasured stop) ∧
      ((s.remeasured stop).detector.lanes.get k).measured = (((s.remeasured stop).detector.lanes.get k).mode != .none) := by
  have hk' : k ∈ (s.settleAll s.laneList stop).laneList :=
    (State.settleAll_lanesWork s.laneList stop s h).work.laneList.symm ▸ hk
  have hl := (s.remeasured_get stop k).trans (if_pos hk')
  refine ⟨State.settledFrom_target _ hl rfl (State.settleAll_settledFrom s.laneList s.laneList_nodup stop s h k hk), ?_⟩
  rw [hl]

theorem State.remeasured_not_mem (s : State) (stop : Tick) (h : s.shoulder.state ≠ .checking) {k : Lane} (hk : k ∉ s.laneList) :
    (s.remeasured stop).detector.lanes.get k = s.detector.lanes.get k := by
  have hw := State.settleAll_lanesWork s.laneList stop s h
  have hk' : k ∉ (s.settleAll s.laneList stop).laneList := hw.work.laneList.symm ▸ hk
  exact ((s.remeasured_get stop k).trans (if_neg hk')).trans (hw.otherLanes k hk)

/-- The recomputation of the modes makes VEHICLE requests only, and none of vehicles that are not paired (R12, R28). -/
theorem State.remeasured_requests (s : State) (stop : Tick) (h : s.shoulder.state ≠ .checking) :
    (∀ k, (s.remeasured stop).requests.filter (Request.isIntervalOf k) = s.requests.filter (Request.isIntervalOf k)) ∧
      ((∀ k ∈ s.laneList, ∀ a ∈ (s.detector.lanes.get k).arrivals, a.off ≠ none → a.bOn = none) →
        (s.remeasured stop).requests = s.requests) := by
  refine ⟨fun k => ?_, State.settleAll_requests s.laneList s.laneList_nodup stop s h⟩
  obtain ⟨vs, hv, hvs⟩ := (State.settleAll_lanesWork s.laneList stop s h).requests
  have hr : (s.remeasured stop).requests = s.requests ++ vs := hv
  have hnone : vs.filter (Request.isIntervalOf k) = [] := List.filter_eq_nil_iff.mpr fun r hr => by
    cases r with
    | vehicle v => exact Bool.false_ne_true
    | interval j x => exact absurd (hvs _ hr) Bool.false_ne_true
  rw [hr, List.filter_append, hnone, List.append_nil]

/-! ### The interval end -/

/-- The interval end counts in the capture, which is cut short at the 15th (R18). -/
theorem Trace.countInterval_cases (t : Trace) :
    (t.state ≠ .capturing ∧ t.countInterval = t) ∨
      (t.state = .capturing ∧ t.countInterval.intervals = t.intervals + 1 ∧
        (t.intervals + 1 = 15 → t.countInterval = { t with intervals := 15, state := .draining, cutShort := true })) := by
  unfold Trace.countInterval
  by_cases h : t.state = .capturing
  · refine .inr ⟨h, ?_⟩
    rw [if_pos h]
    by_cases h15 : t.intervals + 1 = 15
    · simp only [h15, if_true, Trace.drain]
      exact ⟨trivial, fun _ => trivial⟩
    · simp only [h15, if_false]
      exact ⟨trivial, fun e => e.elim⟩
  · exact .inl ⟨h, if_neg h⟩

/-- The INTERVAL requests that wait after a merge are those that waited, each with the lane's sums taken in. -/
theorem map_mergeIf_filter (q : List Request) (k : Lane) (x : Snapshot) :
    (q.filter (Request.isIntervalOf k)).map (Request.mergeIf k x) =
      (q.filter (Request.isIntervalOf k)).map (fun r =>
        match r with
        | .interval j y => .interval j (y.merge x)
        | .vehicle v => .vehicle v) := by
  refine List.map_congr_left fun r hr => ?_
  have hk := (List.mem_filter.mp hr).2
  cases r with
  | vehicle v => rfl
  | interval j y => exact if_pos (by simpa [Request.isIntervalOf] using hk)

theorem execIntervalEnd_of_due (dt : Nat) (lanes : List Lane) (loops : List Loop) (s : State) (stop : Tick)
    (ha : s.acting = true) (hp : s.detector.intervalEnd = some stop) (hr : (s.advance dt).reached stop = true)
    (hsh : s.shoulder.state ≠ .checking) :
    let t := ((s.advance dt).opened stop lanes loops).remeasured stop
    (s.advance dt).DetectorWork t ∧
      execIntervalEnd dt lanes loops s = .next (t.setDetector { t.detector with
        intervalStart := stop, intervalEnd := some (stop + BitVec.ofNat 32 (s.cfg.intervalLength * 10000)) }) := by
  intro t
  have hw : (s.advance dt).DetectorWork t :=
    ((s.advance dt).opened_work stop lanes loops).trans (State.remeasured_work _ stop hsh)
  refine ⟨hw, ?_⟩
  have hp' : (s.advance dt).detector.intervalEnd = some stop := hp
  have hcond : ((s.advance dt).acting && (s.advance dt).reached stop) = true := by
    rw [hr]
    simp [ha]
  unfold execIntervalEnd
  simp only [hp', hcond, if_true, State.closeInterval_eq]
  exact congrArg _ ((hw.trans (State.setDetector_work _ _)).settle [])

/-- Settles O30: the interval end in its phases. The opened lanes are settled from, the handed sums stand in the requests, and
what the change of modes finishes comes after both. -/
theorem intervalEndHandsTheSums : Obligations.IntervalEndHandsTheSums := by
  intro dt lanes loops s stop ha hp hr hsh handed opened
  obtain ⟨hw, hexec⟩ := execIntervalEnd_of_due dt lanes loops s stop ha hp hr hsh
  let u := (s.advance dt).opened stop lanes loops
  have hu : (s.advance dt).DetectorWork u := (s.advance dt).opened_work stop lanes loops
  have hlist : u.laneList = s.laneList := hu.laneList
  have hush : u.shoulder.state ≠ .checking := hsh
  obtain ⟨hri, hrv⟩ := u.remeasured_requests stop hush
  obtain ⟨hti, htr⟩ := u.remeasured_trace stop hush
  rw [exec_intervalEnd_eq, hexec]
  refine ⟨_, rfl, hw.clock, rfl, rfl, fun k hk => ⟨?_, ?_, ?_⟩, fun k hk => ?_, fun hun => ?_, ?_, fun hc => ?_, fun hc => ?_,
    hw.queueState, ?_, congrArg Signs.sent hw.signs⟩
  · have := (u.remeasured_mem stop hush (hlist ▸ hk)).1
    rw [(s.advance dt).opened_get_mem stop lanes loops hk] at this
    exact State.settledFrom_congr hu.cfg hu.clock _ _ _ _ this
  · exact (u.remeasured_mem stop hush (hlist ▸ hk)).2
  · refine (hri k).trans ?_
    have hh : ((s.advance dt).closed stop).handed k = handed k := (s.advance dt).closed_handed stop hk
    rw [(s.advance dt).opened_requests, foldl_handTo_mem _ (s.advance dt).laneList_nodup _ _ k hk, hh, map_mergeIf_filter]
    rfl
  · exact (u.remeasured_not_mem stop hush (hlist ▸ hk)).trans ((s.advance dt).opened_get_not_mem stop lanes loops hk)
  · refine (congrArg _ (hrv fun k hk a hm => ?_)).trans (foldl_handTo_vehicles _ _ _)
    rw [(s.advance dt).opened_get_mem stop lanes loops (hlist ▸ hk)] at hm
    exact hun k (hlist ▸ hk) a hm
  · exact (u.remeasured_faults stop hush).trans ((s.advance dt).opened_faults stop lanes loops)
  · rcases s.trace.countInterval_cases with ⟨-, e⟩ | ⟨h, -⟩
    · exact (htr (fun h => hc (e ▸ h))).trans e
    · exact absurd h hc
  · rcases s.trace.countInterval_cases with ⟨h, -⟩ | ⟨-, hi, hd⟩
    · exact absurd hc h
    · refine ⟨hti.trans hi, fun h15 => ?_⟩
      have hut : u.trace = { s.trace with intervals := 15, state := .draining, cutShort := true } := hd h15
      refine (htr ?_).trans hut
      rw [hut]
      exact nofun
  · exact (s.advance_same dt).trans (hw.trans (State.setDetector_work _ _)).same (by decide) (by decide)

end Sys2Proof.Machine
end

section
/-!
PROOFS. The layer of the readers: what they leave of the state when they take their reports, said once as one relation.
-/
namespace Sys2Proof.Machine

/-! ### The work of the readers -/

/-- Speed control with what it derives from its terms taken from another: its bound, its plan step with the hold, and the END
condition. -/
def Speed.withHeld (p q : Speed) : Speed :=
  { p with bound := q.bound, planStep := q.planStep, heldSince := q.heldSince, holdEnded := q.holdEnded
           endCondition := q.endCondition }

/-- A state with what the readers of reports recompute taken from another: the queue term, what speed control derives from its
terms, the plans, the channels and the line. -/
def State.withReaders (s t : State) : State :=
  { s with queue := { s.queue with term := t.queue.term }, speed := s.speed.withHeld t.speed
           composer := t.composer, signs := t.signs, line := t.line }

/-- Of two states the second differs from the first only in what a reader of reports recomputes. -/
def State.Served (s t : State) : Prop := t = s.withReaders t

theorem State.Served.refl (s : State) : s.Served s := rfl

theorem State.Served.trans {s t u : State} (h : s.Served t) (k : t.Served u) : s.Served u := by
  refine Eq.trans k ?_
  rw [h]
  rfl

theorem State.Served.eq {s t : State} (h : s.Served t) : t = s.withReaders t := h

section
variable {s t : State} (h : s.Served t)
include h

theorem State.Served.clock : t.clock = s.clock := (congrArg State.clock h.eq).trans rfl
theorem State.Served.station : t.station = s.station := (congrArg State.station h.eq).trans rfl
theorem State.Served.mode : t.mode = s.mode := (congrArg State.mode h.eq).trans rfl
theorem State.Served.acting : t.acting = s.acting := (congrArg State.acting h.eq).trans rfl
theorem State.Served.trace : t.trace = s.trace := (congrArg State.trace h.eq).trans rfl
theorem State.Served.detector : t.detector = s.detector := (congrArg State.detector h.eq).trans rfl
theorem State.Served.requests : t.requests = s.requests := (congrArg State.requests h.eq).trans rfl
theorem State.Served.records : t.records = s.records := (congrArg State.records h.eq).trans rfl
theorem State.Served.measures : t.measures = s.measures := (congrArg State.measures h.eq).trans rfl
theorem State.Served.faults : t.faults = s.faults := (congrArg State.faults h.eq).trans rfl
theorem State.Served.queue : t.queue = { s.queue with term := t.queue.term } := (congrArg State.queue h.eq).trans rfl
theorem State.Served.queueState : t.queue.state = s.queue.state := (congrArg (fun u => u.queue.state) h.eq).trans rfl
theorem State.Served.demand : t.speed.demand = s.speed.demand := (congrArg (fun u => u.speed.demand) h.eq).trans rfl
theorem State.Served.dwell : t.speed.dwell = s.speed.dwell := (congrArg (fun u => u.speed.dwell) h.eq).trans rfl
theorem State.Served.detectionLost : t.speed.detectionLost = s.speed.detectionLost :=
  (congrArg (fun u => u.speed.detectionLost) h.eq).trans rfl

/-- What the readers touch is what `readers` names. -/
theorem State.Served.same : SameOutside readers s t := by
  rw [h]
  intro b hb
  cases b
  case queue | speed | composer | signs | line => exact absurd (by decide) hb
  all_goals rfl

end

theorem State.serveSpeed_served (s : State) : s.Served s.serveSpeed := by
  unfold State.serveSpeed State.updateEnd
  rcases s.applyBound_cases with ⟨-, e⟩ | ⟨-, -, e⟩ | ⟨-, -, -, e⟩ <;> rw [e] <;> rfl

theorem State.served_of_composer_same {s t : State} (h : SameOutside [.composer, .signs, .line] s t) : s.Served t := by
  rw [State.eq_of_composer_same h]
  rfl

/-- A reader that finds no entry into ISOLATED only serves. -/
theorem State.serve_served (s before : State) (r : Reader) (h : s.notEntered before) : s.Served (s.serve before r) := by
  cases r with
  | queue => rfl
  | speed => exact s.serveSpeed_served
  | plan => exact State.served_of_composer_same s.servePlan_same
  | composer => exact State.served_of_composer_same s.serveComposer_same
  | shoulder =>
    show s.Served (s.serveShoulder before)
    rw [s.serveShoulder_of_notEntered before h]
    exact State.Served.refl s

theorem State.Served.notEntered {s t before : State} (h : s.Served t) (hn : s.notEntered before) : t.notEntered before :=
  fun e => hn (h.mode ▸ e)

theorem State.serveAll_served (s before : State) (rs : List Reader) (h : s.notEntered before) :
    s.Served (s.serveAll before rs) := by
  induction rs generalizing s with
  | nil => exact State.Served.refl s
  | cons r rs ih =>
    have h1 := s.serve_served before r h
    exact h1.trans (ih _ (h1.notEntered h))

theorem State.serveSome_served (s before : State) (rs : List Reader) (h : s.notEntered before) :
    s.Served (s.serveSome before rs) := by
  unfold State.serveSome
  split
  · exact s.serveAll_served before rs h
  · exact State.Served.refl s

theorem State.settle_served (s before : State) (late : List Reader) (h : s.notEntered before) :
    s.Served (s.settle before late) := by
  rcases s.settle_cases before late with ⟨-, -, e⟩ | ⟨-, e⟩
  · rw [e, State.serveEvery_eq]
    have h1 := s.serveAll_served before late h
    exact h1.trans (State.serveAll_served _ before _ (h1.notEntered h))
  · rw [e]
    exact State.Served.refl s

/-! ### The urgent flag -/

/-- The line is as it was, or has taken an urgent change (R54). -/
def Line.mayFlag (a b : Line) : Prop := b = a ∨ b = a.setUrgent

theorem Line.setUrgent_setUrgent (l : Line) : l.setUrgent.setUrgent = l.setUrgent := by
  by_cases h : l.tx = .quiet <;> simp [Line.setUrgent, Line.wake, Line.hasWork, h]

theorem Line.mayFlag_refl (l : Line) : Line.mayFlag l l := .inl rfl

theorem Line.mayFlag_of_eq {a b : Line} (h : b = a) : Line.mayFlag a b := .inl h

theorem Line.mayFlag_trans {a b c : Line} (h : Line.mayFlag a b) (k : Line.mayFlag b c) : Line.mayFlag a c := by
  rcases h with rfl | rfl
  · exact k
  · exact .inr (k.elim id (fun e => e.trans a.setUrgent_setUrgent))

/-- An urgent change that the line has taken stays (R54, R55). -/
theorem Line.mayFlag_urgent {a b : Line} (h : Line.mayFlag a b) (hu : a.urgent = true ∧ a.pending = true) :
    b.urgent = true ∧ b.pending = true := by
  rcases h with rfl | rfl
  · exact hu
  · obtain ⟨hurgent, hpending, -⟩ := a.setUrgent_spec
    exact ⟨hurgent, hpending⟩

theorem State.flagUrgent_mayFlag (s : State) : Line.mayFlag s.line s.flagUrgent.line := by
  rw [s.flagUrgent_line.1]
  split
  · exact .inr rfl
  · exact .inl rfl

/-- An urgent change of an acting station sets the flag and the pending mark (R54). -/
theorem State.flagUrgent_urgent (s : State) (ha : s.acting = true) :
    s.flagUrgent.line.urgent = true ∧ s.flagUrgent.line.pending = true := by
  rw [s.flagUrgent_line.1, if_pos ha]
  obtain ⟨hurgent, hpending, -⟩ := s.line.setUrgent_spec
  exact ⟨hurgent, hpending⟩

theorem State.noteDisplacement_mayFlag (s : State) (d : Lanes (Option Displacement)) :
    Line.mayFlag s.line (s.noteDisplacement d).line := by
  unfold State.noteDisplacement
  split
  · exact Line.mayFlag_refl _
  · exact s.flagUrgent_mayFlag

theorem State.commit_mayFlag (s : State) : Line.mayFlag s.line s.commit.line := by
  have h : (Chan.all.foldl (fun t c => t.commitChannel s.composer.active c)
      (s.setComposer { s.composer with active := s.composer.next })).line = s.line :=
    SameOutside.foldl (fun t c => t.commitChannel_same s.composer.active c) _ _ .line (by decide)
  exact h ▸ State.noteDisplacement_mayFlag _ _

theorem State.tryCommit_mayFlag (s : State) : Line.mayFlag s.line s.tryCommit.line := by
  rcases s.tryCommit_cases with ⟨-, -, -, h⟩ | ⟨-, h⟩
  · exact h ▸ s.commit_mayFlag
  · exact Line.mayFlag_of_eq (congrArg State.line h)

theorem State.recompute_mayFlag (s : State) : Line.mayFlag s.line s.recompute.line := by
  unfold State.recompute
  split
  · dsimp only
    split
    · exact State.flagUrgent_mayFlag (s.setComposer _)
    · exact Line.mayFlag_refl _
  · exact Line.mayFlag_refl _

theorem State.servePlan_mayFlag (s : State) : Line.mayFlag s.line s.servePlan.line :=
  Line.mayFlag_trans s.recompute_mayFlag (State.tryCommit_mayFlag _)

theorem State.serveShoulder_mayFlag (s before : State) : Line.mayFlag s.line (s.serveShoulder before).line := by
  unfold State.serveShoulder State.forceClosing State.startClosing State.moveShoulder
  split
  · split
    · split
      · exact Line.mayFlag_refl _
      · exact State.flagUrgent_mayFlag (s.setShoulder _)
    · exact Line.mayFlag_refl _
  · exact Line.mayFlag_refl _

theorem State.serve_mayFlag (s before : State) (r : Reader) : Line.mayFlag s.line (s.serve before r).line := by
  cases r with
  | queue => exact Line.mayFlag_of_eq (s.serveQueue_same .line (by decide))
  | speed => exact Line.mayFlag_of_eq (s.serveSpeed_same .line (by decide))
  | plan => exact s.servePlan_mayFlag
  | composer => exact State.servePlan_mayFlag s.takeCandidate
  | shoulder => exact s.serveShoulder_mayFlag before

theorem State.serveAll_mayFlag (s before : State) (rs : List Reader) : Line.mayFlag s.line (s.serveAll before rs).line := by
  induction rs generalizing s with
  | nil => exact Line.mayFlag_refl _
  | cons r rs ih => exact Line.mayFlag_trans (s.serve_mayFlag before r) (ih _)

theorem State.serveSome_mayFlag (s before : State) (rs : List Reader) : Line.mayFlag s.line (s.serveSome before rs).line := by
  unfold State.serveSome
  split
  · exact s.serveAll_mayFlag before rs
  · exact Line.mayFlag_refl _

theorem State.settle_mayFlag (s before : State) (late : List Reader) : Line.mayFlag s.line (s.settle before late).line := by
  rcases s.settle_cases before late with ⟨-, -, h⟩ | ⟨-, h⟩
  · rw [h, State.serveEvery_eq]
    exact Line.mayFlag_trans (s.serveAll_mayFlag before late) (State.serveAll_mayFlag _ before _)
  · exact Line.mayFlag_of_eq (congrArg State.line h)

end Sys2Proof.Machine
end

section
/-!
PROOFS. The completion of a VEHICLE request (R14, R24 to R27, R99, R100).
-/
namespace Sys2Proof.Machine

theorem exec_vehicleRequestCompletion_eq (dt : Nat) (o : Order) (s : State) :
    exec (.vehicleRequestCompletion dt o) s = execVehicleRequestCompletion dt o s := rfl

/-- The request in service finishes its record, which is delivered before the reports are taken (R23). -/
theorem execVehicleRequestCompletion_of_head (dt : Nat) (o : Order) (s : State) (r : VehicleRequest) (rest : List Request)
    (h : s.requests = .vehicle r :: rest) :
    execVehicleRequestCompletion dt o s =
      .next ((((s.advance dt).setRequests rest).finishRecord r.record).settle (s.advance dt) o.late) := by
  have h' : (s.advance dt).requests = .vehicle r :: rest := h
  unfold execVehicleRequestCompletion
  simp only [h']

/-! ### The results of a VEHICLE request (R24 to R27) -/

theorem VehicleRequest.speed_eq (r : VehicleRequest) :
    r.speed = if 250 < r.spacing * 360 / r.transit then 250 else r.spacing * 360 / r.transit := by
  unfold VehicleRequest.speed VehicleRequest.quotient
  split <;> omega

/-- A transit time within Tmax gives at least 5 km/h (R25). -/
theorem VehicleRequest.five_le_speed (r : VehicleRequest) (h1 : 1 ≤ r.transit) (h : r.transit ≤ r.spacing * 72) : 5 ≤ r.speed := by
  have hq : 5 ≤ r.quotient := (Nat.le_div_iff_mul_le h1).mpr (by omega)
  exact le_min hq (by decide)

/-- The length is the difference, clamped to 0 below and to 3000 above (R26). -/
theorem VehicleRequest.length_eq (r : VehicleRequest) :
    let len : Int := (r.spacing * r.onA / r.transit : Nat) - (r.loopLength : Int)
    r.length = if len < 0 then 0 else if 3000 < len then 3000 else len.toNat := by
  intro len
  unfold VehicleRequest.length
  split
  · omega
  · split <;> omega

theorem VehicleRequest.record_of_pos (r : VehicleRequest) (h : 1 ≤ r.transit) :
    r.record = { lane := r.lane, seconds := r.seconds, tick := r.tick, onA := r.onA
                 result := .measured r.speed (decide (250 < r.quotient)) r.length r.cls } := by
  unfold VehicleRequest.record VehicleRequest.result
  rw [if_neg (by omega)]

theorem VehicleRequest.record_of_zero (r : VehicleRequest) (h : r.transit = 0) :
    r.record = { lane := r.lane, seconds := r.seconds, tick := r.tick, onA := r.onA, result := .unmeasured .implausible } := by
  unfold VehicleRequest.record VehicleRequest.result
  rw [if_pos h]

/-! ### The delivery of a measured record (R14, R18, R99, R100) -/

/-- A record is watched in the lanes that run for measurement in DUAL (R99). -/
def State.watched (s : State) (k : Lane) : Bool := s.runsForMeasurement k && (s.detector.lanes.get k).mode == .dual

/-- What the queue monitor makes of a measured record: a record outside its watch, or one that is not slow, zeroes its lane's
run; a slow one raises it, and at the run length the shock trigger fires (R99, R100). -/
theorem State.watchRecord_measured (s : State) (r : VehicleRecord) (v n : Nat) (m : Bool) (c : VehicleClass)
    (hr : r.result = .measured v m n c) :
    let run := s.queue.runs.get r.lane + 1
    (s.watched r.lane = false → s.watchRecord r = s.setRun r.lane 0) ∧
      (s.watched r.lane = true → s.cfg.shockSpeed ≤ v → s.watchRecord r = s.setRun r.lane 0) ∧
      (s.watched r.lane = true → v < s.cfg.shockSpeed → run < s.cfg.runLength → s.watchRecord r = s.setRun r.lane run) ∧
      (s.watched r.lane = true → v < s.cfg.shockSpeed → s.cfg.runLength ≤ run →
        s.watchRecord r = (s.setRun r.lane s.cfg.runLength).fireShock) := by
  intro run
  unfold State.watched State.watchRecord
  rw [hr]
  refine ⟨fun he => if_neg (by rw [he]; exact Bool.false_ne_true), fun he hv => (if_pos he).trans (if_neg (by omega)),
    fun he hv hlt => (if_pos he).trans ((if_pos hv).trans ?_), fun he hv hle => (if_pos he).trans ((if_pos hv).trans ?_)⟩
  · rw [min_eq_left (show s.queue.runs.get r.lane + 1 ≤ s.cfg.runLength from hlt.le)]
    exact if_neg hlt.ne
  · rw [min_eq_right (show s.cfg.runLength ≤ s.queue.runs.get r.lane + 1 from hle)]
    exact if_pos rfl

theorem State.fireShock_queue (s : State) :
    s.fireShock.queue = { s.queue with state := .present, confirm := 0, clearCount := 0, firedAt := some s.clock } := by
  unfold State.fireShock
  dsimp only
  split
  · exact State.flagUrgent_same _ .queue (by decide)
  · rfl

/-- A firing that makes a CLEAR queue PRESENT is urgent (R102). -/
theorem State.fireShock_urgent (s : State) (ha : s.acting = true) (hq : s.queue.state = .clear) :
    s.fireShock.line.urgent = true ∧ s.fireShock.line.pending = true := by
  unfold State.fireShock
  dsimp only
  rw [if_pos hq]
  exact State.flagUrgent_urgent _ ha

/-- A LONG record counts in n_long of its lane's sums of that moment, and no other record does (R14, R27). -/
theorem State.countLong_detector (s : State) (r : VehicleRecord) (v n : Nat) (m : Bool) (c : VehicleClass)
    (hr : r.result = .measured v m n c) :
    let x := (s.detector.lanes.get r.lane).sums
    (s.countLong r).detector =
      if c = .long then (s.setSums r.lane { x with nLong := x.nLong + 1 }).detector else s.detector := by
  unfold State.countLong
  rw [hr]
  cases c <;> rfl

/-- What the delivery of a measured record leaves of each block that takes it. -/
theorem State.finishRecord_blocks (s : State) (r : VehicleRecord) :
    (s.finishRecord r).trace = s.trace.capture r ∧
      (s.finishRecord r).queue = ((s.setTrace (s.trace.capture r)).watchRecord r).queue ∧
      (s.finishRecord r).line = ((s.setTrace (s.trace.capture r)).watchRecord r).line := by
  have hc := ((s.setTrace (s.trace.capture r)).watchRecord r).countLong_same r
  refine ⟨(hc .trace (by decide)).trans ?_, hc .queue (by decide), hc .line (by decide)⟩
  exact State.watchRecord_same _ r .trace (by decide)

theorem State.finishRecord_measured_detector (s : State) (r : VehicleRecord) (v n : Nat) (m : Bool) (c : VehicleClass)
    (hr : r.result = .measured v m n c) :
    let x := (s.detector.lanes.get r.lane).sums
    (s.finishRecord r).detector =
      if c = .long then (s.setSums r.lane { x with nLong := x.nLong + 1 }).detector else s.detector := by
  have hw : ((s.setTrace (s.trace.capture r)).watchRecord r).detector = s.detector :=
    State.watchRecord_same _ r .detector (by decide)
  refine (State.countLong_detector _ r v n m c hr).trans ?_
  simp only [State.setSums, State.setLane, State.setDetector_detector, hw]

/-- A step that has not touched station control has not entered ISOLATED. -/
theorem State.notEntered_of_station {s before : State} (h : s.station = before.station) : s.notEntered before := by
  unfold State.notEntered State.mode
  rw [h]
  exact id

/-- What the completion of a measured VEHICLE request leaves of each block: `w` is the state in which the queue monitor has
taken the record. -/
theorem exec_vehicleRequestCompletion_blocks (dt : Nat) (o : Order) (s : State) (r : VehicleRequest) (rest : List Request)
    (h : s.requests = .vehicle r :: rest) (ht : 1 ≤ r.transit) :
    let w := (((s.advance dt).setRequests rest).setTrace (s.trace.capture r.record)).watchRecord r.record
    let x := (s.detector.lanes.get r.lane).sums
    ∃ t, exec (.vehicleRequestCompletion dt o) s = .next t ∧ t.clock = s.clock + dt ∧ t.requests = rest ∧
      t.trace = s.trace.capture r.record ∧
      t.detector = (if r.cls = .long then (s.setSums r.lane { x with nLong := x.nLong + 1 }).detector else s.detector) ∧
      t.queue = { w.queue with term := t.queue.term } ∧ Line.mayFlag w.line t.line ∧
      SameOutside (andReaders [.clock, .requests, .trace, .detector]) s t := by
  intro w x
  let u := (s.advance dt).setRequests rest
  have hsame := u.finishRecord_same r.record
  have hserved : (u.finishRecord r.record).Served ((u.finishRecord r.record).settle (s.advance dt) o.late) :=
    State.settle_served _ _ _ (State.notEntered_of_station (hsame .station (by decide)))
  obtain ⟨htrace, hqueue, hline⟩ := u.finishRecord_blocks r.record
  rw [exec_vehicleRequestCompletion_eq, execVehicleRequestCompletion_of_head dt o s r rest h]
  refine ⟨_, rfl, hserved.clock.trans (hsame .clock (by decide)), hserved.requests.trans (hsame .requests (by decide)),
    hserved.trace.trans htrace, hserved.detector.trans ?_, ?_, ?_, ?_⟩
  · exact u.finishRecord_measured_detector r.record _ _ _ _ (congrArg VehicleRecord.result (r.record_of_pos ht))
  · exact hqueue ▸ hserved.queue
  · exact hline ▸ State.settle_mayFlag _ _ _
  · exact (((s.advance_same dt).trans (State.setRequests_same _ rest) (n := [.clock, .requests]) (by decide) (by decide)).trans
      hsame (n := andReaders [.clock, .requests, .trace, .detector]) (by decide) (by decide)).trans hserved.same
        (fun _ x => x) (by decide)

/-- A record without a speed reaches no reader: with T = 0 nothing but the trace buffer and the queue monitor takes it (R24). -/
theorem exec_vehicleRequestCompletion_zero (dt : Nat) (o : Order) (s : State) (r : VehicleRequest) (rest : List Request)
    (h : s.requests = .vehicle r :: rest) (ht : r.transit = 0) :
    ∃ t, exec (.vehicleRequestCompletion dt o) s = .next t ∧ t.clock = s.clock + dt ∧ t.requests = rest ∧
      t.trace = s.trace.capture r.record ∧ t.queue.state = s.queue.state ∧
      SameOutside [.clock, .requests, .trace, .queue] s t ∧ t.quiet := by
  let u := (s.advance dt).setRequests rest
  have hr : r.record.result = .unmeasured .implausible := congrArg VehicleRecord.result (r.record_of_zero ht)
  obtain ⟨hdet, hreq⟩ := u.finishRecord_detector r.record .implausible hr
  have hlane := u.finishRecord_laneWork r.record .implausible hr
  have hwork : (s.advance dt).DetectorWork (u.finishRecord r.record) := (State.setRequests_work _ rest).trans hlane.work
  have hsame : SameOutside [.trace, .queue] u (u.finishRecord r.record) :=
    (hlane.work.same_of_quiet hreq hlane.faults).drop hdet
  rw [exec_vehicleRequestCompletion_eq, execVehicleRequestCompletion_of_head dt o s r rest h, hwork.settle]
  exact ⟨_, rfl, hwork.clock, hreq, (u.finishRecord_blocks r.record).1, hwork.queueState,
    ((s.advance_same dt).trans (State.setRequests_same _ rest) (n := [.clock, .requests]) (by decide) (by decide)).trans
      hsame (by decide) (by decide), congrArg Signs.sent hwork.signs⟩

/-- Settles O32: the record is finished from the latched operands, then delivered. -/
theorem vehicleRequestCompletes : Obligations.VehicleRequestCompletes := by
  constructor
  · intro dt o s r rest h ht q speed len length cls record eligible run
    have hspeed : speed = r.speed := r.speed_eq.symm
    have hlength : length = r.length := r.length_eq.symm
    have hcls : cls = r.cls := congrArg (fun n => if r.longThreshold ≤ n then VehicleClass.long else .short) hlength
    have hrecord : record = r.record := by
      rw [r.record_of_pos ht, ← hspeed, ← hlength, ← hcls]
      rfl
    have hr : r.record.result = .measured speed _ _ _ := congrArg VehicleRecord.result hrecord.symm
    obtain ⟨t, he, hclock, hreq, htrace, hdet, hqueue, hline, hsame⟩ := exec_vehicleRequestCompletion_blocks dt o s r rest h ht
    obtain ⟨hout, hfast, hslow, hshock⟩ :=
      State.watchRecord_measured (((s.advance dt).setRequests rest).setTrace (s.trace.capture r.record)) r.record _ _ _ _ hr
    rw [← hrecord] at htrace
    rw [← hcls] at hdet
    refine ⟨fun hm => hspeed ▸ r.five_le_speed ht hm, t, he, hclock, hreq, fun hc => ?_, fun hc => htrace.trans (if_neg hc), hdet,
      fun e => ?_, fun e hv => ?_, fun e hv hl => ?_, fun e hv hl => ?_, hsame⟩
    · rcases s.trace.capture_cases record with ⟨-, -, c⟩ | ⟨n, -⟩
      · exact htrace ▸ c
      · exact absurd hc n
    · rw [hout e] at hqueue
      exact hqueue
    · rw [hfast e hv] at hqueue
      exact hqueue
    · rw [hslow e hv hl] at hqueue
      exact hqueue
    · rw [hshock e hv hl] at hqueue hline
      rw [State.fireShock_queue] at hqueue
      exact ⟨hqueue, fun ha hc => Line.mayFlag_urgent hline (State.fireShock_urgent _ ha hc)⟩
  · intro dt o s r rest h ht
    obtain ⟨t, he, hclock, hreq, htrace, hstate, hsame, hquiet⟩ := exec_vehicleRequestCompletion_zero dt o s r rest h ht
    rw [r.record_of_zero ht] at htrace
    refine ⟨t, he, hclock, hreq, fun hc => ?_, fun hc => htrace.trans (if_neg hc), hstate, hsame, hquiet⟩
    rcases s.trace.capture_cases _ with ⟨-, -, c, -⟩ | ⟨n, -⟩
    · exact htrace ▸ c
    · exact absurd hc n

end Sys2Proof.Machine
end

section
/-!
PROOFS. The completion of an INTERVAL request: the lane record (R24, R30 to R35).
-/
namespace Sys2Proof.Machine

theorem exec_intervalRequestCompletion_eq (dt : Nat) (o : Order) (s : State) :
    exec (.intervalRequestCompletion dt o) s = execIntervalRequestCompletion dt o s := rfl

/-! ### The results of an INTERVAL request (R24, R30 to R32) -/

theorem Snapshot.flow_eq (x : Snapshot) :
    x.flow = if x.measured ∧ 1 ≤ x.covered then some (min (x.n * 36000000 / x.covered) 9999) else none := by
  unfold Snapshot.flow
  simp only [Bool.and_eq_true, bne_iff_ne, Nat.one_le_iff_ne_zero]

theorem Snapshot.occupancy_eq (x : Snapshot) :
    x.occupancy = if x.measured ∧ 1 ≤ x.covered then some (min (x.sumOn * 1000 / x.covered) 1000) else none := by
  unfold Snapshot.occupancy
  simp only [Bool.and_eq_true, bne_iff_ne, Nat.one_le_iff_ne_zero]

theorem Snapshot.speed_eq (x : Snapshot) (spacing vff : Nat) :
    x.speed spacing vff =
      if x.measured = false then none
      else if x.n = 0 then some vff
      else if x.m = 0 ∨ x.sumT = 0 then none
      else some (max 5 (min (spacing * 360 * x.m / x.sumT) 250)) := by
  unfold Snapshot.speed
  simp only [Bool.not_eq_true']
  by_cases hm : x.m = 0
  · simp only [hm, true_or, if_true]
  · simp only [hm, false_or, if_false]

/-! ### Smoothing (R34, R35) -/

/-- A step of smoothing moves by the fraction of the distance, cut toward zero, to either side. -/
theorem smoothStep_eq (y n w : Nat) :
    smoothStep y n w = if y ≤ n then y + (n - y) * w / 8 else y - (y - n) * w / 8 := by
  unfold smoothStep
  split
  · next h =>
    have hd : ((n : Int) - (y : Int)) * (w : Int) = (((n - y) * w : Nat) : Int) := by push_cast [h]; rfl
    rw [hd, Int.tdiv_eq_ediv_of_nonneg (Int.natCast_nonneg _)]
    omega
  · next h =>
    have hd : ((n : Int) - (y : Int)) * (w : Int) = -(((y - n) * w : Nat) : Int) := by
      push_cast [Nat.le_of_not_le h]
      ring
    rw [hd, Int.neg_tdiv, Int.tdiv_eq_ediv_of_nonneg (Int.natCast_nonneg _)]
    omega

theorem smooth_eq (old new : Option Nat) (w : Nat) :
    smooth old new w =
      match old, new with
      | _, none => old
      | none, some n => some n
      | some y, some n => some (if y ≤ n then y + (n - y) * w / 8 else y - (y - n) * w / 8) := by
  cases new with
  | none => cases old <;> rfl
  | some n =>
    cases old with
    | none => rfl
    | some y => exact congrArg some (smoothStep_eq y n w)

/-! ### The lane record, and a queue with another INTERVAL request (R33, R38) -/

/-- The request in service has left the queue, and its lane record holds its results (R33). -/
def State.recorded (s : State) (k : Lane) (x : Snapshot) (rest : List Request) : State :=
  (s.setRequests rest).setRecords
    (s.records.set k ((s.records.get k).update x (s.cfg.lanes.get k).spacing s.cfg.vff s.cfg.w s.cfg.wo))

theorem State.recorded_same (s : State) (k : Lane) (x : Snapshot) (rest : List Request) :
    SameOutside [.requests, .records] s (s.recorded k x rest) := by
  intro b hb
  cases b
  case requests | records => exact absurd (by decide) hb
  all_goals rfl

theorem all_isVehicle_iff (q : List Request) : q.all Request.isVehicle = false ↔ q.any (fun r => !r.isVehicle) = true := by
  rw [List.all_eq_not_any_not, Bool.not_eq_false']

/-- No reader is told of a lane record. -/
theorem execIntervalRequestCompletion_of_waiting (dt : Nat) (o : Order) (s : State) (k : Lane) (x : Snapshot)
    (rest : List Request) (h : s.requests = .interval k x :: rest) (hw : rest.all Request.isVehicle = false) :
    execIntervalRequestCompletion dt o s = .next ((s.advance dt).recorded k x rest) := by
  have h' : (s.advance dt).requests = .interval k x :: rest := h
  have hr : ((s.advance dt).recorded k x rest).reported (s.advance dt) = false := by
    simp [State.reported, State.recorded, State.mode]
  unfold execIntervalRequestCompletion State.completeInterval
  simp only [h', hw, Bool.false_eq_true, if_false]
  rcases ((s.advance dt).recorded k x rest).settle_cases (s.advance dt) o.late with ⟨-, ht, -⟩ | ⟨-, e⟩
  · exact absurd (hr.symm.trans ht) nofun
  · exact congrArg _ e

end Sys2Proof.Machine
end

section
/-!
PROOFS. The station evaluation (R36 to R38, R77 to R81, R96 to R98, R101, R102): what speed control and the queue monitor make
of the new measures, in whichever order they take them.
-/
namespace Sys2Proof.Machine

/-! ### What an evaluation makes of speed control, of the fault list and of the queue monitor -/

/-- Speed control after an evaluation: at a candidate at or above the demand step, the step becomes it at once; below, the
dwell counts while the release condition holds, and at its end the step falls by one; without a measure it is held and
detection is lost (R79 to R81). -/
def Speed.judged (p : Speed) (m : Measures) (candidate : Nat) (release : Bool) (dwellCount : Nat) : Speed :=
  if m.speed = none ∧ m.occupancy = none then { p with dwell := 0, detectionLost := true }
  else if p.demand ≤ candidate then { p with demand := candidate, dwell := 0, detectionLost := false }
  else if release = true then
    if p.dwell + 1 = dwellCount then { p with demand := p.demand - 1, dwell := 0, detectionLost := false }
    else { p with dwell := p.dwell + 1, detectionLost := false }
  else { p with dwell := 0, detectionLost := false }

/-- The fault list after an evaluation: DETECTION LOST comes with the loss of both measures and ends with the first measure
(R81). -/
def FaultList.judged (f : FaultList) (m : Measures) (lost : Bool) (seen : Nat) : FaultList :=
  if m.speed = none ∧ m.occupancy = none then if lost then f else f.raise .detectionLost 0 seen
  else if lost then f.close .detectionLost 0 else f

/-- The queue monitor after an evaluation at a moment (R97, R98, R101). -/
def QueueMonitor.judged (q : QueueMonitor) (holds : Bool) (confirmCount clearDwell clock : Nat) : QueueMonitor :=
  match q.state with
  | .clear =>
      if holds then
        if q.confirm + 1 = confirmCount then { q with state := .present, confirm := 0, clearCount := 0 }
        else { q with confirm := q.confirm + 1 }
      else { q with confirm := 0 }
  | .present =>
      if holds then { q with clearCount := 0 }
      else if clearDwell ≤ q.clearCount + 1 ∧ ¬(q.firedAt = some clock ∧ q.clearCount = 0) then
        { q with state := .clear, confirm := 0, clearCount := 0 }
      else { q with clearCount := q.clearCount + 1 }

/-- The state in which speed control has taken the new measures (R77). -/
def State.demandTaken (s : State) : State :=
  if s.mode = .running ∨ s.mode = .isolated then
    (s.setSpeed (s.speed.judged s.measures s.candidate s.releaseHolds s.cfg.dwellCount)).setFaults
      (s.faults.judged s.measures s.speed.detectionLost s.seconds)
  else s

/-- The queue monitor that has taken the new measures (R96). -/
def State.judgedQueue (s : State) : QueueMonitor :=
  s.queue.judged s.queueCondition s.cfg.confirmCount s.cfg.clearDwell s.clock

/-- The state in which the queue monitor has taken the new measures, but for the urgent flag (R96). -/
def State.queueTaken (s : State) : State := s.setQueue s.judgedQueue

theorem State.takeMeasures_eq (s : State) : s.takeMeasures = s.demandTaken := by
  unfold State.takeMeasures State.demandTaken
  by_cases hm : s.mode = .running ∨ s.mode = .isolated
  · rw [if_pos hm, if_pos hm]
    unfold State.evaluateDemand State.moveDemand Speed.judged FaultList.judged
    dsimp only
    by_cases hn : s.measures.speed = none ∧ s.measures.occupancy = none
    · simp only [if_pos hn]
      split <;> rfl
    · simp only [if_neg hn]
      repeat' split
      all_goals rfl
  · rw [if_neg hm, if_neg hm]

theorem State.setLine_served (s : State) (l : Line) : s.Served (s.setLine l) := rfl

theorem State.flagUrgent_served (s : State) : s.Served s.flagUrgent := by
  unfold State.flagUrgent
  split
  · exact s.setLine_served _
  · exact State.Served.refl s

theorem State.afterShock_eq_false (s : State) :
    s.afterShock = false ↔ ¬(s.queue.firedAt = some s.clock ∧ s.queue.clearCount = 0) := decide_eq_false_iff_not

/-- The queue monitor's judgement of an evaluation, and its urgent change of state (R102). -/
theorem State.evaluateQueue_eq (s : State) :
    s.evaluateQueue = if s.judgedQueue.state = s.queue.state then s.queueTaken else s.queueTaken.flagUrgent := by
  unfold State.queueTaken State.judgedQueue QueueMonitor.judged State.evaluateQueue
  simp only [s.afterShock_eq_false]
  cases hs : s.queue.state with
  | clear =>
    by_cases hq : s.queueCondition = true
    · by_cases hc : s.queue.confirm + 1 = s.cfg.confirmCount
      · simp only [if_pos hq, if_pos hc, reduceCtorEq, if_false]
      · simp only [if_pos hq, if_neg hc, if_true]
    · simp only [if_neg hq, if_true]
  | present =>
    by_cases hq : s.queueCondition = true
    · simp only [if_pos hq, if_true]
    · by_cases hd : s.cfg.clearDwell ≤ s.queue.clearCount + 1 ∧ ¬(s.queue.firedAt = some s.clock ∧ s.queue.clearCount = 0)
      · simp only [if_neg hq, if_pos hd, reduceCtorEq, if_false]
      · simp only [if_neg hq, if_neg hd, if_true]

theorem State.evaluateQueue_served (s : State) : s.queueTaken.Served s.evaluateQueue := by
  rw [s.evaluateQueue_eq]
  split
  · exact State.Served.refl _
  · exact State.flagUrgent_served _

/-- A change of the queue state at an evaluation is urgent (R102). -/
theorem State.evaluateQueue_urgent (s : State) (ha : s.acting = true) (h : s.evaluateQueue.queue.state ≠ s.queue.state) :
    s.evaluateQueue.line.urgent = true ∧ s.evaluateQueue.line.pending = true := by
  have hq : s.evaluateQueue.queue.state = s.judgedQueue.state := s.evaluateQueue_served.queueState
  rw [s.evaluateQueue_eq, if_neg (hq ▸ h)]
  exact State.flagUrgent_urgent _ ha

/-! ### Either order -/

theorem Speed.judged_withHeld (p q : Speed) (m : Measures) (candidate : Nat) (release : Bool) (dwellCount : Nat) :
    (p.withHeld q).judged m candidate release dwellCount = (p.judged m candidate release dwellCount).withHeld q := by
  unfold Speed.judged Speed.withHeld
  dsimp only
  repeat' split
  all_goals rfl

theorem QueueMonitor.judged_term (q : QueueMonitor) (term holds : Bool) (confirmCount clearDwell clock : Nat) :
    QueueMonitor.judged { q with term := term } holds confirmCount clearDwell clock =
      { q.judged holds confirmCount clearDwell clock with term := term } := by
  unfold QueueMonitor.judged
  dsimp only
  repeat' split
  all_goals rfl

/-- What the readers recompute makes no difference to what speed control makes of the measures. -/
theorem State.Served.demandTaken {s t : State} (h : s.Served t) : s.demandTaken.Served t.demandTaken := by
  have hw : s.demandTaken.Served (s.withReaders t).demandTaken := by
    have hm : (s.withReaders t).mode = s.mode := rfl
    unfold State.demandTaken
    rw [hm]
    split
    · have hp : (s.withReaders t).speed.judged s.measures s.candidate s.releaseHolds s.cfg.dwellCount =
          (s.speed.judged s.measures s.candidate s.releaseHolds s.cfg.dwellCount).withHeld t.speed := Speed.judged_withHeld ..
      show State.Served _ (((s.withReaders t).setSpeed
        ((s.withReaders t).speed.judged s.measures s.candidate s.releaseHolds s.cfg.dwellCount)).setFaults _)
      rw [hp]
      rfl
    · rfl
  rwa [← h.eq] at hw

/-- Nor to what the queue monitor makes of them. -/
theorem State.Served.queueTaken {s t : State} (h : s.Served t) : s.queueTaken.Served t.queueTaken := by
  have hw : s.queueTaken.Served (s.withReaders t).queueTaken := by
    have hq : (s.withReaders t).judgedQueue = { s.judgedQueue with term := t.queue.term } := QueueMonitor.judged_term ..
    unfold State.queueTaken
    rw [hq]
    rfl
  rwa [← h.eq] at hw

/-- The two of them act on separate state (R38). -/
theorem State.queueTaken_demandTaken (s : State) : s.queueTaken.demandTaken = s.demandTaken.queueTaken := by
  have hm : s.queueTaken.mode = s.mode := rfl
  unfold State.demandTaken
  rw [hm]
  split <;> rfl

theorem State.demandTaken_same (s : State) : SameOutside [.speed, .faults] s s.demandTaken := by
  unfold State.demandTaken
  split
  · intro b hb
    cases b
    case speed | faults => exact absurd (by decide) hb
    all_goals rfl
  · exact SameOutside.refl _ s

theorem State.notEntered_congr {s t before : State} (h : t.station = s.station) (hn : s.notEntered before) :
    t.notEntered before := by
  unfold State.notEntered State.mode at *
  rwa [h]

/-- An evaluation of a step that has not entered ISOLATED ends, in whichever order it is taken, in the state that both have
taken, but for what the readers between them recompute (R38, R96). -/
theorem State.inOrder_evaluated (s before : State) (o : Order) (h : s.notEntered before) :
    s.demandTaken.queueTaken.Served (s.inOrder before o State.takeMeasures State.evaluateQueue) := by
  rcases s.inOrder_cases before o State.takeMeasures State.evaluateQueue with ⟨-, e⟩ | ⟨-, e⟩
  · rw [e, s.takeMeasures_eq]
    have hn := State.notEntered_congr (s.demandTaken_same .station (by decide)) h
    exact (s.demandTaken.serveSome_served before o.between hn).queueTaken.trans (State.evaluateQueue_served _)
  · rw [e, State.takeMeasures_eq, ← s.queueTaken_demandTaken]
    have hn : s.evaluateQueue.notEntered before := s.evaluateQueue_served.notEntered (s := s.queueTaken) h
    exact (s.evaluateQueue_served.trans (s.evaluateQueue.serveSome_served before o.between hn)).demandTaken

/-- A change of the queue state at an evaluation stays urgent (R102). -/
theorem State.inOrder_urgent (s before : State) (o : Order) (h : s.notEntered before) (ha : s.acting = true)
    (hq : (s.inOrder before o State.takeMeasures State.evaluateQueue).queue.state ≠ s.queue.state) :
    let t := s.inOrder before o State.takeMeasures State.evaluateQueue
    t.line.urgent = true ∧ t.line.pending = true := by
  intro t
  rcases s.inOrder_cases before o State.takeMeasures State.evaluateQueue with ⟨-, e⟩ | ⟨-, e⟩
  · have hd := s.demandTaken_same
    have hn := State.notEntered_congr (hd .station (by decide)) h
    have hy := s.demandTaken.serveSome_served before o.between hn
    have hstate : (s.demandTaken.serveSome before o.between).queue.state = s.queue.state :=
      hy.queueState.trans (congrArg QueueMonitor.state (hd .queue (by decide)))
    have hacting : (s.demandTaken.serveSome before o.between).acting = true := by
      rw [hy.acting, State.acting, State.mode, show s.demandTaken.station = s.station from hd .station (by decide)]
      exact ha
    rw [s.takeMeasures_eq] at e
    rw [e] at hq
    show t.line.urgent = true ∧ t.line.pending = true
    rw [show t = _ from e]
    exact State.evaluateQueue_urgent _ hacting (hstate ▸ hq)
  · have hn : s.evaluateQueue.notEntered before := s.evaluateQueue_served.notEntered (s := s.queueTaken) h
    have hy := s.evaluateQueue.serveSome_served before o.between hn
    have hd := (s.evaluateQueue.serveSome before o.between).demandTaken_same
    rw [State.takeMeasures_eq] at e
    have hstate : t.queue.state = s.evaluateQueue.queue.state := by
      rw [show t = _ from e]
      exact (congrArg QueueMonitor.state (hd .queue (by decide))).trans hy.queueState
    have hline : t.line = (s.evaluateQueue.serveSome before o.between).line := by
      rw [show t = _ from e]
      exact hd .line (by decide)
    rw [hline]
    exact Line.mayFlag_urgent (State.serveSome_mayFlag _ _ _) (s.evaluateQueue_urgent ha (hstate ▸ hq))

/-! ### The measures and what is read off them (R36, R37, R78, R80, R96) -/

theorem State.runsForMeasurement_iff (s : State) (k : Lane) :
    s.runsForMeasurement k = true ↔
      k.num ≤ s.cfg.laneCount ∧ s.composer.active.aspects.get k ≠ .closed ∧
        (s.cfg.shoulderLane = true → k = .l1 → s.shoulder.state = .opened) := by
  unfold State.runsForMeasurement State.isShoulder
  cases s.cfg.shoulderLane <;> simp [and_assoc, imp_iff_not_or]

theorem foldl_optMin_eq {α : Type} (f : α → Option Nat) (l : List α) (acc : Option Nat) :
    l.foldl (fun acc k => optMin acc (f k)) acc = (acc.toList ++ l.filterMap f).min? := by
  induction l generalizing acc with
  | nil => cases acc <;> rfl
  | cons a as ih =>
    refine (ih _).trans ?_
    cases hf : f a with
    | none => cases acc <;> simp [hf, optMin]
    | some y =>
      cases acc with
      | none => simp [hf, optMin]
      | some x =>
        dsimp only
        rw [List.filterMap_cons_some hf, hf]
        rfl

theorem foldl_optMax_eq {α : Type} (f : α → Option Nat) (l : List α) (acc : Option Nat) :
    l.foldl (fun acc k => optMax acc (f k)) acc = (acc.toList ++ l.filterMap f).max? := by
  induction l generalizing acc with
  | nil => cases acc <;> rfl
  | cons a as ih =>
    refine (ih _).trans ?_
    cases hf : f a with
    | none => cases acc <;> simp [hf, optMax]
    | some y =>
      cases acc with
      | none => simp [hf, optMax]
      | some x =>
        dsimp only
        rw [List.filterMap_cons_some hf, hf]
        rfl

/-- The station speed is the least S of the running DUAL lanes (R37). -/
theorem State.stationSpeed_eq_some (s : State) (v : Nat) :
    s.stationSpeed = some v ↔
      (∃ k, s.runsForMeasurement k = true ∧ (s.detector.lanes.get k).mode = .dual ∧ (s.records.get k).s = some v) ∧
        ∀ k w, s.runsForMeasurement k = true → (s.detector.lanes.get k).mode = .dual → (s.records.get k).s = some w → v ≤ w := by
  unfold State.stationSpeed
  rw [foldl_optMin_eq, Option.toList_none, List.nil_append, List.min?_eq_some_iff]
  simp only [List.mem_filterMap, List.mem_filter, Bool.and_eq_true, beq_iff_eq, s.mem_laneList]
  have hl (k : Lane) (h : s.runsForMeasurement k = true) := ((s.runsForMeasurement_iff k).mp h).1
  constructor
  · rintro ⟨⟨k, ⟨-, hr, hm⟩, hs⟩, hle⟩
    exact ⟨⟨k, hr, hm, hs⟩, fun j w hr hm hw => hle w ⟨j, ⟨hl j hr, hr, hm⟩, hw⟩⟩
  · rintro ⟨⟨k, hr, hm, hs⟩, hle⟩
    refine ⟨⟨k, ⟨hl k hr, hr, hm⟩, hs⟩, ?_⟩
    rintro w ⟨j, ⟨-, hr, hm⟩, hw⟩
    exact hle j w hr hm hw

/-- The station occupancy is the greatest Os of the running lanes not in NONE (R37). -/
theorem State.stationOccupancy_eq_some (s : State) (o : Nat) :
    s.stationOccupancy = some o ↔
      (∃ k, s.runsForMeasurement k = true ∧ (s.detector.lanes.get k).mode ≠ .none ∧ (s.records.get k).os = some o) ∧
        ∀ k w, s.runsForMeasurement k = true → (s.detector.lanes.get k).mode ≠ .none → (s.records.get k).os = some w →
          w ≤ o := by
  unfold State.stationOccupancy
  rw [foldl_optMax_eq, Option.toList_none, List.nil_append, List.max?_eq_some_iff]
  simp only [List.mem_filterMap, List.mem_filter, Bool.and_eq_true, bne_iff_ne, s.mem_laneList]
  have hl (k : Lane) (h : s.runsForMeasurement k = true) := ((s.runsForMeasurement_iff k).mp h).1
  constructor
  · rintro ⟨⟨k, ⟨-, hr, hm⟩, hs⟩, hle⟩
    exact ⟨⟨k, hr, hm, hs⟩, fun j w hr hm hw => hle w ⟨j, ⟨hl j hr, hr, hm⟩, hw⟩⟩
  · rintro ⟨⟨k, hr, hm, hs⟩, hle⟩
    refine ⟨⟨k, ⟨hl k hr, hr, hm⟩, hs⟩, ?_⟩
    rintro w ⟨j, ⟨-, hr, hm⟩, hw⟩
    exact hle j w hr hm hw

theorem State.qualifies_iff (s : State) (k : Nat) :
    s.qualifies k = true ↔
      (∃ v, s.measures.speed = some v ∧ v ≤ s.cfg.sEnter.get k) ∨
        ∃ o, s.measures.occupancy = some o ∧ s.cfg.oEnter.get k ≤ o := by
  unfold State.qualifies
  cases s.measures.speed <;> cases s.measures.occupancy <;> simp

/-- The candidate is the highest step of 1 to 6 that qualifies, or 0 (R78). -/
theorem State.candidate_spec (s : State) :
    s.candidate ≤ 6 ∧ (1 ≤ s.candidate → s.qualifies s.candidate = true) ∧
      ∀ k, s.candidate < k → k ≤ 6 → ¬s.qualifies k = true := by
  unfold State.candidate
  have hmem (k : Nat) (h1 : 1 ≤ k) (h6 : k ≤ 6) : k ∈ [6, 5, 4, 3, 2, 1] := by
    interval_cases k <;> decide
  cases h : [6, 5, 4, 3, 2, 1].find? (fun k => s.qualifies k) with
  | none =>
    refine ⟨by decide, fun h0 => absurd h0 (by decide), fun k hk h6 => ?_⟩
    exact List.find?_eq_none.mp h k (hmem k hk h6)
  | some c =>
    obtain ⟨hc, as, bs, hl, has⟩ := List.find?_eq_some_iff_append.mp h
    have hsorted : (as ++ c :: bs).Pairwise (· > ·) := hl ▸ (by decide : [6, 5, 4, 3, 2, 1].Pairwise (· > ·))
    have hcmem : c ∈ [6, 5, 4, 3, 2, 1] := List.mem_of_find?_eq_some h
    refine ⟨?_, fun _ => hc, fun k hk h6 hq => ?_⟩
    · simp only [Option.getD_some]
      fin_cases hcmem <;> decide
    · have hk' : k ∈ as ++ c :: bs := hl ▸ hmem k (Nat.one_le_of_lt hk) h6
      rcases List.mem_append.mp hk' with ha | hb
      · simpa [hq] using has k ha
      · obtain ⟨-, hrest, -⟩ := List.pairwise_append.mp hsorted
        obtain ⟨hlast, -⟩ := List.pairwise_cons.mp hrest
        rcases List.mem_cons.mp hb with rfl | hb
        · exact lt_irrefl _ hk
        · exact lt_asymm hk (hlast k hb)

theorem State.releaseHolds_iff (s : State) :
    s.releaseHolds = true ↔
      (∀ v, s.measures.speed = some v → s.cfg.sEnter.get s.speed.demand + s.cfg.hs ≤ v) ∧
        ∀ o, s.measures.occupancy = some o → (o : Int) ≤ (s.cfg.oEnter.get s.speed.demand : Int) - (s.cfg.ho : Int) := by
  unfold State.releaseHolds
  cases s.measures.speed <;> cases s.measures.occupancy <;> simp

theorem State.queueCondition_iff (s : State) :
    s.queueCondition = true ↔
      ∃ v o, s.measures.speed = some v ∧ s.measures.occupancy = some o ∧ v ≤ s.cfg.queueSpeed ∧ s.cfg.queueOccupancy ≤ o := by
  unfold State.queueCondition
  cases s.measures.speed <;> cases s.measures.occupancy <;> simp

end Sys2Proof.Machine
end

section
/-!
PROOFS. The completion of an INTERVAL request settled: the results of the request, and the evaluation that the last one makes.
-/
namespace Sys2Proof.Machine

/-! ### The evaluation of the last INTERVAL completion (R38) -/

/-- The state in which the measures have been computed and the first-evaluation mark set, before speed control and the queue
monitor take the evaluation (R37, R169). -/
def State.measured (s : State) : State := s.computeMeasures.markEvaluation

theorem State.markEvaluation_same (s : State) : SameOutside [.station] s s.markEvaluation := by
  unfold State.markEvaluation
  split
  · intro b hb
    cases b
    case station => exact absurd (by decide) hb
    all_goals rfl
  · exact SameOutside.refl _ s

/-- The mark alone of station control changes, and it is set at a first evaluation in WARMING (R169). -/
theorem State.markEvaluation_spec (s : State) :
    s.markEvaluation.mode = s.mode ∧ s.markEvaluation.cfg = s.cfg ∧
      (s.mode = .warming → s.markEvaluation.station.firstEvaluation = true) := by
  unfold State.markEvaluation
  split
  · exact ⟨rfl, rfl, fun _ => rfl⟩
  · next h => exact ⟨rfl, rfl, fun hm => by simpa [hm] using h⟩

theorem State.measured_same (s : State) : SameOutside [.measures, .station] s s.measured := by
  have hm : SameOutside [.measures] s s.computeMeasures := by
    intro b hb
    cases b
    case measures => exact absurd (by decide) hb
    all_goals rfl
  exact hm.trans (State.markEvaluation_same _) (by decide) (by decide)

theorem State.measured_measures (s : State) :
    s.measured.measures = { speed := s.stationSpeed, occupancy := s.stationOccupancy } :=
  s.computeMeasures.markEvaluation_same .measures (by decide)

theorem State.queueTaken_same (s : State) : SameOutside [.queue] s s.queueTaken := s.setQueue_same _

theorem execIntervalRequestCompletion_of_last (dt : Nat) (o : Order) (s : State) (k : Lane) (x : Snapshot)
    (rest : List Request) (h : s.requests = .interval k x :: rest) (hl : rest.all Request.isVehicle = true) :
    execIntervalRequestCompletion dt o s =
      .next ((((s.advance dt).recorded k x rest).measured.inOrder (s.advance dt) o State.takeMeasures State.evaluateQueue).settle
        (s.advance dt) o.late) := by
  have h' : (s.advance dt).requests = .interval k x :: rest := h
  unfold execIntervalRequestCompletion State.completeInterval
  simp only [h', hl, if_true]
  rfl

/-- The last INTERVAL completion ends, but for what the readers recompute, in the state in which speed control and the queue
monitor have taken the measures; a change of the queue state is urgent (R38, R102). -/
theorem exec_intervalRequestCompletion_last (dt : Nat) (o : Order) (s : State) (k : Lane) (x : Snapshot) (rest : List Request)
    (h : s.requests = .interval k x :: rest) (hl : rest.all Request.isVehicle = true) :
    ∃ t, exec (.intervalRequestCompletion dt o) s = .next t ∧
      ((s.advance dt).recorded k x rest).measured.demandTaken.queueTaken.Served t ∧
      (s.acting = true → t.queue.state ≠ s.queue.state → t.line.urgent = true ∧ t.line.pending = true) := by
  let u := ((s.advance dt).recorded k x rest).measured
  let v := u.inOrder (s.advance dt) o State.takeMeasures State.evaluateQueue
  have hu : SameOutside [.requests, .records, .measures, .station] (s.advance dt) u :=
    ((s.advance dt).recorded_same k x rest).trans (State.measured_same _) (by decide) (by decide)
  have hmode : u.mode = s.mode := (State.markEvaluation_spec _).1
  have hn : u.notEntered (s.advance dt) := fun e => hmode.symm.trans e
  have hv : u.demandTaken.queueTaken.Served v := u.inOrder_evaluated (s.advance dt) o hn
  have hnd : u.demandTaken.queueTaken.notEntered (s.advance dt) :=
    State.notEntered_congr (u.demandTaken_same .station (by decide)) hn
  have ht := v.settle_served (s.advance dt) o.late (hv.notEntered hnd)
  rw [exec_intervalRequestCompletion_eq, execIntervalRequestCompletion_of_last dt o s k x rest h hl]
  refine ⟨_, rfl, hv.trans ht, fun ha hq => Line.mayFlag_urgent (v.settle_mayFlag _ _) ?_⟩
  refine u.inOrder_urgent (s.advance dt) o hn ?_ ?_
  · rw [State.acting, hmode]
    exact ha
  · have hstate : u.queue.state = s.queue.state := congrArg QueueMonitor.state (hu .queue (by decide))
    rw [hstate, ← show _ = v.queue.state from ht.queueState]
    exact hq

/-- What the last INTERVAL completion leaves alone. -/
theorem State.Served.evaluated_same {s t : State} {dt : Nat} {k : Lane} {x : Snapshot} {rest : List Request}
    (h : ((s.advance dt).recorded k x rest).measured.demandTaken.queueTaken.Served t) :
    SameOutside (andReaders [.clock, .requests, .records, .measures, .station, .faults]) s t :=
  ((((s.advance_same dt).trans (State.recorded_same _ k x rest) (n := [.clock, .requests, .records]) (by decide) (by decide)).trans
    (State.measured_same _) (n := [.clock, .requests, .records, .measures, .station]) (by decide) (by decide)).trans
    ((State.demandTaken_same _).trans (State.queueTaken_same _) (n := [.speed, .faults, .queue]) (by decide) (by decide))
    (n := andReaders [.clock, .requests, .records, .measures, .station, .faults]) (by decide) (by decide)).trans
    h.same (fun _ x => x) (by decide)

/-- Speed control and the queue monitor leave what the evaluation has computed. -/
theorem State.Served.evaluated_blocks {s t : State} {dt : Nat} {k : Lane} {x : Snapshot} {rest : List Request}
    (h : ((s.advance dt).recorded k x rest).measured.demandTaken.queueTaken.Served t) :
    t.clock = s.clock + dt ∧ t.requests = rest ∧ t.records = ((s.advance dt).recorded k x rest).records ∧
      t.measures = ((s.advance dt).recorded k x rest).measured.measures ∧
      t.station = ((s.advance dt).recorded k x rest).measured.station := by
  let r := (s.advance dt).recorded k x rest
  have hm := r.measured_same
  have hd : SameOutside [.speed, .faults, .queue] r.measured r.measured.demandTaken.queueTaken :=
    (State.demandTaken_same _).trans (State.queueTaken_same _) (by decide) (by decide)
  exact ⟨h.clock.trans ((hd .clock (by decide)).trans (hm .clock (by decide))),
    h.requests.trans ((hd .requests (by decide)).trans (hm .requests (by decide))),
    h.records.trans ((hd .records (by decide)).trans (hm .records (by decide))),
    h.measures.trans (hd .measures (by decide)), h.station.trans (hd .station (by decide))⟩

theorem State.recorded_records (s : State) (k : Lane) (x : Snapshot) (rest : List Request) :
    (s.recorded k x rest).records =
      s.records.set k ((s.records.get k).update x (s.cfg.lanes.get k).spacing s.cfg.vff s.cfg.w s.cfg.wo) := rfl

/-- Settles O33: the lane record is updated from the snapshot; the last INTERVAL request of the queue makes an evaluation
besides. -/
theorem intervalRequestCompletes : Obligations.IntervalRequestCompletes := by
  intro dt o s k x rest h r c q occ v smooth
  have hrecord : r.update x c.spacing s.cfg.vff s.cfg.w s.cfg.wo =
      { q := q, o := occ, v := v, empty := x.measured && x.n == 0, merged := decide (1 ≤ x.merges), nLong := x.nLong
        s := smooth r.s v s.cfg.w, os := smooth r.os occ s.cfg.wo } := by
    unfold LaneRecord.update
    rw [smooth_eq, smooth_eq, x.flow_eq, x.occupancy_eq, x.speed_eq]
    rfl
  have hrec : ((s.advance dt).recorded k x rest).records = s.records.set k _ :=
    ((s.advance dt).recorded_records k x rest).trans (congrArg (s.records.set k) hrecord)
  by_cases hw : rest.all Request.isVehicle = true
  · obtain ⟨t, he, ht, -⟩ := exec_intervalRequestCompletion_last dt o s k x rest h hw
    obtain ⟨hclock, hreq, hrecords, -, -⟩ := ht.evaluated_blocks
    refine ⟨t, he, hclock, hreq, fun _ _ => hrecords.trans hrec, fun hany => ?_, ht.evaluated_same⟩
    rw [(all_isVehicle_iff rest).mpr hany] at hw
    cases hw
  · have hsame : SameOutside [.clock, .requests, .records] s ((s.advance dt).recorded k x rest) :=
      (s.advance_same dt).trans (State.recorded_same _ k x rest) (by decide) (by decide)
    rw [exec_intervalRequestCompletion_eq,
      execIntervalRequestCompletion_of_waiting dt o s k x rest h (Bool.eq_false_iff.mpr hw)]
    exact ⟨_, rfl, rfl, rfl, fun _ _ => hrec, fun _ => ⟨hsame, rfl⟩, hsame.mono (by decide)⟩

end Sys2Proof.Machine
end

section
/-!
PROOFS. The station evaluation settled: its measures, and its judgement of the demand and of the queue.
-/
namespace Sys2Proof.Machine

/-! ### The judgements case by case -/

/-- With a measure present the demand step rises at once, falls by one at the end of the dwell, and stays otherwise (R79,
R80); detection is not lost (R81). -/
theorem Speed.judged_of_measure (p : Speed) (m : Measures) (c n : Nat) (release : Bool)
    (h : m.speed ≠ none ∨ m.occupancy ≠ none) :
    let j := p.judged m c release n
    (p.demand ≤ c → j.demand = c ∧ j.dwell = 0) ∧
      (c < p.demand → release = false → j.demand = p.demand ∧ j.dwell = 0) ∧
      (c < p.demand → release = true →
        (p.dwell + 1 = n → j.demand = p.demand - 1 ∧ j.dwell = 0) ∧
          (p.dwell + 1 ≠ n → j.demand = p.demand ∧ j.dwell = p.dwell + 1)) ∧
      j.detectionLost = false := by
  intro j
  have hj : j = _ := if_neg (fun e => h.elim (absurd e.1) (absurd e.2))
  rw [hj]
  refine ⟨fun hc => ?_, fun hc hr => ?_, fun hc hr => ⟨fun hd => ?_, fun hd => ?_⟩, ?_⟩
  · rw [if_pos hc]
    exact ⟨rfl, rfl⟩
  · rw [if_neg hc.not_ge, if_neg (Bool.eq_false_iff.mp hr)]
    exact ⟨rfl, rfl⟩
  · rw [if_neg hc.not_ge, if_pos hr, if_pos hd]
    exact ⟨rfl, rfl⟩
  · rw [if_neg hc.not_ge, if_pos hr, if_neg hd]
    exact ⟨rfl, rfl⟩
  · repeat' split
    all_goals rfl

/-- Without a measure the demand is held and detection is lost (R81). -/
theorem Speed.judged_of_none (p : Speed) (m : Measures) (c n : Nat) (release : Bool) (hs : m.speed = none)
    (ho : m.occupancy = none) : p.judged m c release n = { p with dwell := 0, detectionLost := true } := if_pos ⟨hs, ho⟩

theorem FaultList.judged_of_measure (f : FaultList) (m : Measures) (lost : Bool) (seen : Nat)
    (h : m.speed ≠ none ∨ m.occupancy ≠ none) :
    f.judged m lost seen = if lost then f.close .detectionLost 0 else f :=
  if_neg (fun e => h.elim (absurd e.1) (absurd e.2))

theorem FaultList.judged_of_none (f : FaultList) (m : Measures) (lost : Bool) (seen : Nat) (hs : m.speed = none)
    (ho : m.occupancy = none) : f.judged m lost seen = if lost then f else f.raise .detectionLost 0 seen := if_pos ⟨hs, ho⟩

theorem QueueMonitor.judged_of_clear (q : QueueMonitor) (holds : Bool) (confirmCount clearDwell clock : Nat)
    (h : q.state = .clear) :
    q.judged holds confirmCount clearDwell clock =
      if holds then
        if q.confirm + 1 = confirmCount then { q with state := .present, confirm := 0, clearCount := 0 }
        else { q with confirm := q.confirm + 1 }
      else { q with confirm := 0 } := by
  unfold QueueMonitor.judged
  rw [h]

theorem QueueMonitor.judged_of_present (q : QueueMonitor) (holds : Bool) (confirmCount clearDwell clock : Nat)
    (h : q.state = .present) :
    q.judged holds confirmCount clearDwell clock =
      if holds then { q with clearCount := 0 }
      else if clearDwell ≤ q.clearCount + 1 ∧ ¬(q.firedAt = some clock ∧ q.clearCount = 0) then
        { q with state := .clear, confirm := 0, clearCount := 0 }
      else { q with clearCount := q.clearCount + 1 } := by
  unfold QueueMonitor.judged
  rw [h]

/-! ### What the judgements read -/

theorem State.cfg_congr {s t : State} (h : t.station = s.station) : t.cfg = s.cfg := by
  unfold State.cfg
  rw [h]

theorem State.candidate_congr {s t : State} (hm : t.measures = s.measures) (hc : t.cfg = s.cfg) : t.candidate = s.candidate := by
  simp only [State.candidate, State.qualifies, hm, hc]

theorem State.releaseHolds_congr {s t : State} (hm : t.measures = s.measures) (hc : t.cfg = s.cfg)
    (hd : t.speed.demand = s.speed.demand) : t.releaseHolds = s.releaseHolds := by
  simp only [State.releaseHolds, hm, hc, hd]

theorem State.queueCondition_congr {s t : State} (hm : t.measures = s.measures) (hc : t.cfg = s.cfg) :
    t.queueCondition = s.queueCondition := by
  simp only [State.queueCondition, hm, hc]

/-- Speed control after a demand evaluation (R77 to R81). -/
theorem State.demandTaken_of_judging (s : State) (h : s.mode = .running ∨ s.mode = .isolated) :
    s.demandTaken.speed = s.speed.judged s.measures s.candidate s.releaseHolds s.cfg.dwellCount ∧
      s.demandTaken.faults = s.faults.judged s.measures s.speed.detectionLost s.seconds := by
  unfold State.demandTaken
  rw [if_pos h]
  exact ⟨rfl, rfl⟩

/-- The measures of an evaluation, read off the lane records that it leaves (R37). -/
theorem State.stationMeasures_congr {s t : State} (hc : t.cfg = s.cfg) (hp : t.composer = s.composer)
    (hs : t.shoulder = s.shoulder) (hd : t.detector = s.detector) (hr : t.records = s.records) :
    t.stationSpeed = s.stationSpeed ∧ t.stationOccupancy = s.stationOccupancy := by
  simp only [State.stationSpeed, State.stationOccupancy, State.laneList, State.runsForMeasurement, State.isShoulder,
    hc, hp, hs, hd, hr, and_self]

/-- The last INTERVAL completion in terms of the state `e` in which the results of the evaluation stand beside what was before:
the measures, and the judgements of speed control, the fault list and the queue monitor. -/
theorem exec_intervalRequestCompletion_judged (dt : Nat) (o : Order) (s : State) (k : Lane) (x : Snapshot) (rest : List Request)
    (h : s.requests = .interval k x :: rest) (hl : rest.all Request.isVehicle = true) :
    ∃ t, exec (.intervalRequestCompletion dt o) s = .next t ∧
      let e : State := { s with records := t.records, measures := t.measures }
      let p := s.speed.judged t.measures e.candidate e.releaseHolds s.cfg.dwellCount
      t.measures.speed = e.stationSpeed ∧ t.measures.occupancy = e.stationOccupancy ∧
      (s.mode = .running ∨ s.mode = .isolated →
        t.speed.demand = p.demand ∧ t.speed.dwell = p.dwell ∧ t.speed.detectionLost = p.detectionLost ∧
          t.faults = s.faults.judged t.measures s.speed.detectionLost ((s.clock + dt) / second)) ∧
      (s.mode = .warming → t.speed.demand = s.speed.demand ∧ t.speed.dwell = s.speed.dwell ∧ t.faults = s.faults ∧
        t.station.firstEvaluation = true) ∧
      t.queue = { s.queue.judged e.queueCondition s.cfg.confirmCount s.cfg.clearDwell (s.clock + dt) with
        term := t.queue.term } ∧
      (s.acting = true → t.queue.state ≠ s.queue.state → t.line.urgent = true ∧ t.line.pending = true) ∧
      SameOutside (andReaders [.clock, .requests, .records, .measures, .station, .faults]) s t := by
  obtain ⟨t, hexec, ht, hurgent⟩ := exec_intervalRequestCompletion_last dt o s k x rest h hl
  obtain ⟨-, -, hrecords, hmeasures, hstation⟩ := ht.evaluated_blocks
  refine ⟨t, hexec, ?_⟩
  intro e p
  let r := (s.advance dt).recorded k x rest
  let u := r.measured
  obtain ⟨hmode, hcfg, hmark⟩ := r.computeMeasures.markEvaluation_spec
  have hm : e.measures = u.measures := hmeasures
  have hsame : SameOutside [.measures, .station] r u := r.measured_same
  have hspeed : u.speed = s.speed := hsame .speed (by decide)
  have hfaults : u.faults = s.faults := hsame .faults (by decide)
  have hqueue : u.queue = s.queue := hsame .queue (by decide)
  have hclock : u.clock = s.clock + dt := hsame .clock (by decide)
  have hmode' : u.mode = s.mode := hmode
  have hcfg' : u.cfg = s.cfg := hcfg
  have hcand : u.candidate = e.candidate := State.candidate_congr hm.symm hcfg
  have hrel : u.releaseHolds = e.releaseHolds := State.releaseHolds_congr hm.symm hcfg (congrArg Speed.demand hspeed)
  have hcond : u.queueCondition = e.queueCondition := State.queueCondition_congr hm.symm hcfg
  obtain ⟨hes, heo⟩ : e.stationSpeed = r.stationSpeed ∧ e.stationOccupancy = r.stationOccupancy :=
    State.stationMeasures_congr rfl rfl rfl rfl hrecords
  refine ⟨?_, ?_, fun hj => ?_, fun hw => ?_, ?_, hurgent, ht.evaluated_same⟩
  · rw [hes, hmeasures, r.measured_measures]
  · rw [heo, hmeasures, r.measured_measures]
  · obtain ⟨hp, hf⟩ := u.demandTaken_of_judging (hmode' ▸ hj)
    rw [← hm, hcand, hrel, hspeed, hcfg'] at hp
    rw [← hm, hspeed, hfaults, State.seconds, hclock] at hf
    exact ⟨ht.demand.trans (congrArg Speed.demand hp), ht.dwell.trans (congrArg Speed.dwell hp),
      ht.detectionLost.trans (congrArg Speed.detectionLost hp), ht.faults.trans hf⟩
  · have hd : u.demandTaken = u := if_neg (by rw [hmode', hw]; exact nofun)
    rw [show r.measured.demandTaken = u from hd] at ht
    exact ⟨ht.demand.trans (congrArg Speed.demand hspeed), ht.dwell.trans (congrArg Speed.dwell hspeed), ht.faults.trans hfaults,
      (congrArg Station.firstEvaluation hstation).trans (hmark hw)⟩
  · have hq : u.demandTaken.judgedQueue = s.queue.judged e.queueCondition s.cfg.confirmCount s.cfg.clearDwell (s.clock + dt) := by
      have hd := u.demandTaken_same
      have hdc : u.demandTaken.cfg = u.cfg := State.cfg_congr (hd .station (by decide))
      have hdq : u.demandTaken.queueCondition = u.queueCondition :=
        State.queueCondition_congr (hd .measures (by decide)) hdc
      unfold State.judgedQueue
      rw [show u.demandTaken.queue = _ from hd .queue (by decide), show u.demandTaken.clock = _ from hd .clock (by decide),
        hdq, hdc, hqueue, hclock, hcond, hcfg']
    exact hq ▸ ht.queue

/-- Settles O34: the functions of the evaluation, then the evaluation that the last INTERVAL completion makes. -/
theorem stationEvaluationFollowsTheLastInterval : Obligations.StationEvaluationFollowsTheLastInterval := by
  constructor
  · intro s runs lane reaches
    have hruns (k : Lane) : s.runsForMeasurement k = true ↔ runs k := s.runsForMeasurement_iff k
    have hreaches (k : Nat) : s.qualifies k = true ↔ reaches k := s.qualifies_iff k
    obtain ⟨hle, hq, hhigh⟩ := s.candidate_spec
    refine ⟨fun v => ?_, fun o => ?_, hle, fun h1 => (hreaches _).mp (hq h1), fun k hk h6 hr => hhigh k hk h6 ((hreaches k).mpr hr),
      s.releaseHolds_iff, s.queueCondition_iff⟩
    · rw [s.stationSpeed_eq_some v]
      simp only [hruns]
      exact Iff.rfl
    · rw [s.stationOccupancy_eq_some o]
      simp only [hruns]
      exact Iff.rfl
  · intro dt o s k x rest h hl
    obtain ⟨t, hexec, hjudged⟩ := exec_intervalRequestCompletion_judged dt o s k x rest h hl
    refine ⟨t, hexec, ?_⟩
    intro e
    obtain ⟨hs, ho, hdemand, hwarm, hqueue, hurgent, hsame⟩ := hjudged
    have present (hm : t.measures.speed ≠ none ∨ t.measures.occupancy ≠ none) :=
      s.speed.judged_of_measure t.measures e.candidate s.cfg.dwellCount e.releaseHolds hm
    refine ⟨hs, ho, fun hj hm hc => ?_, fun hj hm hc hr => ?_, fun hj hm hc hr => ?_, fun hj h1 h2 => ?_, fun hj hm => ?_, hwarm,
      fun hq hn => ?_, fun hq hn hc => ?_, fun hq hn hc => ?_, fun hq hn => ?_, fun hq hn hc => ?_, fun hq hn hc hf => ?_, hurgent,
      hsame⟩
    · obtain ⟨hd, hw, -, -⟩ := hdemand hj
      obtain ⟨hrise, -, -, -⟩ := present hm
      exact hd ▸ hw ▸ hrise hc
    · obtain ⟨hd, hw, -, -⟩ := hdemand hj
      obtain ⟨-, hcount, -, -⟩ := present hm
      exact hd ▸ hw ▸ hcount hc hr
    · obtain ⟨hd, hw, -, -⟩ := hdemand hj
      obtain ⟨-, -, hhold, -⟩ := present hm
      exact hd ▸ hw ▸ hhold hc hr
    · obtain ⟨hd, hw, hlost, hf⟩ := hdemand hj
      rw [Speed.judged_of_none _ _ _ _ _ h1 h2] at hd hw hlost
      exact ⟨hd, hw, hlost, hf.trans (FaultList.judged_of_none _ _ _ _ h1 h2)⟩
    · obtain ⟨-, -, hlost, hf⟩ := hdemand hj
      obtain ⟨-, -, -, hfound⟩ := present hm
      exact ⟨hlost.trans hfound, hf.trans (FaultList.judged_of_measure _ _ _ _ hm)⟩
    · rw [QueueMonitor.judged_of_clear _ _ _ _ _ hq, if_neg (Bool.eq_false_iff.mp hn)] at hqueue
      exact hqueue
    · rw [QueueMonitor.judged_of_clear _ _ _ _ _ hq, if_pos hn, if_pos hc] at hqueue
      exact hqueue
    · rw [QueueMonitor.judged_of_clear _ _ _ _ _ hq, if_pos hn, if_neg hc] at hqueue
      exact hqueue
    · rw [QueueMonitor.judged_of_present _ _ _ _ _ hq, if_pos hn] at hqueue
      exact hqueue
    · rw [QueueMonitor.judged_of_present _ _ _ _ _ hq, if_neg (Bool.eq_false_iff.mp hn),
        if_neg (fun hd => hc.elim (absurd hd.1 ∘ Nat.not_le_of_lt) hd.2)] at hqueue
      exact hqueue
    · rw [QueueMonitor.judged_of_present _ _ _ _ _ hq, if_neg (Bool.eq_false_iff.mp hn),
        if_pos ⟨hc, fun hd => hf.elim (absurd hd.1) (absurd hd.2)⟩] at hqueue
      exact hqueue

end Sys2Proof.Machine
end

section
/-!
PROOFS. The places of the request queue (R20, R21, R28): the operations that leave the requests alone.
-/
namespace Sys2Proof.Machine

/-! ### Shared operations -/

theorem State.noteDisplacement_requests (s : State) (d : Lanes (Option Displacement)) :
    (s.noteDisplacement d).requests = s.requests := s.noteDisplacement_same d .requests (by decide)

theorem State.tryCommit_requests (s : State) : s.tryCommit.requests = s.requests := s.tryCommit_same .requests (by decide)

theorem State.moveShoulder_requests (s : State) (x : Shoulder) : (s.moveShoulder x).requests = s.requests :=
  s.moveShoulder_same x .requests (by decide)

theorem State.abortCheck_requests (s : State) : s.abortCheck.requests = s.requests := s.abortCheck_same .requests (by decide)

theorem State.enterFailed_requests (s : State) (c : Chan) (r : FailureReason) (endFirst : Bool) :
    (s.enterFailed c r endFirst).requests = s.requests := s.enterFailed_same c r endFirst .requests (by decide)

theorem State.enterMismatch_requests (s : State) (c : Chan) (endFirst : Bool) :
    (s.enterMismatch c endFirst).requests = s.requests := s.enterMismatch_same c endFirst .requests (by decide)

theorem State.serveSome_requests (s before : State) (rs : List Reader) : (s.serveSome before rs).requests = s.requests :=
  s.serveSome_same before rs .requests (by decide)

theorem State.settle_requests (s before : State) (late : List Reader) : (s.settle before late).requests = s.requests :=
  s.settle_same before late .requests (by decide)

theorem State.putClosure_requests (s : State) (p : Pos) (c : Option Closure) : (s.putClosure p c).requests = s.requests :=
  s.putClosure_same p c .requests (by decide)

theorem State.insertClosure_requests (s : State) (c : Closure) : (s.insertClosure c).requests = s.requests :=
  s.insertClosure_same c .requests (by decide)

theorem State.finishRecord_requests (s : State) (r : VehicleRecord) : (s.finishRecord r).requests = s.requests :=
  s.finishRecord_same r .requests (by decide)

/-! ### The reception of a frame -/

/-- A frame touches the requests only through its delivery. -/
theorem State.receive_requests (s : State) (f : Frame) (o : Order) (deliver : State → State)
    (h : ∀ t, (deliver t).requests = t.requests) : (s.receive f o deliver).requests = s.requests := by
  unfold State.receive
  split
  · split
    · rfl
    · dsimp only
      rw [State.settle_requests, h, State.serveSome_requests]
      exact State.noteArrival_same _ _ .requests (by decide)
  · rfl

/-- A command of the gateway touches the requests only through its owner. -/
theorem State.command_requests (s : State) (c : Command) (body : List Octet) (o : Order) (inFault : Bool)
    (owner : State → State × ResultCode) (h : ∀ t, (owner t).1.requests = t.requests) :
    (s.command c body o inFault owner).requests = s.requests := by
  refine s.receive_requests _ o _ fun t => ?_
  unfold State.obey
  split
  · split
    · exact h t
    · rfl
  · rfl

theorem State.storeRecord_requests (s : State) (n : Nat) (r : StatusRecord) : (s.storeRecord n r).requests = s.requests := by
  unfold State.storeRecord
  split <;> rfl

theorem State.learnClosure_requests (s : State) (c : Closure) : (s.learnClosure c).requests = s.requests := by
  unfold State.learnClosure
  split
  · exact s.insertClosure_requests c
  · split
    · split
      · rfl
      · exact s.putClosure_requests _ _
    · exact s.putClosure_requests _ _

theorem State.absentClosure_requests (s : State) (n : Nat) : (s.absentClosure n).requests = s.requests := by
  unfold State.absentClosure
  split
  · split
    · exact s.putClosure_requests _ _
    · rfl
  · rfl

theorem State.learn_requests (s : State) (n : Nat) (r : StatusRecord) : (s.learn n r).requests = s.requests := by
  unfold State.learn
  split
  · split
    · split
      · exact s.learnClosure_requests _
      · exact s.absentClosure_requests n
    · exact s.absentClosure_requests n
  · rfl

theorem State.takeStatus_requests (s before : State) (n : Nat) (body : List Octet) (o : Order) :
    (s.takeStatus before n body o).requests = s.requests := by
  unfold State.takeStatus
  split
  · split
    · next r _ =>
      rcases s.inOrder_cases before o (fun t => t.storeRecord n r) (fun t => t.learn n r) with ⟨-, e⟩ | ⟨-, e⟩
      · rw [e, State.learn_requests, State.serveSome_requests, State.storeRecord_requests]
      · rw [e, State.storeRecord_requests, State.serveSome_requests, State.learn_requests]
    · rfl
  · rfl

/-! ### The owners of commands -/

theorem State.closeSet_requests (s : State) (c : Closure) : (s.closeSet c).1.requests = s.requests := by
  unfold State.closeSet
  split
  · rfl
  · split
    · exact s.insertClosure_requests c
    · exact s.putClosure_requests _ _

theorem State.closeClear_requests (s : State) (origin serial : Nat) : (s.closeClear origin serial).1.requests = s.requests := by
  unfold State.closeClear
  split
  · rfl
  · split
    · rfl
    · split
      · exact s.putClosure_requests _ _
      · rfl

theorem State.takeOpen_requests (s : State) : s.takeOpen.1.requests = s.requests := by
  unfold State.takeOpen
  split
  · rfl
  · split
    · split
      · rfl
      · exact s.moveShoulder_requests _
    · rfl
    · rfl
    · split
      · rfl
      · exact s.moveShoulder_requests _

theorem State.takeClose_requests (s : State) : s.takeClose.1.requests = s.requests := by
  unfold State.takeClose
  split
  · rfl
  · split
    · rfl
    · exact s.moveShoulder_requests _
    · exact s.moveShoulder_requests _
    · rfl

theorem State.takeOtherAction_requests (s : State) : s.takeOtherAction.1.requests = s.requests := by
  unfold State.takeOtherAction
  split <;> rfl

theorem State.takeOverride_requests (s : State) (step legend minutes : Nat) :
    (s.takeOverride step legend minutes).1.requests = s.requests := by
  unfold State.takeOverride
  split
  · rfl
  · split
    · rfl
    · split <;> rfl

theorem State.acknowledgeKey_requests (s : State) (code unit : Nat) : (s.acknowledgeKey code unit).1.requests = s.requests := by
  unfold State.acknowledgeKey
  split <;> rfl

theorem State.answer_requests (s : State) (bodies : List (List Octet)) : (s.answer bodies).1.requests = s.requests := by
  unfold State.answer
  split <;> rfl

theorem State.startTrace_requests (s : State) (lane count : Nat) : (s.startTrace lane count).1.requests = s.requests := by
  unfold State.startTrace
  split
  · rfl
  · split <;> rfl

/-! ### Sign channels and station control -/

theorem State.clearReason_requests (s : State) (c : Chan) (raised : Option FaultKind) (endFirst : Bool) :
    (s.clearReason c raised endFirst).requests = s.requests := by
  unfold State.clearReason
  split
  · exact s.exchangeFaults_same _ _ _ _ .requests (by decide)
  · rfl
  · rfl
  · rfl

theorem State.prove_requests (s : State) (c : Chan) (raised : Option FaultKind) (endFirst : Bool) :
    (s.prove c raised endFirst).requests = s.requests := s.clearReason_requests c raised endFirst

theorem State.retry_requests (s : State) (c : Chan) : (s.retry c).requests = s.requests :=
  (State.noteDisplacement_requests _ _).trans (s.beginAttempt_same c .requests (by decide))

theorem foldl_requests {α : Type} {f : State → α → State} (h : ∀ s a, (f s a).requests = s.requests) (l : List α) (s : State) :
    (l.foldl f s).requests = s.requests := by
  induction l generalizing s with
  | nil => rfl
  | cons a as ih => exact (ih (f s a)).trans (h s a)

theorem State.raiseImageFaults_requests (s : State) (image : List Octet) (c : StationConfig) :
    (s.raiseImageFaults image c).requests = s.requests := by
  have hclamps : ((clampedFields image).foldl (fun t n => t.raiseFault .configClamped n) s).requests = s.requests :=
    foldl_requests (f := fun t n => t.raiseFault .configClamped n) (fun _ _ => rfl) _ s
  unfold State.raiseImageFaults
  dsimp only
  split
  · split <;> exact hclamps
  · split <;> exact hclamps

theorem State.enterConfigFault_requests (s : State) : s.enterConfigFault.requests = s.requests := by
  unfold State.enterConfigFault
  dsimp only
  split <;> rfl

theorem State.handOver_requests (s : State) : s.handOver.requests = s.requests := by
  refine foldl_requests (fun t c => ?_) _ _
  unfold State.handOverChannel
  split <;> rfl

theorem State.judgeImage_requests (s : State) (image : List Octet) : (s.judgeImage image).requests = s.requests := by
  unfold State.judgeImage
  dsimp only
  split
  · exact (State.handOver_requests _).trans (State.raiseImageFaults_requests _ _ _)
  · exact (State.enterConfigFault_requests _).trans (State.raiseImageFaults_requests _ _ _)

theorem State.restoreSlot_requests (s : State) (p : Pos) : (s.restoreSlot p).requests = s.requests := by
  unfold State.restoreSlot
  split
  · rfl
  · exact s.markDirty_same p .requests (by decide)
  · exact State.markDirty_same _ p .requests (by decide)
  · rfl

theorem State.startWrite_requests (s : State) : s.startWrite.requests = s.requests := s.startWrite_same .requests (by decide)

theorem State.evaluateDemand_requests (s : State) : s.evaluateDemand.requests = s.requests := by
  unfold State.evaluateDemand
  split
  · dsimp only
    split <;> rfl
  · dsimp only
    split <;> rfl

end Sys2Proof.Machine
end

section
/-!
PROOFS. The places of the request queue (R20, R21, R28): which commands leave the requests, and how those of the detector unit
and the arithmetic unit keep the shares.
-/
namespace Sys2Proof.Machine

/-! ### The shares of the queue -/

/-- Every request is a VEHICLE request or the INTERVAL request of one lane. -/
theorem requests_length (q : List Request) :
    q.length = vehicleCount q + q.countP (Request.isIntervalOf .l1) + q.countP (Request.isIntervalOf .l2) +
      q.countP (Request.isIntervalOf .l3) + q.countP (Request.isIntervalOf .l4) + q.countP (Request.isIntervalOf .l5) := by
  unfold vehicleCount
  induction q with
  | nil => rfl
  | cons r q ih =>
    cases r with
    | vehicle v =>
      simp only [List.length_cons, List.countP_cons, Request.isVehicle, Request.isIntervalOf, if_true, Bool.false_eq_true, if_false]
      omega
    | interval k x =>
      cases k <;>
        simp only [List.length_cons, List.countP_cons, Request.isVehicle, Request.isIntervalOf, Bool.false_eq_true, if_false,
          beq_self_eq_true, if_true, reduceCtorEq, beq_iff_eq] <;>
        omega

/-- The 12 places are the sum of the shares (R20). -/
theorem requestsSound_iff (q : List Request) :
    requestsSound q ↔ vehicleCount q ≤ 7 ∧ ∀ k, q.countP (Request.isIntervalOf k) ≤ 1 := by
  constructor
  · rintro ⟨-, hv, hi⟩
    exact ⟨hv, fun k => hi k (Lane.mem_all k)⟩
  · rintro ⟨hv, hi⟩
    have h1 := hi .l1
    have h2 := hi .l2
    have h3 := hi .l3
    have h4 := hi .l4
    have h5 := hi .l5
    exact ⟨by rw [requests_length]; omega, hv, fun k _ => hi k⟩

theorem requestsSound_nil : requestsSound [] := (requestsSound_iff []).mpr ⟨Nat.zero_le _, fun _ => Nat.zero_le _⟩

/-- A VEHICLE request takes one of the 7 places (R21). -/
theorem requestsSound_append_vehicle (q : List Request) (v : VehicleRequest) (hq : requestsSound q) (h : vehicleCount q < 7) :
    requestsSound (q ++ [.vehicle v]) := by
  rw [requestsSound_iff] at *
  obtain ⟨-, hi⟩ := hq
  refine ⟨?_, fun k => ?_⟩
  · rw [vehicleCount, List.countP_append]
    exact h
  · rw [List.countP_append]
    exact hi k

/-- A request that completes frees its place (R20). -/
theorem requestsSound_tail (r : Request) (rest : List Request) (h : requestsSound (r :: rest)) : requestsSound rest := by
  rw [requestsSound_iff] at *
  obtain ⟨hv, hi⟩ := h
  have hsub := List.sublist_cons_self r rest
  exact ⟨(hsub.countP_le).trans hv, fun k => (hsub.countP_le).trans (hi k)⟩

/-- Each lane has one place for its INTERVAL request, and its sums are merged while that is taken (R28). -/
theorem requestsSound_handTo (q : List Request) (k : Lane) (x : Snapshot) (h : requestsSound q) : requestsSound (handTo q k x) := by
  rw [requestsSound_iff] at *
  obtain ⟨hv, hi⟩ := h
  refine ⟨?_, fun j => ?_⟩
  · rw [vehicleCount, List.countP_eq_length_filter, handTo_vehicles, ← List.countP_eq_length_filter]
    exact hv
  · rw [List.countP_eq_length_filter]
    by_cases hj : j = k
    · subst hj
      rw [handTo_self]
      split
      · rw [List.length_map, ← List.countP_eq_length_filter]
        exact hi j
      · exact Nat.le_refl 1
    · rw [handTo_other q x hj, ← List.countP_eq_length_filter]
      exact hi j

/-! ### Steps that keep the places -/

/-- The second state keeps the queue within its places if the first does. -/
def State.KeepsPlaces (s t : State) : Prop := requestsSound s.requests → requestsSound t.requests

theorem State.KeepsPlaces.of_eq {s t : State} (h : t.requests = s.requests) : s.KeepsPlaces t := fun hs => h ▸ hs

theorem State.KeepsPlaces.trans {s t u : State} (h : s.KeepsPlaces t) (k : t.KeepsPlaces u) : s.KeepsPlaces u := fun hs => k (h hs)

theorem State.KeepsPlaces.foldl {α : Type} {f : State → α → State} (h : ∀ (s : State) a, s.KeepsPlaces (f s a))
    (l : List α) (s : State) :
    s.KeepsPlaces (l.foldl f s) := by
  induction l generalizing s with
  | nil => exact id
  | cons a as ih => exact (h s a).trans (ih (f s a))

/-- A command's outcome keeps the queue within its places. -/
def PlacesKept (s : State) (r : Result) : Prop := ∀ t, r = .next t → s.KeepsPlaces t

theorem PlacesKept.next {s t : State} (h : s.KeepsPlaces t) : PlacesKept s (.next t) := by
  rintro _ ⟨⟩
  exact h

theorem PlacesKept.same {s t : State} (h : t.requests = s.requests) : PlacesKept s (.next t) := .next (.of_eq h)

/-- A command whose condition does not hold lets time pass and keeps the requests. -/
theorem PlacesKept.idle {s : State} {dt : Nat} : PlacesKept s (.next (s.advance dt)) := .same rfl

theorem PlacesKept.guarded {s t : State} {dt : Nat} {c : Prop} [Decidable c] (h : s.KeepsPlaces t) :
    PlacesKept s (if c then .next t else .next (s.advance dt)) := by
  split
  · exact .next h
  · exact .idle

/-- A command that leaves the requests where its condition holds leaves them. -/
theorem PlacesKept.guardedSame {s t : State} {dt : Nat} {c : Prop} [Decidable c] (h : t.requests = s.requests) :
    PlacesKept s (if c then .next t else .next (s.advance dt)) := .guarded (.of_eq h)

/-! ### Vehicles complete (R12, R13) -/

theorem State.completeVehicle_keeps (s : State) (k : Lane) (a : Arrival) : s.KeepsPlaces (s.completeVehicle k a) := by
  rcases s.completeVehicle_cases k a with ⟨-, e⟩ | ⟨-, e⟩ | ⟨b, -, -, ⟨hc, e⟩ | ⟨-, e⟩⟩
  · exact .of_eq (by rw [e, State.finishRecord_requests]; rfl)
  · exact .of_eq (by rw [e, State.finishRecord_requests]; rfl)
  · intro hs
    rw [e]
    exact requestsSound_append_vehicle _ _ hs hc
  · exact .of_eq (by rw [e, State.finishRecord_requests]; rfl)

theorem State.completeSingle_requests (s : State) (k : Lane) (a : Arrival) : (s.completeSingle k a).requests = s.requests :=
  State.finishRecord_requests _ _

theorem State.drainArrivals_keeps (s : State) (k : Lane) : s.KeepsPlaces (s.drainArrivals k) :=
  .foldl (fun t a => t.completeVehicle_keeps k a) _ (s.setArrivals k _)

theorem State.appendArrival_keeps (s : State) (k : Lane) (on : Tick) : s.KeepsPlaces (s.appendArrival k on) := by
  unfold State.appendArrival
  dsimp only
  split
  · exact (State.setArrivals s k _).drainArrivals_keeps k
  · exact .of_eq rfl

theorem State.settleMode_keeps (s : State) (k : Lane) (moment : Tick) : s.KeepsPlaces (s.settleMode k moment) := by
  unfold State.settleMode
  dsimp only
  split
  · exact .of_eq rfl
  · have hcomplete (u : State) (l : List Arrival) : u.KeepsPlaces (l.foldl (fun t a => t.completeVehicle k a) u) :=
      .foldl (fun t a => t.completeVehicle_keeps k a) l u
    split
    · refine State.KeepsPlaces.trans ((State.KeepsPlaces.of_eq ?_).trans (hcomplete _ _)) (.of_eq (State.abortCheck_requests _))
      rfl
    · refine State.KeepsPlaces.trans (.of_eq ?_) (hcomplete _ _)
      rfl

/-! ### The edges of a presence (R3, R9 to R13) -/

theorem State.takeOnEdge_keeps (s : State) (l : Loop) (on : Tick) : s.KeepsPlaces (s.takeOnEdge l on) := by
  unfold State.takeOnEdge
  dsimp only
  generalize hu : (if (s.detector.lanes.get l.lane).mode.counting = some l.side then _ else s) = u
  have hkeep : s.KeepsPlaces (if l.lane = .l1 then u.abortCheck else u) := by
    have h1 : u.requests = s.requests := by
      subst hu
      split <;> rfl
    split
    · exact .of_eq ((State.abortCheck_requests _).trans h1)
    · exact .of_eq h1
  split
  · exact hkeep.trans (State.appendArrival_keeps _ _ _)
  · refine hkeep.trans ((State.KeepsPlaces.of_eq ?_).trans (State.drainArrivals_keeps _ l.lane))
    rfl
  · exact hkeep
  · exact hkeep
  · exact hkeep

theorem State.qualify_keeps (s : State) (l : Loop) (p : Presence) : s.KeepsPlaces (s.qualify l p) := by
  unfold State.qualify
  dsimp only
  split
  · exact (s.setLoop l _).takeOnEdge_keeps l p.on
  · exact .of_eq rfl

theorem State.qualifyInOrder_keeps (s : State) (l : Loop) (p : Presence) : s.KeepsPlaces (s.qualifyInOrder l p) := by
  rcases s.qualifyInOrder_cases l p with ⟨q, -, -, -, -, -, e⟩ | ⟨-, e⟩
  · exact e ▸ (s.qualify_keeps _ q).trans (State.qualify_keeps _ l p)
  · exact e ▸ s.qualify_keeps l p

theorem State.releaseSingle_keeps (s : State) (k : Lane) (pairedCounts : Bool) : s.KeepsPlaces (s.releaseSingle k pairedCounts) := by
  unfold State.releaseSingle
  split
  · exact .of_eq rfl
  · dsimp only
    split
    · exact (s.setArrivals k []).completeVehicle_keeps k _
    · exact .of_eq (State.completeSingle_requests _ _ _)

theorem State.takeRelease_keeps (s : State) (l : Loop) : s.KeepsPlaces (s.takeRelease l) := by
  unfold State.takeRelease
  dsimp only
  generalize hu : (if (s.detector.lanes.get l.lane).mode.counting = some l.side then _ else s) = u
  have h1 : s.KeepsPlaces u := by
    subst hu
    split <;> exact .of_eq rfl
  split
  · exact h1.trans ((u.setArrivals l.lane _).drainArrivals_keeps l.lane)
  · exact h1.trans (u.releaseSingle_keeps _ _)
  · exact h1.trans (u.releaseSingle_keeps _ _)
  · exact h1

theorem State.releaseQualified_keeps (s : State) (l : Loop) : s.KeepsPlaces (s.releaseQualified l) := by
  unfold State.releaseQualified
  dsimp only
  split
  · exact (s.setLoop l _).takeRelease_keeps l
  · exact .of_eq rfl
  · refine State.KeepsPlaces.trans (.of_eq ?_) (State.settleMode_keeps _ l.lane s.tick)
    rfl

theorem State.KeepsPlaces.settle {s t before : State} {late : List Reader} (h : s.KeepsPlaces t) :
    s.KeepsPlaces (t.settle before late) := h.trans (.of_eq (t.settle_requests before late))

theorem execLoopPresenceStart_places (dt : Nat) (l : Loop) (s : State) : PlacesKept s (execLoopPresenceStart dt l s) := by
  unfold execLoopPresenceStart
  dsimp only
  split
  · exact .idle
  · split
    · exact .same rfl
    · exact .same rfl

theorem execQualifiedOnEdge_places (dt : Nat) (l : Loop) (s : State) : PlacesKept s (execQualifiedOnEdge dt l s) := by
  unfold execQualifiedOnEdge
  dsimp only
  split
  · exact .guarded ((s.advance dt).qualifyInOrder_keeps l _).settle
  · exact .idle

theorem execReleaseEdge_places (dt : Nat) (l : Loop) (s : State) : PlacesKept s (execReleaseEdge dt l s) := by
  unfold execReleaseEdge
  dsimp only
  split
  · split
    · split
      · split
        · exact .next (((s.advance dt).setInput l false).releaseQualified_keeps l).settle
        · split
          · exact .next ((((s.advance dt).setInput l false).qualifyInOrder_keeps l _).trans (State.releaseQualified_keeps _ l)).settle
          · exact .same rfl
      · exact .same rfl
    · exact .same rfl
  · exact .idle

theorem execPresenceTimeout_places (dt : Nat) (l : Loop) (endFirst : Bool) (s : State) :
    PlacesKept s (execPresenceTimeout dt l endFirst s) := by
  unfold execPresenceTimeout
  dsimp only
  split
  · refine .guarded (State.KeepsPlaces.trans (.of_eq ?_) (State.settleMode_keeps _ _ _)).settle
    split
    · split <;> rfl
    · refine (State.exchangeFaults_same _ _ _ _ _ .requests (by decide)).trans ?_
      split <;> rfl
    · split <;> rfl
  · exact .idle

/-! ### The interval end (R16, R28) -/

theorem State.closeInterval_keeps (s : State) (stop : Tick) (lanes : List Lane) (loops : List Loop) :
    s.KeepsPlaces (s.closeInterval stop lanes loops) := by
  have hopened : s.KeepsPlaces (s.opened stop lanes loops) := by
    unfold State.KeepsPlaces
    rw [s.opened_requests]
    intro hs
    generalize s.requests = q at hs
    induction s.laneList generalizing q with
    | nil => exact hs
    | cons k ks ih => exact ih _ (requestsSound_handTo q k _ hs)
  rw [s.closeInterval_eq]
  exact hopened.trans (.foldl (fun t k => t.settleMode_keeps k stop) _ _)

theorem execIntervalEnd_places (dt : Nat) (lanes : List Lane) (loops : List Loop) (s : State) :
    PlacesKept s (execIntervalEnd dt lanes loops s) := by
  unfold execIntervalEnd
  dsimp only
  split
  · exact .guarded ((s.advance dt).closeInterval_keeps _ lanes loops).settle
  · exact .idle

/-! ### The arithmetic unit (R20, R23) -/

theorem PlacesKept.completed {s t : State} {r : Request} {rest : List Request} {u : Result} (hq : s.requests = r :: rest)
    (hu : u = .next t) (ht : t.requests = rest) : PlacesKept s u := by
  subst hu
  refine .next fun hs => ?_
  rw [hq] at hs
  rw [ht]
  exact requestsSound_tail r rest hs

theorem vehicleRequestCompletion_places (dt : Nat) (o : Order) (s : State) :
    PlacesKept s (exec (.vehicleRequestCompletion dt o) s) := by
  cases hq : s.requests with
  | nil =>
    have hidle : exec (.vehicleRequestCompletion dt o) s = .next (s.advance dt) := by
      have hq' : (s.advance dt).requests = [] := hq
      rw [exec_vehicleRequestCompletion_eq, execVehicleRequestCompletion]
      simp only [hq']
    exact hidle ▸ .idle
  | cons r rest =>
    cases r with
    | vehicle r =>
      rcases Nat.eq_zero_or_pos r.transit with h0 | h1
      · obtain ⟨t, he, -, ht, -⟩ := exec_vehicleRequestCompletion_zero dt o s r rest hq h0
        exact .completed hq he ht
      · obtain ⟨t, he, -, ht, -⟩ := exec_vehicleRequestCompletion_blocks dt o s r rest hq h1
        exact .completed hq he ht
    | interval k x =>
      have hidle : exec (.vehicleRequestCompletion dt o) s = .next (s.advance dt) := by
        have hq' : (s.advance dt).requests = .interval k x :: rest := hq
        rw [exec_vehicleRequestCompletion_eq, execVehicleRequestCompletion]
        simp only [hq']
      exact hidle ▸ .idle

theorem intervalRequestCompletion_places (dt : Nat) (o : Order) (s : State) :
    PlacesKept s (exec (.intervalRequestCompletion dt o) s) := by
  cases hq : s.requests with
  | nil =>
    have hidle : exec (.intervalRequestCompletion dt o) s = .next (s.advance dt) := by
      have hq' : (s.advance dt).requests = [] := hq
      rw [exec_intervalRequestCompletion_eq, execIntervalRequestCompletion]
      simp only [hq']
    exact hidle ▸ .idle
  | cons r rest =>
    cases r with
    | vehicle r =>
      have hidle : exec (.intervalRequestCompletion dt o) s = .next (s.advance dt) := by
        have hq' : (s.advance dt).requests = .vehicle r :: rest := hq
        rw [exec_intervalRequestCompletion_eq, execIntervalRequestCompletion]
        simp only [hq']
      exact hidle ▸ .idle
    | interval k x =>
      obtain ⟨t, he, -, ht, -⟩ := intervalRequestCompletes dt o s k x rest hq
      exact .completed hq he ht

/-! ### The line interface and the neighbour table -/

theorem execTransmitStart_places (dt : Nat) (s : State) : PlacesKept s (execTransmitStart dt s) := by
  unfold execTransmitStart
  dsimp only
  split
  · split
    · exact .same rfl
    · exact .idle
  · exact .idle

theorem execArbitrationLost_places (dt : Nat) (mark : LostMark) (s : State) : PlacesKept s (execArbitrationLost dt mark s) := by
  unfold execArbitrationLost
  dsimp only
  split
  · exact .guardedSame rfl
  · exact .idle

theorem execTransmitAbort_places (dt : Nat) (cause : AbortCause) (s : State) : PlacesKept s (execTransmitAbort dt cause s) := by
  unfold execTransmitAbort
  dsimp only
  split
  · exact .guardedSame rfl
  · exact .idle

theorem execTransmitComplete_places (sent : SentMarks) (s : State) : PlacesKept s (execTransmitComplete sent s) := by
  unfold execTransmitComplete
  dsimp only
  split
  · exact .guardedSame rfl
  · exact .idle

theorem execArbitrationWon_places (sent : SentMarks) (s : State) : PlacesKept s (execArbitrationWon sent s) := by
  unfold execArbitrationWon
  dsimp only
  split
  · exact .guardedSame rfl
  · exact .idle

theorem execLapse_places (dt : Nat) (holds : List Nat) (s : State) : PlacesKept s (execLapse dt holds s) := by
  unfold execLapse
  dsimp only
  split
  · exact .guardedSame rfl
  · exact .idle

theorem execFrameAborted_places (dt : Nat) (holds : List Nat) (s : State) : PlacesKept s (execFrameAborted dt holds s) := by
  unfold execFrameAborted
  dsimp only
  split
  · exact .same rfl
  · exact .idle

theorem execFrameLengthRejected_places (dt : Nat) (holds : List Nat) (s : State) :
    PlacesKept s (execFrameLengthRejected dt holds s) := by
  unfold execFrameLengthRejected
  dsimp only
  split
  · exact .same rfl
  · exact .idle

theorem execFirstHoldWrongClass_places (dt held : Nat) (s : State) : PlacesKept s (execFirstHoldWrongClass dt held s) := by
  unfold execFirstHoldWrongClass
  dsimp only
  split
  · exact .same rfl
  · exact .idle

theorem execLineStuck_places (dt : Nat) (holds : List Nat) (o : Order) (s : State) : PlacesKept s (execLineStuck dt holds o s) := by
  refine .guardedSame ((State.settle_requests _ _ _).trans ?_)
  split
  · exact State.becomeIsolated_same _ .requests (by decide)
  · rfl

theorem execNeighbourExpiry_places (dt : Nat) (station : Nat) (s : State) : PlacesKept s (execNeighbourExpiry dt station s) := by
  unfold execNeighbourExpiry
  dsimp only
  split
  · exact .guardedSame rfl
  · exact .idle

theorem execNeighbourRemoval_places (dt : Nat) (station : Nat) (o : Order) (s : State) :
    PlacesKept s (execNeighbourRemoval dt station o s) := by
  unfold execNeighbourRemoval
  dsimp only
  split
  · exact .guardedSame (State.settle_requests _ _ _)
  · exact .idle

/-! ### The commands of the centre -/

theorem State.command_places (s : State) (dt : Nat) (c : Command) (body : List Octet) (o : Order) (inFault : Bool)
    (owner : State → State × ResultCode) (h : ∀ t, (owner t).1.requests = t.requests) :
    PlacesKept s (.next ((s.advance dt).command c body o inFault owner)) :=
  .same ((s.advance dt).command_requests c body o inFault owner h)

theorem execCommandNotAddressed_places (dt : Nat) (kind : BitVec 4) (body : List Octet) (s : State) :
    PlacesKept s (execCommandNotAddressed dt kind body s) := by
  have hheard (f : Frame) : PlacesKept s (.next ((s.advance dt).receive f Order.plain (fun t => t))) :=
    .same ((s.advance dt).receive_requests f Order.plain _ fun _ => rfl)
  unfold execCommandNotAddressed
  dsimp only
  split
  · split
    · split
      · exact .idle
      · exact hheard _
    · exact hheard _
  · exact .idle

theorem execShoulderOtherAction_places (dt : Nat) (low high action : Octet) (s : State) :
    PlacesKept s (execShoulderOtherAction dt low high action s) := by
  unfold execShoulderOtherAction
  dsimp only
  split
  · exact .idle
  · exact s.command_places dt _ _ _ _ _ State.takeOtherAction_requests

theorem execFaultAck_places (dt : Nat) (station kind unit : Octet) (s : State) : PlacesKept s (execFaultAck dt station kind unit s) := by
  unfold execFaultAck
  dsimp only
  split
  · exact .idle
  · exact s.command_places dt _ _ _ _ _ fun t => t.acknowledgeKey_requests _ _

theorem execRequestOtherType_places (dt : Nat) (station type lane count : Octet) (s : State) :
    PlacesKept s (execRequestOtherType dt station type lane count s) := by
  unfold execRequestOtherType
  dsimp only
  split
  · exact .idle
  · exact s.command_places dt _ _ _ _ _ fun _ => rfl

/-! ### Sign channels -/

theorem execIdentity_places (dt : Nat) (c : Chan) (kind : Octet) (check : BitVec 16) (endFirst : Bool) (s : State) :
    PlacesKept s (execIdentity dt c kind check endFirst s) := by
  unfold execIdentity
  dsimp only
  split
  · split
    · split
      · exact .same rfl
      · exact .same (State.enterMismatch_requests _ _ _)
    · split
      · split
        · exact .same rfl
        · exact .same ((State.tryCommit_requests _).trans (State.enterMismatch_requests _ _ _))
      · exact .idle
  · exact .idle

theorem execProvingReport_places (dt : Nat) (c : Chan) (set result : Octet) (check : BitVec 16) (endFirst : Bool) (s : State) :
    PlacesKept s (execProvingReport dt c set result check endFirst s) := by
  unfold execProvingReport
  dsimp only
  split
  · split
    · exact .same ((State.tryCommit_requests _).trans (State.prove_requests _ _ _ _))
    · exact .same ((State.tryCommit_requests _).trans (State.prove_requests _ _ _ _))
    · exact .same ((State.tryCommit_requests _).trans (State.enterFailed_requests _ _ _ _))
    · exact .idle
  · exact .idle

theorem execRestartNotice_places (dt : Nat) (c : Chan) (kind : Octet) (check : BitVec 16) (endFirst : Bool) (s : State) :
    PlacesKept s (execRestartNotice dt c kind check endFirst s) := by
  have hagain : PlacesKept s (.next (if kind = expectedKind c then ((s.advance dt).markIdentified c).retry c
      else (s.advance dt).enterMismatch c endFirst)) := by
    split
    · exact .same (State.retry_requests _ _)
    · exact .same (State.enterMismatch_requests _ _ _)
  unfold execRestartNotice
  dsimp only
  split
  · split
    · exact .same rfl
    · split
      · split
        · exact .idle
        · split
          · exact .same rfl
          · exact .same (State.enterMismatch_requests _ _ _)
        · split
          · exact .same rfl
          · exact .same ((State.tryCommit_requests _).trans (State.enterMismatch_requests _ _ _))
        · exact hagain
        · exact hagain
        · exact .same rfl
      · exact .idle
  · exact .idle

/-! ### Speed control, the shoulder and station control -/

theorem execHoldExpiry_places (dt : Nat) (s : State) : PlacesKept s (execHoldExpiry dt s) := by
  unfold execHoldExpiry
  dsimp only
  split
  · split
    · exact .same (State.serveComposer_same _ .requests (by decide))
    · exact .same rfl
  · exact .idle

theorem State.restart_requests (s : State) (straps : Straps) : (s.restart straps).requests = [] := by
  unfold State.restart
  dsimp only
  split <;> rfl

theorem State.restart_places (s : State) (straps : Straps) : PlacesKept s (.next (s.restart straps)) :=
  .next fun _ => (s.restart_requests straps).symm ▸ requestsSound_nil

theorem execStartUpCheck_places (dt : Nat) (image : List Octet) (s : State) : PlacesKept s (execStartUpCheck dt image s) := by
  unfold execStartUpCheck
  dsimp only
  split
  · split
    · exact .same (State.judgeImage_requests _ image)
    · exact .same (State.enterConfigFault_requests _)
  · exact .idle

theorem execRestoreComplete_places (dt : Nat) (s : State) : PlacesKept s (execRestoreComplete dt s) := by
  have hslots : (Pos.all.foldl State.restoreSlot (s.advance dt)).requests = s.requests :=
    foldl_requests (f := State.restoreSlot) State.restoreSlot_requests _ _
  unfold execRestoreComplete
  dsimp only
  generalize Pos.all.foldl State.restoreSlot (s.advance dt) = u at hslots ⊢
  split
  · exact .same ((State.startWrite_requests _).trans hslots)
  · exact .idle

theorem execSlotWriteCompletion_places (dt : Nat) (s : State) : PlacesKept s (execSlotWriteCompletion dt s) := by
  unfold execSlotWriteCompletion
  dsimp only
  split
  · exact .guardedSame (State.startWrite_requests _)
  · exact .idle

theorem execWarmingExit_places (dt : Nat) (modeFirst : Bool) (o : Order) (s : State) :
    PlacesKept s (execWarmingExit dt modeFirst o s) := by
  refine .guardedSame ((State.settle_requests _ _ _).trans ?_)
  split
  · rw [State.evaluateDemand_requests, State.serveSome_requests]
    split <;> rfl
  · split <;> rfl

/-! ### Every command -/

theorem exec_places (i : Instr) (s : State) : PlacesKept s (exec i s) := by
  cases i with
  | powerOnReset straps => exact s.restart_places straps
  | resetPin straps => exact s.restart_places straps
  | startUpCheck dt image => exact execStartUpCheck_places dt image s
  | restoreComplete dt => exact execRestoreComplete_places dt s
  | warmingEntry dt => exact .guardedSame (State.settle_requests _ _ _)
  | warmUpTimerExpiry dt => exact .guardedSame rfl
  | warmingExit dt modeFirst o => exact execWarmingExit_places dt modeFirst o s
  | loopPresenceStart dt l => exact execLoopPresenceStart_places dt l s
  | qualifiedOnEdge dt l => exact execQualifiedOnEdge_places dt l s
  | releaseEdge dt l => exact execReleaseEdge_places dt l s
  | presenceTimeout dt l endFirst => exact execPresenceTimeout_places dt l endFirst s
  | pairingDeadline dt k => exact .guarded (((s.advance dt).setArrivals k _).drainArrivals_keeps k)
  | intervalEnd dt lanes loops => exact execIntervalEnd_places dt lanes loops s
  | vehicleRequestCompletion dt o => exact vehicleRequestCompletion_places dt o s
  | intervalRequestCompletion dt o => exact intervalRequestCompletion_places dt o s
  | traceFramePlaced dt => exact .guardedSame rfl
  | idleGap dt => exact .guardedSame rfl
  | transmitStart dt => exact execTransmitStart_places dt s
  | arbitrationLost dt mark => exact execArbitrationLost_places dt mark s
  | transmitAbort dt cause => exact execTransmitAbort_places dt cause s
  | abortHoldEnd dt => exact .guardedSame rfl
  | transmitComplete sent => exact execTransmitComplete_places sent s
  | publicationTimerExpiry dt => exact .guardedSame rfl
  | lapse dt holds => exact execLapse_places dt holds s
  | frameAborted dt holds => exact execFrameAborted_places dt holds s
  | frameRejected dt cls kind source body check => exact .guardedSame rfl
  | lineStuck dt holds o => exact execLineStuck_places dt holds o s
  | lineStuckEnd dt => exact .guardedSame rfl
  | statusFrame dt cls source body o => exact .same ((s.advance dt).receive_requests _ o _ fun t => t.takeStatus_requests _ _ body o)
  | reportFrameHeard dt cls source body => exact .same ((s.advance dt).receive_requests _ _ _ fun _ => rfl)
  | neighbourExpiry dt station => exact execNeighbourExpiry_places dt station s
  | neighbourRemoval dt station o => exact execNeighbourRemoval_places dt station o s
  | isolationTimerExpiry dt o =>
    exact .guardedSame ((State.settle_requests _ _ _).trans (State.becomeIsolated_same _ .requests (by decide)))
  | holdExpiry dt => exact execHoldExpiry_places dt s
  | override dt low high step legend minutes o =>
    exact s.command_places dt _ _ _ _ _ fun t => t.takeOverride_requests _ _ _
  | overrideExpiry dt o => exact .guardedSame (State.settle_requests _ _ _)
  | closeSet dt origin serial lanes taper extent step o => exact s.command_places dt _ _ _ _ _ fun t => t.closeSet_requests _
  | closeClear dt origin serial o => exact s.command_places dt _ _ _ _ _ fun t => t.closeClear_requests _ _
  | shoulderOpen dt low high o => exact s.command_places dt _ _ _ _ _ State.takeOpen_requests
  | shoulderClose dt low high o => exact s.command_places dt _ _ _ _ _ State.takeClose_requests
  | checkTimerExpiry dt => exact .guardedSame ((State.settle_requests _ _ _).trans (State.moveShoulder_requests _ _))
  | clearanceTimerExpiry dt => exact .guardedSame ((State.settle_requests _ _ _).trans (State.moveShoulder_requests _ _))
  | faultAck dt station kind unit => exact execFaultAck_places dt station kind unit s
  | faultAckAll dt station unit => exact s.command_places dt _ _ _ _ _ fun _ => rfl
  | requestFaults dt station lane count => exact s.command_places dt _ _ _ _ _ fun t => t.answer_requests _
  | requestLanes dt station lane count => exact s.command_places dt _ _ _ _ _ fun t => t.answer_requests _
  | requestTrace dt station lane count => exact s.command_places dt _ _ _ _ _ fun t => t.startTrace_requests _ _
  | identity dt c kind check endFirst => exact execIdentity_places dt c kind check endFirst s
  | identificationDeadline dt c => exact .guardedSame (State.enterFailed_requests _ _ _ _)
  | provingReport dt c set result check endFirst => exact execProvingReport_places dt c set result check endFirst s
  | provingDeadline dt c endFirst => exact .guardedSame ((State.tryCommit_requests _).trans (State.enterFailed_requests _ _ _ _))
  | retryTimerExpiry dt c => exact .guardedSame (State.retry_requests _ _)
  | restartNotice dt c kind check endFirst => exact execRestartNotice_places dt c kind check endFirst s
  | slotWriteCompletion dt => exact execSlotWriteCompletion_places dt s
  | frameLengthRejected dt holds => exact execFrameLengthRejected_places dt holds s
  | firstHoldWrongClass dt held => exact execFirstHoldWrongClass_places dt held s
  | arbitrationWon sent => exact execArbitrationWon_places sent s
  | commandNotAddressed dt kind body => exact execCommandNotAddressed_places dt kind body s
  | shoulderOtherAction dt low high action => exact execShoulderOtherAction_places dt low high action s
  | requestOtherType dt station type lane count => exact execRequestOtherType_places dt station type lane count s

/-- Settles O6: every command keeps the places of the queue. -/
theorem requestQueueStaysWithinItsPlaces : Obligations.RequestQueueStaysWithinItsPlaces := by
  intro s t hs ht
  unfold step at ht
  split at ht
  · next i rest _ => exact exec_places i (s.setPending rest) t ht hs
  · cases ht
    exact hs

end Sys2Proof.Machine
end

section
/-!
PROOFS. The corridor line: the transmitter from the idle gap to the end of a frame (R44, R48 to R56).
-/
namespace Sys2Proof.Machine

/-! ### Commands and their meanings -/

theorem exec_idleGap_eq (dt : Nat) (s : State) : exec (.idleGap dt) s = execIdleGap dt s := rfl

theorem exec_transmitStart_eq (dt : Nat) (s : State) : exec (.transmitStart dt) s = execTransmitStart dt s := rfl

theorem exec_publicationTimerExpiry_eq (dt : Nat) (s : State) :
    exec (.publicationTimerExpiry dt) s = execPublicationTimerExpiry dt s := rfl

/-! ### A step of the line interface alone -/

@[simp] theorem State.advance_lineActive (s : State) (dt : Nat) : (s.advance dt).lineActive = s.lineActive := rfl

/-- Time passes and the line changes, and nothing else does. -/
theorem State.advance_setLine_same (s : State) (dt : Nat) (l : Line) :
    SameOutside [.clock, .line] s ((s.advance dt).setLine l) ∧ ((s.advance dt).setLine l).quiet :=
  ⟨(s.advance_same dt).trans (State.setLine_same _ l) (by decide) (by decide), rfl⟩

/-- What a command answers that lets time pass and then changes the line alone. -/
theorem exists_next_setLine {r : Result} {s : State} {dt : Nat} {l : Line} (h : r = .next ((s.advance dt).setLine l)) :
    ∃ t, r = .next t ∧ t.clock = s.clock + dt ∧ t.line = l ∧ SameOutside [.clock, .line] s t ∧ t.quiet :=
  ⟨_, h, rfl, rfl, s.advance_setLine_same dt l⟩

/-! ### The idle gap and the start hold (R44, R48, R49) -/

/-- With something to send a frame is chosen: a status before a report, urgent before routine (R49). -/
theorem State.chooseFrame_of_hasWork (s : State) (h : s.line.hasWork = true) :
    s.chooseFrame = some
      (if s.line.pending then
        Frame.checked (if s.line.urgent then classUrgent else classRoutine) kindStatus (BitVec.ofNat 6 s.own) s.statusRecord.body
      else Frame.checked classBulk kindReport (BitVec.ofNat 6 s.own) (s.line.replies.headD [])) := by
  unfold State.chooseFrame
  cases hp : s.line.pending
  · cases hr : s.line.replies with
    | nil => simp [Line.hasWork, hp, hr] at h
    | cons body rest => rfl
  · cases s.line.urgent <;> rfl

/-- Settles O35: the gap is seen at its moment, and a start takes the frame that is chosen at its own. -/
theorem transmissionStartsAfterTheGap : Obligations.TransmissionStartsAfterTheGap := by
  constructor
  · intro dt s hact hlisten hidle hgap
    refine exists_next_setLine ?_
    simp [exec_idleGap_eq, execIdleGap, hact, hlisten, hidle, unit, hgap, Line.heldWithin]
  · intro dt s hact hlisten htx hidle hseen hwork frame
    have hframe : (s.advance dt).chooseFrame = some frame := (s.advance dt).chooseFrame_of_hasWork hwork
    refine exists_next_setLine ?_
    simp [exec_transmitStart_eq, execTransmitStart, hact, hlisten, htx, hidle, hseen, hframe, Receiver.idle]

/-! ### Marks read back (R41, R50, R51) -/

theorem Frame.headerDigits_length (f : Frame) : f.headerDigits.length = 12 := by
  simp [Frame.headerDigits, digitsOf_length]

/-- A test of each mark holds from the first on when it holds of every mark sent and read. -/
theorem readBack_of_forall {test : Bool → Nat → Bool} {ds : List Bool} {holds : List Nat} (hl : holds.length ≤ ds.length)
    (h : ∀ (i : Nat) (d : Bool) (x : Nat), ds[i]? = some d → holds[i]? = some x → test d x = true) :
    readBack test ds holds = true := by
  simp only [readBack, hl, decide_true, Bool.true_and, List.all_eq_true]
  intro p hp
  obtain ⟨i, hi⟩ := List.mem_iff_getElem?.mp hp
  obtain ⟨hd, hx⟩ := List.getElem?_zip_eq_some.mp hi
  exact h i p.1 p.2 hd hx

/-- A sample can match what was sent: released for a short mark, held for a long one (R41). -/
theorem sampleMatches_iff (d : Bool) (held : Nat) : sampleMatches d held = true ↔ if d then held ≤ 15 else 15 ≤ held := by
  cases d <;> simp [sampleMatches, sampleMay]

theorem sampleDiffers_iff (d : Bool) (held : Nat) : sampleDiffers d held = true ↔ if d then 15 ≤ held else held ≤ 15 := by
  cases d <;> simp [sampleDiffers, sampleMay]

/-- In the header the samples alone are read back (R50). -/
theorem readBack_header {ds : List Bool} {holds : List Nat} (hl : holds.length ≤ ds.length) (h : marksRead ds holds) :
    readBack sampleMatches ds holds = true :=
  readBack_of_forall hl fun i d x hd hx => (sampleMatches_iff d x).mpr (h i d x hd hx)

/-- Outside the header the line is released in every slot as well (R51). -/
theorem readBack_body {ds : List Bool} {holds : List Nat} (hl : holds.length ≤ ds.length) (h : marksRead ds holds)
    (hs : ∀ x ∈ holds, x ≤ 30) : readBack markMatches ds holds = true :=
  readBack_of_forall hl fun i d x hd hx => by
    simp [markMatches, (sampleMatches_iff d x).mpr (h i d x hd hx), hs x (List.mem_of_getElem? hx)]

theorem lt_length_of_getElem?_eq_some {α : Type} {l : List α} {i : Nat} {a : α} (h : l[i]? = some a) : i < l.length :=
  (List.getElem?_eq_some_iff.mp h).1

/-- The mark after those read back fails as it is sent and as it reads. -/
theorem failsAfter_of {test fails : Bool → Nat → Bool} {sent : Bool → Bool} {ds : List Bool} {holds : List Nat} {held : Nat}
    {d : Bool} (hr : readBack test ds holds = true) (hd : ds[holds.length]? = some d) (hs : sent d = true)
    (hf : fails d held = true) : failsAfter test fails sent ds holds held = true := by
  simp [failsAfter, hr, hd, hs, hf]

/-! ### Arbitration (R50) -/

theorem execArbitrationWon_of_read (dt : Nat) (holds : List Nat) (s : State) (f : Frame) (htx : s.line.tx = .arbitrating)
    (hhold : s.line.abortHold = none) (hf : s.line.txFrame = some f) (hl : holds.length = 12)
    (hr : marksRead f.headerDigits holds) :
    execArbitrationWon ⟨dt, holds⟩ s = .next ((s.advance dt).setLine { s.line with tx := .sending, heldFrom := s.clock + dt }) := by
  have hread := readBack_header (hl.trans f.headerDigits_length.symm).le hr
  simp [execArbitrationWon, hf, htx, hhold, hl, hread]

theorem execArbitrationLost_of_held (dt : Nat) (holds : List Nat) (held : Nat) (s : State) (f : Frame)
    (htx : s.line.tx = .arbitrating) (hhold : s.line.abortHold = none) (hf : s.line.txFrame = some f)
    (hr : marksRead f.headerDigits holds) (hd : f.headerDigits[holds.length]? = some true) (hheld : 15 ≤ held) :
    execArbitrationLost dt ⟨holds, held⟩ s = .next ((s.advance dt).setLine
      { s.line with tx := .waiting, txFrame := none, gapFrom := s.clock + dt
                    heldFrom := max s.line.heldFrom (s.clock + dt - (15 + heldThrough holds))
                    rx := { phase := if holds.length = 11 then .length else .header, gapSeen := false
                            digits := f.headerDigits.take holds.length ++ [false] } }) := by
  have hlt : holds.length < 12 := f.headerDigits_length ▸ lt_length_of_getElem?_eq_some hd
  have hloss : lossArises f holds held = true :=
    failsAfter_of (readBack_header (by rw [f.headerDigits_length]; omega) hr) hd rfl ((sampleDiffers_iff true held).mpr hheld)
  have hphase : (if holds.length + 1 < 12 then Phase.header else Phase.length) =
      if holds.length = 11 then Phase.length else Phase.header := by
    by_cases h11 : holds.length = 11
    · rw [if_neg (by omega), if_pos h11]
    · rw [if_pos (by omega), if_neg h11]
  simp [execArbitrationLost, hf, htx, hhold, hloss, hphase, Line.heldWithin]

/-- Settles O36: the samples decide, and the marks that ran on into the lost one are counted back from it. -/
theorem arbitrationIsWonOrLost : Obligations.ArbitrationIsWonOrLost := by
  constructor
  · intro dt holds s f htx hhold hf hl hr
    exact exists_next_setLine (execArbitrationWon_of_read dt holds s f htx hhold hf hl hr)
  · intro dt holds held s f htx hhold hf hr hd hheld
    obtain ⟨n, hn, hthrough, hover, hwithin⟩ := heldThrough_eq holds
    have hlt : holds.length < 12 := f.headerDigits_length ▸ lt_length_of_getElem?_eq_some hd
    obtain ⟨t, he, hclock, hline, hsame, hquiet⟩ :=
      exists_next_setLine (execArbitrationLost_of_held dt holds held s f htx hhold hf hr hd hheld)
    rw [hthrough] at hline
    refine ⟨t, n, he, hclock, hn, hover, hwithin, hline, ?_, hsame, hquiet⟩
    simp only [hline, List.length_append, List.length_take, f.headerDigits_length, List.length_singleton]
    omega

/-! ### Transmit abort (R51) -/

theorem execTransmitAbort_of_arises (dt : Nat) (cause : AbortCause) (s : State) (f : Frame) (hf : s.line.txFrame = some f)
    (hhold : s.line.abortHold = none) (h : abortArises f cause s.line.tx = true) :
    execTransmitAbort dt cause s = .next ((s.advance dt).setLine
      { s.line with abortHold := some (s.clock + dt + 60), aborts := min (s.line.aborts + 1) 255, txFrame := none
                    heldFrom := s.line.heldWithin (s.clock + dt) (abortHeldBefore cause) }) := by
  simp [execTransmitAbort, hf, hhold, h, countUp, unit]

/-- Outside the header any disagreement after marks that read back aborts (R51). -/
theorem abortArises_body {f : Frame} {holds : List Nat} (hr : marksRead f.bodyDigits holds) (hs : ∀ h ∈ holds, h ≤ 30)
    (hl : holds.length < f.bodyDigits.length) :
    abortArises f (.foundHeld holds) .sending = true ∧
      (∀ held, 30 ≤ held → abortArises f (.slotEnd holds held) .sending = true) ∧
      ∀ held d, f.bodyDigits[holds.length]? = some d → sampleDiffers d held = true →
        abortArises f (.sample holds held) .sending = true := by
  have hread := readBack_body hl.le hr hs
  have hget : f.bodyDigits[holds.length]? = some f.bodyDigits[holds.length] := List.getElem?_eq_getElem hl
  refine ⟨by simp [abortArises, hread, hl], fun held h30 => ?_, fun held d hd hdiff => ?_⟩
  · simpa [abortArises] using failsAfter_of (sent := fun _ => true) (fails := fun _ held => decide (30 ≤ held)) hread hget rfl
      (decide_eq_true h30)
  · simpa [abortArises] using failsAfter_of (sent := fun _ => true) hread hd rfl hdiff

theorem execAbortHoldEnd_of_due (dt e : Nat) (s : State) (he : s.line.abortHold = some e) (hd : e ≤ s.clock + dt) :
    execAbortHoldEnd dt s = .next ((s.advance dt).setLine
      { s.line with abortHold := none, tx := .waiting, txFrame := none, gapFrom := s.clock + dt
                    rx := { phase := .idle, gapSeen := false, digits := [] } }) := by
  simp [execAbortHoldEnd, State.due, he, hd, Receiver.idle]

/-- Settles O37: each cause arises in its transmit state, and the end of the hold releases the line. -/
theorem abortedTransmissionWaitsAgain : Obligations.AbortedTransmissionWaitsAgain := by
  constructor
  · intro dt cause s f hf hhold hcause
    have harises : abortArises f cause s.line.tx = true := by
      cases cause with
      | startHold held =>
        obtain ⟨htx, hheld⟩ := hcause
        simpa [abortArises, htx, sampleMay] using hheld
      | headerLong holds held =>
        obtain ⟨htx, hr, hd, hheld⟩ := hcause
        have hread := readBack_header (lt_length_of_getElem?_eq_some hd).le hr
        have hfail := failsAfter_of (sent := fun d => !d) hread hd rfl ((sampleDiffers_iff false held).mpr hheld)
        simpa [abortArises, htx] using hfail
      | sample holds held =>
        obtain ⟨htx, hr, hs, d, hd, hheld⟩ := hcause
        rw [htx]
        exact (abortArises_body hr hs (lt_length_of_getElem?_eq_some hd)).2.2 held d hd ((sampleDiffers_iff d held).mpr hheld)
      | slotEnd holds held =>
        obtain ⟨htx, hr, hs, hl, hheld⟩ := hcause
        rw [htx]
        exact (abortArises_body hr hs hl).2.1 held hheld
      | foundHeld holds =>
        obtain ⟨htx, hr, hs, hl⟩ := hcause
        rw [htx]
        exact (abortArises_body hr hs hl).1
    obtain ⟨t, he, hclock, hline, hsame, hquiet⟩ :=
      exists_next_setLine (execTransmitAbort_of_arises dt cause s f hf hhold harises)
    refine ⟨t, he, hclock, hline.trans ?_, hsame, hquiet⟩
    cases cause with
    | foundHeld holds => cases h : holds.getLast? <;> simp [abortHeldBefore, Line.heldWithin, h]
    | startHold held => rfl
    | headerLong holds held => rfl
    | sample holds held => rfl
    | slotEnd holds held => rfl
  · intro dt e s he hd
    exact exists_next_setLine (execAbortHoldEnd_of_due dt e s he hd)

/-! ### The end of a frame (R52, R53, R55, R56) -/

theorem execTransmitComplete_of_read (dt : Nat) (holds : List Nat) (s : State) (f : Frame) (htx : s.line.tx = .sending)
    (hhold : s.line.abortHold = none) (hf : s.line.txFrame = some f) (hl : holds.length = f.bodyDigits.length)
    (hr : marksRead f.bodyDigits holds) (hs : ∀ h ∈ holds, h ≤ 30) :
    execTransmitComplete ⟨dt, holds⟩ s =
      .next ((s.advance dt).setLine ((s.line.frameSent (s.clock + dt)).rest.toIdle (s.clock + dt))) := by
  have hread := readBack_body hl.le hr hs
  simp [execTransmitComplete, hf, htx, hhold, hl, hread]

/-- A frame sent acts on its source: the status slot, or the head of the reply queue (R55, R56). -/
theorem Line.frameSent_cases {l : Line} {f : Frame} (now : Nat) (hf : l.txFrame = some f) :
    (f.kind = kindStatus ∧ l.frameSent now = l.statusSent now) ∨
      (f.kind ≠ kindStatus ∧ l.frameSent now = { l with replies := l.replies.drop 1 }) := by
  unfold Line.frameSent
  rw [hf]
  by_cases h : f.kind = kindStatus
  · exact .inl ⟨h, if_pos h⟩
  · exact .inr ⟨h, if_neg h⟩

/-- The pending mark ends QUIET (R48, R53). -/
theorem Line.setPending_eq (l : Line) :
    l.setPending = { l with pending := true, tx := if l.tx = .quiet then .waiting else l.tx } := by
  by_cases h : l.tx = .quiet <;> simp [Line.setPending, Line.wake, Line.hasWork, h]

/-- Settles O38: the frame sent acts on its source, and the transmit state is what its line's work asks for. -/
theorem transmissionCompletes : Obligations.TransmissionCompletes := by
  constructor
  · intro dt holds s f htx hhold hf hl hr hs
    obtain ⟨t, he, hclock, hline, hsame, hquiet⟩ :=
      exists_next_setLine (execTransmitComplete_of_read dt holds s f htx hhold hf hl hr hs)
    rcases s.line.frameSent_cases (s.clock + dt) hf with ⟨hk, hsent⟩ | ⟨hk, hsent⟩ <;> rw [hsent] at hline
    · exact ⟨t, he, hclock, fun _ => by rw [hline]; exact ⟨rfl, rfl, rfl, rfl⟩, fun h => absurd hk h, by rw [hline]; rfl, hsame, hquiet⟩
    · exact ⟨t, he, hclock, fun h => absurd h hk, fun _ => by rw [hline]; exact ⟨rfl, rfl, rfl, rfl⟩, by rw [hline]; rfl, hsame, hquiet⟩
  · intro dt e s he hd
    refine exists_next_setLine ?_
    have hdue : (s.advance dt).due s.line.pubTimer = true := by simp [State.due, he, hd]
    rw [exec_publicationTimerExpiry_eq, execPublicationTimerExpiry]
    simp only [State.advance_line, hdue, if_true, Line.setPending_eq]

end Sys2Proof.Machine
end

section
/-!
PROOFS. The corridor line: lost frames, the wrong first hold, and the stuck line (R42 to R47, R70, R71).
-/
namespace Sys2Proof.Machine

/-! ### Commands and their meanings -/

theorem exec_lineStuck_eq (dt : Nat) (holds : List Nat) (o : Order) (s : State) :
    exec (.lineStuck dt holds o) s = execLineStuck dt holds o s := rfl

@[simp] theorem State.advance_hear (s : State) (dt : Nat) (holds : List Nat) : (s.advance dt).hear holds = s.hear holds := rfl

@[simp] theorem State.advance_canHear (s : State) (dt : Nat) (f : Frame) : (s.advance dt).canHear f = s.canHear f := rfl

@[simp] theorem State.advance_own (s : State) (dt : Nat) : (s.advance dt).own = s.own := rfl

/-! ### Lost frames (R44 to R47) -/

/-- The line after the loss of a frame in progress (R45, R47). -/
def Line.lost (l : Line) (since now : Nat) : Line :=
  { l with rejected := min (l.rejected + 1) 255, gapFrom := since, heldFrom := now
           rx := { phase := .idle, gapSeen := false, digits := [] } }

theorem State.loseFrame_advance (s : State) (dt : Nat) :
    (s.advance dt).loseFrame = (s.advance dt).setLine (s.line.lost (s.clock + dt) (s.clock + dt)) := rfl

theorem execLapse_of_released (dt : Nat) (holds : List Nat) (s : State) (rx : Receiver) (hh : s.hear holds = some (.waiting rx))
    (hp : rx.inProgress = true) (hr : s.line.releasedAt holds + 40 ≤ s.clock + dt) :
    execLapse dt holds s = .next ((s.advance dt).setLine (s.line.lost (s.clock + dt - 40) (s.clock + dt))) := by
  have hc : (rx.inProgress && decide (s.line.releasedAt holds + 4 * unit ≤ s.clock + dt)) = true := by simp [hp, unit, hr]
  unfold execLapse
  simp only [State.advance_hear, hh]
  exact if_pos hc

/-- Before 4 units have been released nothing lapses (R45). -/
theorem execLapse_of_early (dt : Nat) (holds : List Nat) (s : State) (h : s.clock + dt < s.line.releasedAt holds + 40) :
    execLapse dt holds s = .next (s.advance dt) := by
  have hc : ¬s.line.releasedAt holds + 4 * unit ≤ s.clock + dt := by
    unfold unit
    omega
  unfold execLapse
  dsimp only
  split
  · simp [hc]
  · rfl

theorem execFrameAborted_of_aborted (dt : Nat) (holds : List Nat) (s : State) (hh : s.hear holds = some .aborted) :
    execFrameAborted dt holds s = .next ((s.advance dt).setLine (s.line.lost (s.clock + dt) (s.clock + dt))) := by
  unfold execFrameAborted
  simp only [State.advance_hear, hh, State.loseFrame_advance]

theorem execFrameLengthRejected_of_badLength (dt : Nat) (holds : List Nat) (s : State) (hh : s.hear holds = some .badLength) :
    execFrameLengthRejected dt holds s = .next ((s.advance dt).setLine (s.line.lost (s.clock + dt) (s.clock + dt))) := by
  unfold execFrameLengthRejected
  simp only [State.advance_hear, hh, State.loseFrame_advance]

/-- The codes 2 to 7 are those of the command kinds (Table 3-2). -/
theorem commandKindOf_isSome {n : Nat} (h : 2 ≤ n) (h7 : n ≤ 7) : (commandKindOf n).isSome = true := by
  interval_cases n <;> rfl

/-- Each of the causes of R46 rejects a frame. -/
theorem Frame.rejected_of_cause (f : Frame) (own : Nat)
    (h : f.check ≠ checkOf f.checkedDigits ∨ f.kind = 0 ∨ 9 ≤ f.kind.toNat ∨ f.source = 0 ∨ f.source.toNat = own ∨
      (2 ≤ f.kind.toNat ∧ f.kind.toNat ≤ 7 ∧ f.source ≠ 63)) : f.rejected own = true := by
  unfold Frame.rejected
  rcases h with h | h | h | h | h | ⟨h2, h7, h63⟩
  · simp [Frame.passes, h]
  · simp [h]
  · simp [h]
  · simp [h]
  · simp [h]
  · simp only [commandKindOf_isSome h2 h7, bne_iff_ne.mpr h63, Bool.and_self, Bool.or_true]

theorem execFrameRejected_of_rejected (dt : Nat) (f : Frame) (s : State) (hh : s.canHear f = true) (hr : f.rejected s.own = true) :
    execFrameRejected dt f.cls f.kind f.source f.body f.check s =
      .next ((s.advance dt).setLine (s.line.lost (s.clock + dt) (s.clock + dt))) := by
  unfold execFrameRejected
  simp only [State.advance_canHear, State.advance_own, hh, hr, Bool.and_self, if_true, State.loseFrame_advance]

/-- A first hold that is neither noise nor a start hold is of the wrong class (R44). -/
theorem hearHold_wrongFirst {rx : Receiver} {held : Nat} (hi : rx.phase = .idle) (hs : rx.gapSeen = true) (h5 : 5 ≤ held)
    (h500 : held < 500) (hno : ¬(35 ≤ held ∧ held < 45)) : hearHold rx held = .wrongFirst := by
  have hclass : classifyHold held = .short ∨ classifyHold held = .long ∨ classifyHold held = .brk := by
    rw [classifyHold, if_neg (by omega)]
    by_cases h15 : held < 15
    · exact .inl (if_pos h15)
    rw [if_neg h15]
    by_cases h25 : held < 25
    · exact .inr (.inl (if_pos h25))
    rw [if_neg h25]
    by_cases h35 : held < 35
    · exact .inr (.inr (if_pos h35))
    · exact .inr (.inr (by rw [if_neg h35, if_neg (by omega), if_pos h500]))
  unfold hearHold
  rcases hclass with h | h | h <;> simp [h, hi, hs]

theorem execFirstHoldWrongClass_of_wrong (dt held : Nat) (s : State) (hact : s.lineActive = true) (hlisten : s.line.listening = true)
    (hs : s.line.rx.gapSeen = true) (hi : s.line.rx.phase = .idle) (h5 : 5 ≤ held) (h500 : held < 500)
    (hno : ¬(35 ≤ held ∧ held < 45)) :
    execFirstHoldWrongClass dt held s = .next ((s.advance dt).setLine (s.line.toIdle (s.clock + dt))) := by
  have hh : s.hear [held] = some .wrongFirst := by
    simp [State.hear, hact, hlisten, hearHolds, hearHold_wrongFirst hi hs h5 h500 hno]
  unfold execFirstHoldWrongClass
  simp only [State.advance_hear, hh, State.advance_line, State.advance_clock]

/-- Noise moves no release; the last hold that is not noise does, but for the part of the first that may lie before the idle gap
was seen (R41, R45, R48). -/
theorem Line.releasedAt_spec (l : Line) (holds noise : List Nat) (h : Nat) (hh : 5 ≤ h) (hn : ∀ x ∈ noise, x < 5) :
    l.releasedAt noise = l.gapFrom ∧
      l.releasedAt (holds ++ h :: noise) =
        l.gapFrom + if l.rx.inProgress then holds.sum + h else if holds = [] then 0 else (holds.drop 1).sum + h := by
  have hdrop : ∀ x ∈ noise.drop 1, x < 5 := fun x hx => hn x (List.mem_of_mem_drop hx)
  unfold Line.releasedAt Line.holdsAfter
  by_cases hp : l.rx.inProgress = true
  · simp only [hp, if_true, markTime_noise noise hn, markTime_append holds noise h hh hn, Nat.add_zero, true_and]
  · simp only [if_neg hp, markTime_noise _ hdrop, Nat.add_zero, true_and]
    cases holds with
    | nil => simp [markTime_noise noise hn]
    | cons a as => simp [markTime_append as noise h hh hn]

/-- Settles O39: every loss leaves the line as `Line.lost` says, and the wrong first hold leaves it idle. -/
theorem lostFramesAreCountedOnce : Obligations.LostFramesAreCountedOnce := by
  refine ⟨fun dt holds s rx hh hp hr => exists_next_setLine (execLapse_of_released dt holds s rx hh hp hr),
    fun dt holds s h => execLapse_of_early dt holds s h, fun l holds noise h hh hn => l.releasedAt_spec holds noise h hh hn,
    fun dt holds s hh => exists_next_setLine (execFrameAborted_of_aborted dt holds s hh),
    fun dt holds s hh => exists_next_setLine (execFrameLengthRejected_of_badLength dt holds s hh),
    fun dt f s hh hc => exists_next_setLine (execFrameRejected_of_rejected dt f s hh (f.rejected_of_cause s.own hc)),
    fun dt held s hact hlisten hs hi h5 h500 hno =>
      exists_next_setLine (execFirstHoldWrongClass_of_wrong dt held s hact hlisten hs hi h5 h500 hno)⟩

/-! ### The stuck line (R42, R45, R51, R70) -/

/-- A frame is in progress after the holds. -/
def State.receivingAfter (s : State) (holds : List Nat) : Bool :=
  match s.hear holds with
  | some (.waiting rx) => rx.inProgress
  | _ => false

/-- A frame is being sent, and no abort hold is in progress. -/
def Line.transmitting (l : Line) : Bool := (l.tx == .arbitrating || l.tx == .sending) && l.abortHold.isNone

/-- The line at the moment at which it is stuck, in the three steps in which LINE_STUCK makes it: a frame in progress is counted,
a transmission is counted, and given up. -/
def Line.gotStuck (l : Line) (receiving : Bool) : Line :=
  let l1 := if receiving then l.countRejected else l
  let l2 := if l.transmitting then { l1 with aborts := countUp l1.aborts } else l1
  let l3 := if l2.tx == .arbitrating || l2.tx == .sending then { l2 with tx := .waiting } else l2
  { l3 with rx := Receiver.idle, stuck := true, txFrame := none, abortHold := none }

theorem Line.gotStuck_eq (l : Line) (receiving : Bool) :
    l.gotStuck receiving =
      { l with rejected := if receiving then countUp l.rejected else l.rejected
               aborts := if l.transmitting then countUp l.aborts else l.aborts
               tx := if l.tx = .arbitrating ∨ l.tx = .sending then .waiting else l.tx
               rx := Receiver.idle, stuck := true, txFrame := none, abortHold := none } := by
  obtain ⟨rx, gapFrom, heldFrom, stuck, tx, txFrame, abortHold⟩ := l
  cases receiving <;> cases tx <;> cases abortHold <;> rfl

/-- The state in which LINE STUCK is raised, before the isolation condition becomes present. -/
def State.madeLineStuck (s : State) (holds : List Nat) : State :=
  (s.setLine (s.line.gotStuck (s.receivingAfter holds))).raiseFault .lineStuck 0

theorem execLineStuck_of_held (dt : Nat) (holds : List Nat) (o : Order) (s : State) (hact : s.lineActive = true)
    (hs : s.line.stuck = false) (hh : s.line.heldAt holds + 500 ≤ s.clock + dt) :
    execLineStuck dt holds o s =
      .next ((if s.acting then ((s.advance dt).madeLineStuck holds).becomeIsolated else (s.advance dt).madeLineStuck holds).settle
        (s.advance dt) o.late) := by
  have hguard : ((s.advance dt).lineActive && !(s.advance dt).line.stuck &&
      decide ((s.advance dt).line.heldAt holds + 50 * unit ≤ (s.advance dt).clock)) = true := by
    simp [hact, hs, unit, hh]
  unfold execLineStuck
  dsimp only
  rw [if_pos hguard]
  rfl

/-- The state in which a stuck line's isolation condition has become present, where the station acts (R70). -/
def State.stuckIsolated (s : State) (holds : List Nat) : State :=
  if s.acting then (s.madeLineStuck holds).becomeIsolated else s.madeLineStuck holds

theorem State.madeLineStuck_same (s : State) (holds : List Nat) : SameOutside [.line, .faults] s (s.madeLineStuck holds) :=
  (s.setLine_same _).trans (State.raiseFault_same _ _ _) (by decide) (by decide)

/-- What the stuck line leaves of the blocks that it touches, before the readers take the report (R42, R70, R71). -/
theorem State.stuckIsolated_spec (s : State) (holds : List Nat) :
    SameOutside [.line, .faults, .neighbours, .station] s (s.stuckIsolated holds) ∧
      (s.stuckIsolated holds).line = s.line.gotStuck (s.receivingAfter holds) ∧
      (s.stuckIsolated holds).faults = s.faults.raise .lineStuck 0 s.seconds ∧
      (s.stuckIsolated holds).neighbours = (if s.acting then { s.neighbours with isolation := true } else s.neighbours) ∧
      (s.stuckIsolated holds).mode = if s.mode = .running then .isolated else s.mode := by
  have hmade := s.madeLineStuck_same holds
  unfold State.stuckIsolated
  by_cases ha : s.acting = true
  · have hiso := (s.madeLineStuck holds).becomeIsolated_same
    obtain ⟨hneigh, hstation⟩ := (s.madeLineStuck holds).becomeIsolated_spec
    rw [if_pos ha, if_pos ha]
    exact ⟨hmade.trans hiso (by decide) (by decide), hiso .line (by decide), hiso .faults (by decide), hneigh,
      congrArg Station.mode hstation⟩
  · have hm : s.mode ≠ .running := fun h => ha (by rw [State.acting, h]; rfl)
    rw [if_neg ha, if_neg ha, if_neg hm]
    exact ⟨hmade.mono (by decide), rfl, rfl, rfl, rfl⟩

theorem Line.heldAt_eq (l : Line) (holds : List Nat) :
    l.heldAt holds =
      if holds = [] then l.heldFrom
      else max (l.heldFrom + holds.sum) (l.gapFrom + if l.rx.inProgress then holds.sum else (holds.drop 1).sum) := by
  unfold Line.heldAt Line.holdsAfter
  cases holds with
  | nil => rfl
  | cons a as => cases l.rx.inProgress <;> rfl

theorem State.receivingAfter_of_waiting {s : State} {holds : List Nat} {rx : Receiver} (h : s.hear holds = some (.waiting rx)) :
    s.receivingAfter holds = rx.inProgress := by
  unfold State.receivingAfter
  rw [h]

theorem State.receivingAfter_of_forall {s : State} {holds : List Nat}
    (h : ∀ rx, s.hear holds = some (.waiting rx) → rx.inProgress = false) : s.receivingAfter holds = false := by
  unfold State.receivingAfter
  split
  · next rx hh => exact h rx hh
  · rfl

/-- A line held for 50 units (R42, R45, R51, R70, R71). -/
theorem exec_lineStuck_held (dt : Nat) (holds : List Nat) (o : Order) (s : State) (hact : s.lineActive = true)
    (hs : s.line.stuck = false) (hh : s.line.heldAt holds + 500 ≤ s.clock + dt) :
    ∃ t, exec (.lineStuck dt holds o) s = .next t ∧ t.clock = s.clock + dt ∧
      Line.slotOnly (s.line.gotStuck (s.receivingAfter holds)) t.line ∧
      t.faults = s.faults.raise .lineStuck 0 ((s.clock + dt) / second) ∧
      t.neighbours = (if s.acting then { s.neighbours with isolation := true } else s.neighbours) ∧
      t.mode = (if s.mode = .running then .isolated else s.mode) ∧
      SameOutside (andReaders [.clock, .station, .neighbours, .faults, .shoulder]) s t := by
  obtain ⟨hsame, hline, hfaults, hneigh, hmode⟩ := (s.advance dt).stuckIsolated_spec holds
  have hset := ((s.advance dt).stuckIsolated holds).settle_same (s.advance dt) o.late
  have hslot := (((s.advance dt).stuckIsolated holds).settle_slotGrows (s.advance dt) o.late).1
  rw [hline] at hslot
  rw [exec_lineStuck_eq, execLineStuck_of_held dt holds o s hact hs hh]
  exact ⟨_, rfl, (hset .clock (by decide)).trans (hsame .clock (by decide)), hslot, (hset .faults (by decide)).trans hfaults,
    (hset .neighbours (by decide)).trans hneigh, (congrArg Station.mode (hset .station (by decide))).trans hmode,
    ((s.advance_same dt).trans hsame (n := andReaders [.clock, .station, .neighbours, .faults, .shoulder]) (by decide)
      (by decide)).trans hset (fun _ x => x) (by decide)⟩

/-- Before 50 units have been held the line is not stuck (R42). -/
theorem execLineStuck_of_early (dt : Nat) (holds : List Nat) (o : Order) (s : State)
    (h : s.clock + dt < s.line.heldAt holds + 500) : execLineStuck dt holds o s = .next (s.advance dt) := by
  have hc : ¬s.line.heldAt holds + 50 * unit ≤ s.clock + dt := by
    unfold unit
    omega
  unfold execLineStuck
  simp [hc]

/-- Settles O40: the stuck line is counted, isolates, and is told to the readers; its release ends the fault. -/
theorem stuckLineIsolatesTheStation : Obligations.StuckLineIsolatesTheStation := by
  refine ⟨?_, fun dt holds o s h => execLineStuck_of_early dt holds o s h, Line.heldAt_eq, ?_⟩
  · intro dt holds o s hact hs hh
    obtain ⟨t, he, hclock, hslot, hfaults, hneigh, hmode, hsame⟩ := exec_lineStuck_held dt holds o s hact hs hh
    rw [Line.gotStuck_eq] at hslot
    have hrejected : t.line.rejected = if s.receivingAfter holds then countUp s.line.rejected else s.line.rejected :=
      congrArg Line.rejected hslot
    have hreplies : t.line.replies = s.line.replies := (congrArg Line.replies hslot).trans rfl
    have htimer : t.line.pubTimer = s.line.pubTimer := (congrArg Line.pubTimer hslot).trans rfl
    have haborts : t.line.aborts = if s.line.transmitting then countUp s.line.aborts else s.line.aborts :=
      congrArg Line.aborts hslot
    refine ⟨t, he, hclock, congrArg Line.stuck hslot, congrArg Line.rx hslot, congrArg Line.txFrame hslot,
      congrArg Line.abortHold hslot, ?_, fun h => ?_, fun rx h hp => ?_, hreplies, htimer,
      hfaults, hneigh, hmode, hsame⟩
    · simpa [Line.transmitting, countUp] using haborts
    · rw [hrejected, State.receivingAfter_of_forall h]
      rfl
    · rw [hrejected, State.receivingAfter_of_waiting h, hp]
      rfl
  · intro dt s hs
    refine ⟨_, if_pos hs, rfl, rfl, rfl, ?_, rfl⟩
    exact (s.advance_setLine_same dt _).1.trans (State.endFault_same _ _ _) (by decide) (by decide)

end Sys2Proof.Machine
end

section
/-!
PROOFS. The reception of a valid frame (R46, R67, R70, R71): what its arrival leaves, and the frames that are heard only.
-/
namespace Sys2Proof.Machine

theorem exec_commandNotAddressed_eq (dt : Nat) (kind : BitVec 4) (body : List Octet) (s : State) :
    exec (.commandNotAddressed dt kind body) s = execCommandNotAddressed dt kind body s := rfl

/-! ### The arrival of a frame -/

/-- A STATUS or REPORT frame of another station, with its check as sent, is valid (R46). -/
theorem Frame.checked_accepted (cls : BitVec 2) {kind : BitVec 4} {source : BitVec 6} (body : List Octet) {own : Nat}
    (hk : kind = kindStatus ∨ kind = kindReport) (h0 : source ≠ 0) (ho : source.toNat ≠ own) :
    (Frame.checked cls kind source body).rejected own = false := by
  have passes : (Frame.checked cls kind source body).passes = true := beq_self_eq_true _
  have hkind : (Frame.checked cls kind source body).kind = kind := rfl
  have hsource : (Frame.checked cls kind source body).source = source := rfl
  have h0' : (source == 0) = false := beq_eq_false_iff_ne.mpr h0
  have ho' : (source.toNat == own) = false := beq_eq_false_iff_ne.mpr ho
  unfold Frame.rejected
  rw [passes, hkind, hsource, h0', ho']
  rcases hk with rfl | rfl <;> rfl

/-- The state in which a valid frame of a source has arrived and is delivered next. -/
def State.arrivedFrom (s : State) (n : Nat) : State := (s.setLine (s.line.toIdle s.clock)).noteArrival n

theorem State.arrived_eq (s : State) : s.arrived = s.arrivedFrom 63 := rfl

/-- Of the source an arrival's effect depends in the NEIGHBOUR LOST that it ends alone (R67). -/
theorem State.arrivedFrom_eq (s : State) (n : Nat) (ha : s.acting = true) :
    s.arrivedFrom n = s.arrived.setFaults (s.faults.close .neighbourLost n) := by
  have ha' : (s.setLine (s.line.toIdle s.clock)).acting = true := ha
  unfold State.arrivedFrom State.arrived State.noteArrival
  rw [if_pos ha', if_pos ha']
  dsimp only
  split <;> rfl

theorem State.arrivedFrom_same (s : State) (n : Nat) : SameOutside [.line, .neighbours, .station, .faults] s (s.arrivedFrom n) :=
  (s.setLine_same _).trans (State.noteArrival_same _ n) (by decide) (by decide)

/-- What the arrival of a frame does in an acting station (R46, R67, R70, R71). -/
theorem State.arrivedFrom_spec (s : State) (n : Nat) (ha : s.acting = true) :
    (s.arrivedFrom n).station = { s.station with mode := s.mode.heard } ∧ (s.arrivedFrom n).neighbours = s.heardNeighbours 0 ∧
      (s.arrivedFrom n).faults = s.faults.close .neighbourLost n ∧ (s.arrivedFrom n).line = s.line.toIdle s.clock ∧
      (s.arrivedFrom n).signs = s.signs := by
  obtain ⟨hstation, hneigh, -, hline, hsigns⟩ := s.arrived_spec ha
  rw [s.arrivedFrom_eq n ha]
  exact ⟨hstation, hneigh, rfl, hline, hsigns⟩

theorem State.arrivedFrom_acting (s : State) (n : Nat) (ha : s.acting = true) : (s.arrivedFrom n).acting = true := by
  unfold State.acting State.mode
  rw [(s.arrivedFrom_spec n ha).1]
  exact (Mode.heard_acting _).trans ha

/-- An arrival enters ISOLATED in no mode (R71). -/
theorem State.arrivedFrom_notEntered (s : State) (n : Nat) (ha : s.acting = true) : (s.arrivedFrom n).notEntered s := by
  intro h
  unfold State.mode at h
  rw [(s.arrivedFrom_spec n ha).1] at h
  exact absurd h (Mode.heard_ne_isolated _)

/-- An arrival outside ISOLATED is reported to nobody. -/
theorem State.arrivedFrom_reported (s : State) (n : Nat) (ha : s.acting = true) (hm : s.mode ≠ .isolated) :
    (s.arrivedFrom n).reported s = false := by
  obtain ⟨hstation, hneigh, -⟩ := s.arrivedFrom_spec n ha
  have hsame := s.arrivedFrom_same n
  have hmode : (s.arrivedFrom n).mode = s.mode := by
    unfold State.mode
    rw [hstation]
    exact if_neg hm
  have hentries : (s.arrivedFrom n).neighbours.entries = s.neighbours.entries := by rw [hneigh]; rfl
  have hclosures : (s.arrivedFrom n).closures = s.closures := hsame .closures (by decide)
  have hqueue : (s.arrivedFrom n).queue = s.queue := hsame .queue (by decide)
  have hspeed : (s.arrivedFrom n).speed = s.speed := hsame .speed (by decide)
  have hshoulder : (s.arrivedFrom n).shoulder = s.shoulder := hsame .shoulder (by decide)
  simp [State.reported, hmode, hentries, hclosures, hqueue, hspeed, hshoulder]

/-- Readers that take a report before the delivery find none outside ISOLATED. -/
theorem State.arrivedFrom_serveSome (s : State) (n : Nat) (rs : List Reader) (ha : s.acting = true)
    (h : s.mode = .isolated → rs = []) : (s.arrivedFrom n).serveSome s rs = s.arrivedFrom n := by
  unfold State.serveSome
  by_cases hm : s.mode = .isolated
  · rw [h hm]
    exact ite_self _
  · rw [s.arrivedFrom_reported n ha hm, Bool.and_false]
    exact if_neg Bool.false_ne_true

/-- A valid frame that is heard is delivered after its arrival, and the reports are taken last (R46). -/
theorem State.receive_of_heard (s : State) (f : Frame) (o : Order) (deliver : State → State) (hh : s.canHear f = true)
    (hr : f.rejected s.own = false) :
    s.receive f o deliver = (deliver ((s.arrivedFrom f.source.toNat).serveSome s o.early)).settle s o.late := by
  unfold State.receive
  rw [if_pos hh, hr, if_neg Bool.false_ne_true]
  rfl

/-! ### Frames that are heard only (R46, R175) -/

/-- What a command answers whose frame arrives and is delivered to nobody. -/
theorem exists_next_heard {r : Result} {s : State} {dt n : Nat} (ha : s.acting = true)
    (h : r = .next (((s.advance dt).arrivedFrom n).settle (s.advance dt) [])) :
    ∃ t, r = .next t ∧ t.clock = s.clock + dt ∧
      t.station = { s.station with mode := s.mode.heard } ∧ t.neighbours = s.heardNeighbours dt ∧
      t.faults = s.faults.close .neighbourLost n ∧
      Line.slotOnly (s.line.toIdle (s.clock + dt)) t.line ∧
      (s.mode ≠ .isolated → t.line = s.line.toIdle (s.clock + dt) ∧
        SameOutside [.clock, .station, .neighbours, .faults, .line] s t ∧ t.quiet) ∧
      SameOutside (andReaders [.clock, .station, .neighbours, .faults]) s t := by
  obtain ⟨hstation, hneigh, hfaults, hline, hsigns⟩ := (s.advance dt).arrivedFrom_spec n ha
  have hsame : SameOutside [.clock, .station, .neighbours, .faults, .line] s ((s.advance dt).arrivedFrom n) :=
    (s.advance_same dt).trans (State.arrivedFrom_same _ n) (by decide) (by decide)
  have hserved := State.settle_served _ _ [] ((s.advance dt).arrivedFrom_notEntered n ha)
  have hslot := (((s.advance dt).arrivedFrom n).settle_slotGrows (s.advance dt) []).1
  rw [hline] at hslot
  refine ⟨_, h, hserved.clock.trans (State.arrivedFrom_same _ n .clock (by decide)), hserved.station.trans hstation,
    (hserved.same .neighbours (by decide)).trans hneigh, hserved.faults.trans hfaults, hslot, fun hm => ?_,
    hsame.trans hserved.same (by decide) (by decide)⟩
  have hsettle : ((s.advance dt).arrivedFrom n).settle (s.advance dt) [] = (s.advance dt).arrivedFrom n := by
    rcases ((s.advance dt).arrivedFrom n).settle_cases (s.advance dt) [] with ⟨-, hrep, -⟩ | ⟨-, e⟩
    · rw [(s.advance dt).arrivedFrom_reported n ha hm] at hrep
      cases hrep
    · exact e
  rw [hsettle]
  exact ⟨hline, hsame, congrArg Signs.sent hsigns⟩

/-- With no reader named a frame that is delivered to nobody is settled at once. -/
theorem State.receive_nobody (s : State) (f : Frame) (hh : s.canHear f = true) (hr : f.rejected s.own = false) :
    s.receive f Order.plain (fun t => t) = (s.arrivedFrom f.source.toNat).settle s [] :=
  (s.receive_of_heard f Order.plain _ hh hr).trans (congrArg (State.settle · s []) (ite_self _))

theorem commandKindOf_code (k : CommandKind) : commandKindOf (BitVec.ofNat 4 k.code).toNat = some k := by cases k <;> rfl

theorem execCommandNotAddressed_of_heard (dt : Nat) (k : CommandKind) (body : List Octet) (s : State)
    (h : ∀ c, readCommand k body = some c → s.addresses c = false) :
    execCommandNotAddressed dt (BitVec.ofNat 4 k.code) body s =
      .next ((s.advance dt).receive (commandFrame k body) Order.plain (fun t => t)) := by
  unfold execCommandNotAddressed
  simp only [commandKindOf_code]
  split
  · next c hc => exact if_neg (Bool.eq_false_iff.mp (h c hc))
  · rfl

/-- Settles O43: both frames arrive and are delivered to nobody. -/
theorem otherFramesAreHeardOnly : Obligations.OtherFramesAreHeardOnly := by
  constructor
  · intro dt cls source body s ha hh h0 ho
    exact exists_next_heard ha (congrArg Host.Outcome.next
      ((s.advance dt).receive_nobody _ hh (Frame.checked_accepted cls body (.inr rfl) h0 ho)))
  · intro dt k body s ha ho hh hc
    rw [exec_commandNotAddressed_eq, execCommandNotAddressed_of_heard dt k body s hc]
    exact exists_next_heard ha (congrArg Host.Outcome.next
      ((s.advance dt).receive_nobody _ hh (commandFrame_rejected _ k body ho)))

end Sys2Proof.Machine
end

section
/-!
PROOFS. A STATUS frame (R61 to R64, R113 to R115): the entry it makes, and what the closure table's learning leaves alone.
-/
namespace Sys2Proof.Machine

/-! ### The work of the closure table (R117) -/

theorem Line.mayFlag_slotOnly {a b : Line} (h : Line.mayFlag a b) : Line.slotOnly a b := by
  rcases h with rfl | rfl
  · exact Line.slotOnly_refl _
  · obtain ⟨-, -, -, -, hslot⟩ := a.setUrgent_spec
    exact hslot

theorem State.moveShoulder_mayFlag (s : State) (x : Shoulder) : Line.mayFlag s.line (s.moveShoulder x).line := by
  unfold State.moveShoulder
  split
  · exact Line.mayFlag_refl _
  · exact State.flagUrgent_mayFlag (s.setShoulder x)

theorem State.abortCheck_mayFlag (s : State) : Line.mayFlag s.line s.abortCheck.line := by
  unfold State.abortCheck
  split
  · exact s.moveShoulder_mayFlag _
  · exact Line.mayFlag_refl _

/-- What the closure table may do to the state: its positions and their slots change, an own closure's change is urgent, and an
opening check can be aborted, which touches the shoulder and the faults only while one is in progress (R117, R127). -/
structure State.ClosureWork (s t : State) : Prop where
  same : SameOutside [.closures, .retention, .shoulder, .faults, .line] s t
  flag : Line.mayFlag s.line t.line
  calm : s.shoulder.state ≠ .checking → t.shoulder = s.shoulder ∧ t.faults = s.faults

theorem State.ClosureWork.refl (s : State) : s.ClosureWork s := ⟨SameOutside.refl _ s, Line.mayFlag_refl _, fun _ => ⟨rfl, rfl⟩⟩

theorem State.putClosure_work (s : State) (p : Pos) (c : Option Closure) : s.ClosureWork (s.putClosure p c) := by
  refine ⟨s.putClosure_same p c, ?_, fun hc => ?_⟩
  · have hmark (t : State) : Line.mayFlag t.line (t.markDirty p).line := Line.mayFlag_of_eq (t.markDirty_same p .line (by decide))
    unfold State.putClosure
    dsimp only
    generalize hu : (if (s.setClosures (s.closures.set p c)).ownClosure = s.ownClosure then _ else _) = u
    have hflag : Line.mayFlag s.line u.line := by
      subst hu
      split
      · exact Line.mayFlag_refl _
      · exact (s.setClosures _).flagUrgent_mayFlag
    refine Line.mayFlag_trans ?_ (hmark _)
    split
    · exact Line.mayFlag_trans hflag u.abortCheck_mayFlag
    · exact hflag
  · have hmark (t : State) : (t.markDirty p).shoulder = t.shoulder ∧ (t.markDirty p).faults = t.faults :=
      ⟨t.markDirty_same p .shoulder (by decide), t.markDirty_same p .faults (by decide)⟩
    unfold State.putClosure
    dsimp only
    generalize hu : (if (s.setClosures (s.closures.set p c)).ownClosure = s.ownClosure then _ else _) = u
    have hcalm : u.shoulder = s.shoulder ∧ u.faults = s.faults := by
      subst hu
      split
      · exact ⟨rfl, rfl⟩
      · exact ⟨State.flagUrgent_same _ .shoulder (by decide), State.flagUrgent_same _ .faults (by decide)⟩
    rw [u.abortCheck_of_ne (hcalm.1 ▸ hc), ite_self]
    exact ⟨(hmark u).1.trans hcalm.1, (hmark u).2.trans hcalm.2⟩

theorem State.insertClosure_work (s : State) (c : Closure) : s.ClosureWork (s.insertClosure c) := by
  unfold State.insertClosure
  split
  · exact s.putClosure_work _ _
  · exact State.ClosureWork.refl s

theorem State.learnClosure_work (s : State) (c : Closure) : s.ClosureWork (s.learnClosure c) := by
  unfold State.learnClosure
  split
  · exact s.insertClosure_work c
  · split
    · split
      · exact State.ClosureWork.refl s
      · exact s.putClosure_work _ _
    · exact s.putClosure_work _ _

theorem State.absentClosure_work (s : State) (n : Nat) : s.ClosureWork (s.absentClosure n) := by
  unfold State.absentClosure
  split
  · split
    · exact s.putClosure_work _ _
    · exact State.ClosureWork.refl s
  · exact State.ClosureWork.refl s

/-- The learning from a record is work of the closure table (R113 to R115). -/
theorem State.learn_work (s : State) (n : Nat) (r : StatusRecord) : s.ClosureWork (s.learn n r) := by
  unfold State.learn
  split
  · split
    · split
      · exact s.learnClosure_work _
      · exact s.absentClosure_work n
    · exact s.absentClosure_work n
  · exact State.ClosureWork.refl s

/-- With no opening check in progress the closure table leaves the shoulder and the faults alone. -/
theorem State.ClosureWork.calm_same {s t : State} (h : s.ClosureWork t) (hc : s.shoulder.state ≠ .checking) :
    SameOutside [.closures, .retention, .line] s t := by
  obtain ⟨hshoulder, hfaults⟩ := h.calm hc
  intro b hb
  by_cases hb' : b = .shoulder ∨ b = .faults
  · rcases hb' with rfl | rfl
    · exact hshoulder
    · exact hfaults
  · exact h.same b (by simp_all)

/-! ### The neighbour table (R62, R63) -/

theorem mem_putEntry_self (e : Neighbour) (l : List Neighbour) : e ∈ putEntry e l := by
  induction l with
  | nil => simp [putEntry]
  | cons x xs ih =>
    unfold putEntry
    split
    · simp
    · split <;> simp [ih]

/-- An entry of another station stays and none comes in (R63). -/
theorem mem_putEntry_of_ne {e x : Neighbour} (l : List Neighbour) (h : x.station ≠ e.station) : x ∈ putEntry e l ↔ x ∈ l := by
  have hx : x ≠ e := fun he => h (congrArg _ he)
  induction l with
  | nil => simp [putEntry, hx]
  | cons y ys ih =>
    unfold putEntry
    split
    · simp [hx]
    · split
      · next he =>
        have hxy : x ≠ y := fun hxy => h (hxy ▸ he.symm)
        simp [hx, hxy]
      · simp [ih]

theorem State.storeRecord_same (s : State) (n : Nat) (r : StatusRecord) : SameOutside [.neighbours] s (s.storeRecord n r) :=
  SameOutside.ite (s.setNeighbours_same _) (SameOutside.refl _ s)

theorem State.own_congr {s t : State} (h : t.station = s.station) : t.own = s.own := by
  unfold State.own
  rw [h]

/-- Storing reads station control, the time and the table itself. -/
theorem State.storeRecord_neighbours_congr {s t : State} (n : Nat) (r : StatusRecord) (hs : t.station = s.station)
    (hc : t.clock = s.clock) (hn : t.neighbours = s.neighbours) :
    (t.storeRecord n r).neighbours = (s.storeRecord n r).neighbours := by
  have hw : t.inWindow n = s.inWindow n := by
    unfold State.inWindow
    rw [State.own_congr hs, State.cfg_congr hs]
  unfold State.storeRecord State.entryOf
  rw [hw, hc, hn]
  split
  · rfl
  · exact hn

/-- The neighbour table after a body that may be readable has been taken (R61, R62). -/
def State.storedNeighbours (s : State) (n : Nat) (body : List Octet) : Neighbours :=
  match readStatus body with
  | some r => (s.storeRecord n r).neighbours
  | none => s.neighbours

/-- A readable body of a station in the window makes its entry (R62, R63). -/
theorem State.storedNeighbours_of_inWindow (s : State) {n : Nat} {body : List Octet} {r : StatusRecord} (hw : s.inWindow n = true)
    (hr : readStatus body = some r) :
    s.storedNeighbours n body = { s.neighbours with entries := putEntry (s.entryOf n r) s.neighbours.entries } := by
  unfold State.storedNeighbours
  rw [hr]
  exact congrArg State.neighbours (if_pos hw)

/-- Any other leaves the table as it is (R61, R62). -/
theorem State.storedNeighbours_of_not (s : State) {n : Nat} {body : List Octet}
    (h : s.inWindow n = false ∨ readStatus body = none) : s.storedNeighbours n body = s.neighbours := by
  unfold State.storedNeighbours
  rcases h with hw | hr
  · split
    · exact congrArg State.neighbours (if_neg (Bool.eq_false_iff.mp hw))
    · rfl
  · rw [hr]

theorem State.storedNeighbours_cases (s : State) (n : Nat) (body : List Octet) :
    (∃ r, s.inWindow n = true ∧ readStatus body = some r) ∨ s.inWindow n = false ∨ readStatus body = none := by
  cases s.inWindow n <;> cases readStatus body <;> simp

/-- Of the table nothing but the entries changes, and of these none but the source's. -/
theorem State.storedNeighbours_spec (s : State) (n : Nat) (body : List Octet) :
    (s.storedNeighbours n body).isolation = s.neighbours.isolation ∧
      (s.storedNeighbours n body).isolationTimer = s.neighbours.isolationTimer ∧
      ∀ e, e.station ≠ n → (e ∈ (s.storedNeighbours n body).entries ↔ e ∈ s.neighbours.entries) := by
  rcases s.storedNeighbours_cases n body with ⟨r, hw, hr⟩ | h
  · rw [s.storedNeighbours_of_inWindow hw hr]
    exact ⟨rfl, rfl, fun e he => mem_putEntry_of_ne _ he⟩
  · rw [s.storedNeighbours_of_not h]
    exact ⟨rfl, rfl, fun _ _ => Iff.rfl⟩

/-! ### The delivery of a STATUS frame -/

/-- In whichever order the two tables take a record, the entry is made and the learning done, and the readers between them change
what they may (R62, R113). -/
theorem State.inOrder_stored (s before : State) (n : Nat) (r : StatusRecord) (o : Order) (hn : s.notEntered before)
    (hc : s.shoulder.state ≠ .checking) :
    let t := s.inOrder before o (fun t => t.storeRecord n r) (fun t => t.learn n r)
    SameOutside (andReaders [.neighbours, .closures, .retention]) s t ∧ Line.mayFlag s.line t.line ∧
      t.neighbours = (s.storeRecord n r).neighbours := by
  intro t
  rcases s.inOrder_cases before o (fun t => t.storeRecord n r) (fun t => t.learn n r) with ⟨-, e⟩ | ⟨-, e⟩
  · have hstore := s.storeRecord_same n r
    let u := (s.storeRecord n r).serveSome before o.between
    have hserve : (s.storeRecord n r).Served u :=
      State.serveSome_served _ before o.between (State.notEntered_congr (hstore .station (by decide)) hn)
    have hshoulder : u.shoulder = s.shoulder := (hserve.same .shoulder (by decide)).trans (hstore .shoulder (by decide))
    have hline : (s.storeRecord n r).line = s.line := hstore .line (by decide)
    have hlearn := u.learn_work n r
    rw [show t = u.learn n r from e]
    exact ⟨(hstore.trans hserve.same (n := andReaders [.neighbours]) (by decide) (by decide)).trans
        (hlearn.calm_same (hshoulder ▸ hc)) (by decide) (by decide),
      hline ▸ Line.mayFlag_trans (State.serveSome_mayFlag _ before o.between) hlearn.flag,
      (hlearn.same .neighbours (by decide)).trans (hserve.same .neighbours (by decide))⟩
  · have hlearn := s.learn_work n r
    have hsame := hlearn.calm_same hc
    let u := (s.learn n r).serveSome before o.between
    have hserve : (s.learn n r).Served u :=
      State.serveSome_served _ before o.between (State.notEntered_congr (hsame .station (by decide)) hn)
    have hstore := u.storeRecord_same n r
    have hline : (u.storeRecord n r).line = u.line := hstore .line (by decide)
    rw [show t = u.storeRecord n r from e]
    exact ⟨(hsame.trans hserve.same (n := andReaders [.closures, .retention]) (by decide) (by decide)).trans hstore
        (by decide) (by decide),
      hline ▸ Line.mayFlag_trans hlearn.flag (State.serveSome_mayFlag _ before o.between),
      State.storeRecord_neighbours_congr n r (hserve.station.trans (hsame .station (by decide)))
        (hserve.clock.trans (hsame .clock (by decide)))
        ((hserve.same .neighbours (by decide)).trans (hsame .neighbours (by decide)))⟩

/-- A station outside 1 to 62 has no entry (R62). -/
theorem State.storeRecord_of_far (s : State) {n : Nat} (r : StatusRecord) (h : ¬n ≤ 62) : s.storeRecord n r = s := by
  have hw : s.inWindow n = false := decide_eq_false (by omega)
  unfold State.storeRecord
  rw [hw]
  rfl

/-- What the delivery of a STATUS frame leaves to an acting station with no opening check in progress (R61, R62, R113). -/
theorem State.takeStatus_spec (s before : State) (n : Nat) (body : List Octet) (o : Order) (ha : s.acting = true)
    (hn : s.notEntered before) (hc : s.shoulder.state ≠ .checking) :
    SameOutside (andReaders [.neighbours, .closures, .retention]) s (s.takeStatus before n body o) ∧
      Line.mayFlag s.line (s.takeStatus before n body o).line ∧
      (s.takeStatus before n body o).neighbours = s.storedNeighbours n body := by
  have nothing (h : s.storedNeighbours n body = s.neighbours) :
      SameOutside (andReaders [.neighbours, .closures, .retention]) s s ∧ Line.mayFlag s.line s.line ∧
        s.neighbours = s.storedNeighbours n body := ⟨SameOutside.refl _ s, Line.mayFlag_refl _, h.symm⟩
  unfold State.takeStatus
  by_cases h62 : n ≤ 62
  · rw [ha, decide_eq_true h62, Bool.and_self, if_pos rfl]
    cases hr : readStatus body with
    | none => exact nothing (by rw [State.storedNeighbours, hr])
    | some r =>
      rw [State.storedNeighbours, hr]
      exact s.inOrder_stored before n r o hn hc
  · rw [decide_eq_false h62, Bool.and_false, if_neg Bool.false_ne_true]
    refine nothing ?_
    unfold State.storedNeighbours
    split
    · rw [s.storeRecord_of_far _ h62]
    · rfl

/-- A valid STATUS frame that an acting station hears (R46, R61, R62): `a` is the state of its arrival. -/
theorem exec_statusFrame_heard (dt : Nat) (cls : BitVec 2) (source : BitVec 6) (body : List Octet) (o : Order) (s : State)
    (ha : s.acting = true) (hh : s.canHear (Frame.checked cls kindStatus source body) = true) (h0 : source ≠ 0)
    (ho : source.toNat ≠ s.own) (hc : s.shoulder.state ≠ .checking) :
    let a := (s.advance dt).arrivedFrom source.toNat
    ∃ t, exec (.statusFrame dt cls source body o) s = .next t ∧
      SameOutside (andReaders [.neighbours, .closures, .retention]) a t ∧ Line.slotOnly a.line t.line ∧
      t.neighbours = a.storedNeighbours source.toNat body := by
  intro a
  have hentered : a.notEntered (s.advance dt) := State.arrivedFrom_notEntered _ _ ha
  let u := a.serveSome (s.advance dt) o.early
  have hu : a.Served u := a.serveSome_served _ o.early hentered
  have huentered := hu.notEntered hentered
  have hushoulder : u.shoulder = s.shoulder :=
    (hu.same .shoulder (by decide)).trans (State.arrivedFrom_same _ _ .shoulder (by decide))
  have huacting : u.acting = true := hu.acting.trans (State.arrivedFrom_acting _ _ ha)
  obtain ⟨hsame, hflag, hneigh⟩ :=
    u.takeStatus_spec (s.advance dt) source.toNat body o huacting huentered (hushoulder ▸ hc)
  let w := u.takeStatus (s.advance dt) source.toNat body o
  have hw : w.Served (w.settle (s.advance dt) o.late) :=
    w.settle_served _ o.late (State.notEntered_congr (hsame .station (by decide)) huentered)
  have hreceive := (s.advance dt).receive_of_heard (Frame.checked cls kindStatus source body) o
    (fun t => t.takeStatus (s.advance dt) source.toNat body o) hh (Frame.checked_accepted cls body (.inl rfl) h0 ho)
  refine ⟨_, congrArg Host.Outcome.next hreceive, ?_, ?_, ?_⟩
  · exact (hu.same.trans hsame (fun _ h => List.mem_append_right _ h) (fun _ x => x)).trans hw.same (fun _ x => x)
      (fun _ h => List.mem_append_right _ h)
  · have hserve := a.serveSome_mayFlag (s.advance dt) o.early
    exact Line.mayFlag_slotOnly (Line.mayFlag_trans (Line.mayFlag_trans hserve hflag) (w.settle_mayFlag _ o.late))
  · refine (hw.same .neighbours (by decide)).trans (hneigh.trans ?_)
    unfold State.storedNeighbours
    split
    · exact State.storeRecord_neighbours_congr _ _ hu.station hu.clock (hu.same .neighbours (by decide))
    · exact hu.same .neighbours (by decide)

/-- Settles O41: the entry is what `storeRecord` makes of it after the arrival; the closure table touches no entry. -/
theorem statusFrameIsStoredOrHeard : Obligations.StatusFrameIsStoredOrHeard := by
  intro dt cls source body o s ha hh h0 ho hc
  obtain ⟨t, he, hsame, hslot, hneigh⟩ := exec_statusFrame_heard dt cls source body o s ha hh h0 ho hc
  obtain ⟨hstation, hheard, hfaults, hline, -⟩ := (s.advance dt).arrivedFrom_spec source.toNat ha
  generalize haa : (s.advance dt).arrivedFrom source.toNat = a at *
  have hclock : a.clock = s.clock + dt := by
    subst haa
    exact State.arrivedFrom_same _ _ .clock (by decide)
  have hwindow : a.inWindow source.toNat = s.inWindow source.toNat := by
    unfold State.inWindow State.own State.cfg
    rw [hstation]
    rfl
  have hentries : a.neighbours.entries = s.neighbours.entries := by rw [hheard]; rfl
  have hfrom : SameOutside [.clock, .line, .neighbours, .station, .faults] s a :=
    haa ▸ (s.advance_same dt).trans (State.arrivedFrom_same _ _) (by decide) (by decide)
  obtain ⟨hisolation, htimer, hothers⟩ := a.storedNeighbours_spec source.toNat body
  rw [hline] at hslot
  rw [← hneigh] at hisolation htimer hothers
  rw [hheard] at hisolation htimer
  rw [hentries] at hothers
  refine ⟨t, he, (hsame .clock (by decide)).trans hclock, (hsame .station (by decide)).trans hstation,
    (hsame .faults (by decide)).trans hfaults, hisolation, htimer, fun r hw hr => ?_, hothers, fun hno => ?_,
    congrArg Line.rx hslot, (congrArg Line.rejected hslot).trans rfl, ?_⟩
  · rw [hneigh, a.storedNeighbours_of_inWindow (hwindow.trans hw) hr]
    exact ⟨_, mem_putEntry_self _ _, by rw [State.entryOf, hclock]⟩
  · rw [hneigh, a.storedNeighbours_of_not (hwindow ▸ hno), hentries]
  · exact hfrom.trans hsame (by decide) (by decide)

end Sys2Proof.Machine
end

section
/-!
PROOFS. Commands of the gateway that are taken in any order of the readers: the SHOULDER commands (R125, R126, R131).
-/
namespace Sys2Proof.Machine

theorem exec_shoulderOpen_eq (dt : Nat) (low high : Octet) (o : Order) (s : State) :
    exec (.shoulderOpen dt low high o) s = execShoulderOpen dt low high o s := rfl

theorem exec_shoulderClose_eq (dt : Nat) (low high : Octet) (o : Order) (s : State) :
    exec (.shoulderClose dt low high o) s = execShoulderClose dt low high o s := rfl

/-! ### A command that is heard -/

/-- A readable command that addresses the station is handed to its owner after the arrival of its frame and the readers that go
before the delivery; its result is recorded, and the reports are taken last (R175, R176). -/
theorem State.command_of_addressed (s : State) (c : Command) (body : List Octet) (o : Order) (inFault : Bool)
    (owner : State → State × ResultCode) (ho : s.own ≠ 63) (hh : s.canHear (commandFrame c.kind body) = true)
    (hact : ((s.arrived.serveSome s o.early).acting || inFault) = true)
    (hadr : (s.arrived.serveSome s o.early).addresses c = true) :
    s.command c body o inFault owner =
      ((owner (s.arrived.serveSome s o.early)).1.record c.kind (owner (s.arrived.serveSome s o.early)).2).settle s o.late := by
  have hreceive := s.receive_of_heard (commandFrame c.kind body) o (fun t => t.obey c inFault owner) hh
    (commandFrame_rejected _ _ body ho)
  refine hreceive.trans ?_
  rw [show (commandFrame c.kind body).source.toNat = 63 from rfl, ← s.arrived_eq]
  unfold State.obey
  rw [if_pos hadr, if_pos hact]

/-- The state in which an acting station hands a command to its owner. -/
def State.atOwner (s : State) (dt : Nat) (o : Order) : State := (s.advance dt).arrived.serveSome (s.advance dt) o.early

/-- The readers before the delivery leave what the arrival has left, but for what they recompute. -/
theorem State.atOwner_served (s : State) (dt : Nat) (o : Order) (ha : s.acting = true) :
    (s.advance dt).arrived.Served (s.atOwner dt o) :=
  State.serveSome_served _ _ o.early ((s.advance dt).arrivedFrom_notEntered 63 ha)

theorem State.atOwner_acting (s : State) (dt : Nat) (o : Order) (ha : s.acting = true) : (s.atOwner dt o).acting = true :=
  (s.atOwner_served dt o ha).acting.trans ((s.advance dt).arrivedFrom_acting 63 ha)

theorem State.atOwner_station (s : State) (dt : Nat) (o : Order) (ha : s.acting = true) :
    (s.atOwner dt o).station = { s.station with mode := s.mode.heard } :=
  (s.atOwner_served dt o ha).station.trans ((s.advance dt).arrived_spec ha).1

theorem State.atOwner_cfg (s : State) (dt : Nat) (o : Order) (ha : s.acting = true) : (s.atOwner dt o).cfg = s.cfg := by
  unfold State.cfg
  rw [s.atOwner_station dt o ha]

theorem State.atOwner_own (s : State) (dt : Nat) (o : Order) (ha : s.acting = true) : (s.atOwner dt o).own = s.own := by
  unfold State.own
  rw [s.atOwner_station dt o ha]

theorem State.atOwner_same (s : State) (dt : Nat) (o : Order) (ha : s.acting = true) :
    SameOutside (andReaders [.clock, .station, .neighbours, .faults]) s (s.atOwner dt o) :=
  ((s.advance_same dt).trans (State.arrived_same _) (n := andReaders [.clock, .station, .neighbours, .faults]) (by decide)
    (by decide)).trans (s.atOwner_served dt o ha).same (fun _ x => x) (by decide)

/-- Without a report before the delivery a command is handed over as its frame has arrived. -/
theorem State.atOwner_eq (s : State) (dt : Nat) (o : Order) (ha : s.acting = true) (h : s.mode = .isolated → o.early = []) :
    s.atOwner dt o = (s.advance dt).arrived := (s.advance dt).arrivedFrom_serveSome 63 o.early ha h

/-- What a command leaves behind that was handed over, and whose owner has made `w` of the state: it moves the shoulder at most. -/
theorem State.commanded_of_atOwner (s w : State) (dt : Nat) (o : Order) (kind : CommandKind) (r : ResultCode) {moved n : List Block}
    (ha : s.acting = true) (hw : SameOutside moved (s.atOwner dt o) w) (hflag : Line.mayFlag (s.atOwner dt o).line w.line)
    (hmoved : moved ⊆ [.shoulder, .line]) (hn : andReaders [.clock, .station, .neighbours, .faults] ⊆ n) (hin : moved ⊆ n) :
    let t := (w.record kind r).settle (s.advance dt) o.late
    s.commanded dt kind r t ∧ t.shoulder = w.shoulder ∧ Line.mayFlag w.line t.line ∧
      Line.slotOnly (s.line.toIdle (s.clock + dt)) t.line ∧ t.faults = s.faults.close .neighbourLost 63 ∧ SameOutside n s t := by
  intro t
  obtain ⟨-, hneigh, hfaults, hline, -⟩ := (s.advance dt).arrived_spec ha
  have hserved := s.atOwner_served dt o ha
  have hout {b : Block} (h : b ∉ [Block.shoulder, Block.line]) : b ∉ moved := fun hb => h (hmoved hb)
  have hstation : w.station = { s.station with mode := s.mode.heard } :=
    (hw .station (hout (by decide))).trans (s.atOwner_station dt o ha)
  have hentered : (w.record kind r).notEntered (s.advance dt) := by
    intro h
    have hm : w.station.mode = .isolated := h
    rw [hstation] at hm
    exact absurd hm (Mode.heard_ne_isolated _)
  have hset : (w.record kind r).Served t := (w.record kind r).settle_served _ o.late hentered
  have hlast : Line.mayFlag w.line t.line := (w.record kind r).settle_mayFlag (s.advance dt) o.late
  have hrecord : SameOutside n s (w.record kind r) :=
    ((s.atOwner_same dt o ha).trans hw hn hin).trans (w.record_same kind r) (fun _ x => x) (fun _ h => hn (by simp_all [andReaders]))
  refine ⟨⟨?_, ?_, ?_⟩, hset.same .shoulder (by decide), hlast, ?_, ?_, hrecord.trans hset.same (fun _ x => x)
    (fun _ h => hn (List.mem_append_right _ h))⟩
  · exact hset.clock.trans ((hw .clock (hout (by decide))).trans (hserved.clock.trans
      ((s.advance dt).arrived_same .clock (by decide))))
  · exact (hset.same .neighbours (by decide)).trans ((hw .neighbours (hout (by decide))).trans
      ((hserved.same .neighbours (by decide)).trans hneigh))
  · rw [hset.station, State.record, State.setStation_station, hstation]
  · have hserve := (s.advance dt).arrived.serveSome_mayFlag (s.advance dt) o.early
    rw [hline] at hserve
    exact Line.mayFlag_slotOnly (Line.mayFlag_trans (Line.mayFlag_trans hserve hflag) hlast)
  · exact hset.faults.trans ((hw .faults (hout (by decide))).trans (hserved.faults.trans hfaults))

/-! ### The moves of the shoulder (R126, R129, R131) -/

/-- The shoulder controller may have moved the shoulder, and a change of its state is urgent (R131). -/
structure State.ShoulderWork (s t : State) : Prop where
  same : SameOutside [.shoulder, .line] s t
  flag : Line.mayFlag s.line t.line
  urgent : s.acting = true → t.shoulder.state ≠ s.shoulder.state → t.line.urgent = true ∧ t.line.pending = true

theorem State.ShoulderWork.refl (s : State) : s.ShoulderWork s :=
  ⟨SameOutside.refl _ s, Line.mayFlag_refl _, fun _ h => absurd rfl h⟩

theorem State.moveShoulder_shoulder (s : State) (x : Shoulder) : (s.moveShoulder x).shoulder = x := by
  unfold State.moveShoulder
  split
  · rfl
  · exact (s.setShoulder x).flagUrgent_same .shoulder (by decide)

theorem State.moveShoulder_work (s : State) (x : Shoulder) : s.ShoulderWork (s.moveShoulder x) := by
  refine ⟨s.moveShoulder_same x, s.moveShoulder_mayFlag x, fun ha h => ?_⟩
  rw [s.moveShoulder_shoulder x] at h
  unfold State.moveShoulder
  rw [if_neg h]
  exact (s.setShoulder x).flagUrgent_urgent ha

theorem State.takeOpen_work (s : State) : s.ShoulderWork s.takeOpen.1 := by
  unfold State.takeOpen
  split
  · exact State.ShoulderWork.refl s
  · split
    · split
      · exact State.ShoulderWork.refl s
      · exact s.moveShoulder_work _
    · exact State.ShoulderWork.refl s
    · exact State.ShoulderWork.refl s
    · split
      · exact State.ShoulderWork.refl s
      · exact s.moveShoulder_work _

theorem State.takeClose_work (s : State) : s.ShoulderWork s.takeClose.1 := by
  unfold State.takeClose
  split
  · exact State.ShoulderWork.refl s
  · split
    · exact State.ShoulderWork.refl s
    · exact s.moveShoulder_work _
    · exact s.moveShoulder_work _
    · exact State.ShoulderWork.refl s

/-- OPEN, by the shoulder state and the conditions of R126 (R125, Table 8-2). -/
theorem State.takeOpen_spec (s : State) :
    s.takeOpen.2 =
        (if s.cfg.shoulderLane = false then .refusedConfig
        else if (s.shoulder.state = .closed ∨ s.shoulder.state = .closing) ∧ s.openingRefused = true then .refusedState
        else .accepted) ∧
      s.takeOpen.1.shoulder =
        (if s.cfg.shoulderLane = false ∨ ((s.shoulder.state = .closed ∨ s.shoulder.state = .closing) ∧ s.openingRefused = true)
          then s.shoulder
        else if s.shoulder.state = .closed then
          { s.shoulder with state := .checking, checkTimer := some (s.clock + s.cfg.checkTime * second) }
        else if s.shoulder.state = .closing then { state := .opened, checkTimer := none, clearanceTimer := none }
        else s.shoulder) := by
  unfold State.takeOpen State.startCheck State.openShoulder
  cases s.cfg.shoulderLane
  · exact ⟨rfl, rfl⟩
  · cases s.shoulder.state <;> cases s.openingRefused <;> simp [State.moveShoulder_shoulder]

/-- CLOSE, by the shoulder state (R125, R129, Table 8-2). -/
theorem State.takeClose_spec (s : State) :
    s.takeClose.2 = (if s.cfg.shoulderLane then .accepted else .refusedConfig) ∧
      s.takeClose.1.shoulder =
        (if s.cfg.shoulderLane = false then s.shoulder
        else if s.shoulder.state = .checking then { state := .closed, checkTimer := none, clearanceTimer := none }
        else if s.shoulder.state = .opened then
          { state := .closing, checkTimer := none, clearanceTimer := some (s.clock + s.cfg.clearanceTime * second) }
        else s.shoulder) := by
  unfold State.takeClose State.closeShoulder State.startClosing
  cases s.cfg.shoulderLane
  · exact ⟨rfl, rfl⟩
  · cases s.shoulder.state <;> simp [State.moveShoulder_shoulder]

theorem State.takeOtherAction_eq (s : State) :
    s.takeOtherAction = (s, if s.cfg.shoulderLane then .refusedRange else .refusedConfig) := by
  unfold State.takeOtherAction
  cases s.cfg.shoulderLane <;> rfl

/-! ### The SHOULDER commands -/

/-- A SHOULDER command addresses the stations of its range (R175). -/
theorem State.atOwner_addresses_shoulder (s : State) (dt : Nat) (o : Order) (ha : s.acting = true) {low high : Nat} (action : Nat)
    (hl : low ≤ s.own) (hu : s.own ≤ high) : (s.atOwner dt o).addresses (.shoulder low high action) = true := by
  unfold State.addresses
  rw [s.atOwner_own dt o ha]
  exact decide_eq_true ⟨hl, hu⟩

/-- What a SHOULDER command leaves behind that is heard and addresses the station. -/
theorem exists_next_shoulder {res : Result} {s : State} {dt action : Nat} {low high : Nat} {body : List Octet} {o : Order}
    {owner : State → State × ResultCode} (ha : s.acting = true) (ho : s.own ≠ 63) (hl : low ≤ s.own) (hu : s.own ≤ high)
    (hh : s.canHear (commandFrame .shoulder body) = true) (hwork : ∀ t : State, t.ShoulderWork (owner t).1)
    (hres : res = .next ((s.advance dt).command (.shoulder low high action) body o false owner)) :
    let w := owner (s.atOwner dt o)
    ∃ t, res = .next t ∧ s.commanded dt .shoulder w.2 t ∧ t.shoulder = w.1.shoulder ∧
      (t.shoulder.state ≠ s.shoulder.state → t.line.urgent = true ∧ t.line.pending = true) ∧
      t.faults = s.faults.close .neighbourLost 63 ∧ Line.slotOnly (s.line.toIdle (s.clock + dt)) t.line ∧
      SameOutside (andReaders [.clock, .station, .neighbours, .faults, .shoulder]) s t := by
  intro w
  have hw : (s.atOwner dt o).ShoulderWork w.1 := hwork _
  have hact := s.atOwner_acting dt o ha
  have hcommand := (s.advance dt).command_of_addressed (.shoulder low high action) body o false owner ho hh
    ((congrArg (· || false) hact).trans rfl) (s.atOwner_addresses_shoulder dt o ha action hl hu)
  obtain ⟨hcommanded, hshoulder, hflag, hslot, hfaults, hsame⟩ := s.commanded_of_atOwner w.1 dt o .shoulder w.2
    (n := andReaders [.clock, .station, .neighbours, .faults, .shoulder]) ha hw.same hw.flag (fun _ x => x) (by decide) (by decide)
  refine ⟨_, hres.trans (congrArg Host.Outcome.next hcommand), hcommanded, hshoulder, fun hne => ?_, hfaults, hslot, hsame⟩
  refine Line.mayFlag_urgent hflag (hw.urgent hact ?_)
  rw [show (s.atOwner dt o).shoulder = s.shoulder from s.atOwner_same dt o ha .shoulder (by decide)]
  exact hshoulder ▸ hne

/-- The conditions of R126 as they stood before the command, but for the mode, which the arrival may have changed (R71). -/
theorem State.openingRefused_arrived (s : State) (dt : Nat) (ha : s.acting = true) :
    (s.advance dt).arrived.openingRefused =
      (s.mode.heard != .running || s.laneNamed .l1 || (s.signs.lanes.get .l1).state == .failed ||
        (s.signs.lanes.get .l1).state == .mismatch || (s.detector.lanes.get .l1).mode == .none) := by
  obtain ⟨hstation, -, -, -, hsigns⟩ := (s.advance dt).arrived_spec ha
  have hsame := (s.advance dt).arrived_same
  have hnamed : (s.advance dt).arrived.laneNamed .l1 = s.laneNamed .l1 := by
    unfold State.laneNamed State.applying State.entries State.own
    rw [hstation, show (s.advance dt).arrived.closures = s.closures from hsame .closures (by decide)]
    rfl
  unfold State.openingRefused State.mode
  rw [hnamed, hstation, hsigns, show (s.advance dt).arrived.detector = s.detector from hsame .detector (by decide)]
  rfl

/-- Settles O50: the command is handed to the shoulder controller after the arrival, and acts as Table 8-2 says. -/
theorem shoulderCommandsActByTheState : Obligations.ShoulderCommandsActByTheState := by
  refine ⟨?_, ?_, ?_⟩
  · intro dt low high o s ha ho hl hu hh hearly refused
    have hhanded := s.atOwner_eq dt o ha hearly
    have hspec := (s.atOwner dt o).takeOpen_spec
    have hclock : (s.atOwner dt o).clock = s.clock + dt := by
      rw [hhanded]
      exact (s.advance dt).arrived_same .clock (by decide)
    rw [s.atOwner_cfg dt o ha, show (s.atOwner dt o).shoulder = s.shoulder from s.atOwner_same dt o ha .shoulder (by decide),
      hclock, show (s.atOwner dt o).openingRefused = refused from hhanded ▸ s.openingRefused_arrived dt ha] at hspec
    obtain ⟨hresult, hshoulder⟩ := hspec
    obtain ⟨t, he, hcommanded, hmoved, hrest⟩ :=
      exists_next_shoulder ha ho hl hu hh State.takeOpen_work (exec_shoulderOpen_eq dt low high o s)
    exact ⟨t, he, hresult ▸ hcommanded, hmoved.trans hshoulder, hrest⟩
  · intro dt low high o s ha ho hl hu hh
    have hspec := (s.atOwner dt o).takeClose_spec
    have hclock : (s.atOwner dt o).clock = s.clock + dt :=
      (s.atOwner_served dt o ha).clock.trans ((s.advance dt).arrived_same .clock (by decide))
    rw [s.atOwner_cfg dt o ha, show (s.atOwner dt o).shoulder = s.shoulder from s.atOwner_same dt o ha .shoulder (by decide),
      hclock] at hspec
    obtain ⟨hresult, hshoulder⟩ := hspec
    obtain ⟨t, he, hcommanded, hmoved, hrest⟩ :=
      exists_next_shoulder ha ho hl hu hh State.takeClose_work (exec_shoulderClose_eq dt low high o s)
    exact ⟨t, he, hresult ▸ hcommanded, hmoved.trans hshoulder, hrest⟩
  · intro dt low high action s ha ho hl hu h1 h2 hh
    have hcommand := (s.advance dt).command_of_addressed (.shoulder low.toNat high.toNat action.toNat) [low, high, action]
      Order.plain false State.takeOtherAction ho hh ((congrArg (· || false) (s.atOwner_acting dt Order.plain ha)).trans rfl)
      (s.atOwner_addresses_shoulder dt Order.plain ha action.toNat hl hu)
    have hresult : (s.atOwner dt Order.plain).takeOtherAction =
        (s.atOwner dt Order.plain, if s.cfg.shoulderLane then .refusedRange else .refusedConfig) := by
      rw [State.takeOtherAction_eq, s.atOwner_cfg dt Order.plain ha]
    obtain ⟨hcommanded, -, -, hslot, hfaults, hsame⟩ := s.commanded_of_atOwner (s.atOwner dt Order.plain) dt Order.plain .shoulder
      (if s.cfg.shoulderLane then .refusedRange else .refusedConfig)
      (n := andReaders [.clock, .station, .neighbours, .faults]) ha (SameOutside.refl [] _) (Line.mayFlag_refl _) (by decide)
      (fun _ x => x) (by decide)
    rw [show (s.advance dt).arrived.serveSome (s.advance dt) Order.plain.early = s.atOwner dt Order.plain from rfl, hresult] at hcommand
    exact ⟨_, (if_neg (not_or.mpr ⟨h1, h2⟩)).trans (congrArg Host.Outcome.next hcommand), hcommanded, hfaults, hslot, hsame⟩

end Sys2Proof.Machine
end

section
/-!
PROOFS. The REQUEST for FAULTS (R56, R180, R181), which is taken in CONFIG_FAULT too.
-/
namespace Sys2Proof.Machine

/-! ### The report and its places -/

/-- The FAULTS report reads the mode, the fault list, the line's two counts and the last command (R181). -/
theorem State.faultsReport_congr {s t : State} (hm : t.mode = s.mode) (hf : t.faults = s.faults)
    (hr : t.line.rejected = s.line.rejected) (ha : t.line.aborts = s.line.aborts)
    (hl : t.station.lastCommand = s.station.lastCommand) : t.faultsReport = s.faultsReport := by
  simp only [State.faultsReport, State.faultsBody, State.faultFrames, hm, hf, hr, ha, hl]

/-- A report enters the reply queue whole, or not at all (R180). -/
theorem State.answer_spec (s : State) (bodies : List (List Octet)) :
    (s.answer bodies).2 = (if 4 - s.line.replies.length < bodies.length then .busy else .accepted) ∧
      SameOutside [.line] s (s.answer bodies).1 ∧
      Line.slotOnly
        { s.line with replies := s.line.replies ++ if 4 - s.line.replies.length < bodies.length then [] else bodies }
        (s.answer bodies).1.line := by
  unfold State.answer State.freePlaces
  split
  · rw [List.append_nil]
    exact ⟨rfl, SameOutside.refl _ s, Line.slotOnly_refl _⟩
  · exact ⟨rfl, s.enqueue_same bodies, Line.wake_slotOnly _⟩

/-! ### The request -/

/-- The fault list and station control as a request finds them, its frame having arrived where the station acts. -/
def State.asked (s : State) : State :=
  if s.acting then { s with faults := s.faults.close .neighbourLost 63, station := { s.station with mode := s.mode.heard } } else s

/-- Outside the acting modes an arrival returns the receiver to IDLE and does nothing else (R70). -/
theorem State.arrived_of_not_acting (s : State) (ha : s.acting = false) : s.arrived = s.setLine (s.line.toIdle s.clock) := by
  have ha' : (s.setLine (s.line.toIdle s.clock)).acting = false := ha
  unfold State.arrived State.noteArrival
  rw [ha']
  rfl

/-- What a request finds is what `asked` says, with the receiver in IDLE. -/
theorem State.arrived_asked (s : State) :
    s.arrived.faults = s.asked.faults ∧ s.arrived.station = s.asked.station ∧ s.arrived.line = s.line.toIdle s.clock := by
  unfold State.asked
  cases ha : s.acting
  · rw [s.arrived_of_not_acting ha]
    exact ⟨rfl, rfl, rfl⟩
  · obtain ⟨hstation, -, hfaults, hline, -⟩ := s.arrived_spec ha
    exact ⟨hfaults, hstation, hline⟩

theorem State.asked_line (s : State) : s.asked.line = s.line := by
  unfold State.asked
  split <;> rfl

theorem State.asked_advance (s : State) (dt : Nat) : (s.advance dt).asked = s.asked.advance dt := by
  unfold State.asked
  rw [State.advance_acting]
  split <;> rfl

theorem State.arrived_own (s : State) : s.arrived.own = s.own := by
  obtain ⟨-, hstation, -⟩ := s.arrived_asked
  rw [State.own_congr hstation]
  unfold State.asked
  split <;> rfl

theorem State.arrived_faultsReport (s : State) : s.arrived.faultsReport = s.asked.faultsReport := by
  obtain ⟨hfaults, hstation, hline⟩ := s.arrived_asked
  refine State.faultsReport_congr ?_ hfaults ?_ ?_ (congrArg Station.lastCommand hstation)
  · exact congrArg Station.mode hstation
  · rw [hline, s.asked_line]
    rfl
  · rw [hline, s.asked_line]
    rfl

/-- A REQUEST for FAULTS that is heard is answered from the state of its arrival, in CONFIG_FAULT too (R180). -/
theorem exec_requestFaults_answered (dt : Nat) (station lane count : Octet) (s : State) (ho : s.own ≠ 63)
    (hs : station.toNat = s.own) (hh : s.canHear (commandFrame .request [station, 1, lane, count]) = true) :
    let w := (s.advance dt).arrived.answer (s.advance dt).arrived.faultsReport
    exec (.requestFaults dt station lane count) s = .next ((w.1.record .request w.2).settle (s.advance dt) []) := by
  intro w
  have hnone : (s.advance dt).arrived.serveSome (s.advance dt) Order.plain.early = (s.advance dt).arrived := ite_self _
  have hadr : (s.advance dt).arrived.addresses (.request station.toNat 1 lane.toNat count.toNat) = true :=
    beq_iff_eq.mpr (hs.trans (s.advance dt).arrived_own.symm)
  have hcommand := (s.advance dt).command_of_addressed (.request station.toNat 1 lane.toNat count.toNat)
    [station, 1, lane, count] Order.plain true (fun t => t.answer t.faultsReport) ho hh (Bool.or_true _) (by rw [hnone]; exact hadr)
  rw [hnone] at hcommand
  exact congrArg Host.Outcome.next hcommand

/-- What a recorded answer leaves behind, where the station acts and where it does not. -/
theorem State.answered_spec (s w : State) (dt : Nat) (r : ResultCode) (hw : SameOutside [.line] (s.advance dt).arrived w) :
    let t := (w.record .request r).settle (s.advance dt) []
    t.clock = s.clock + dt ∧ t.faults = s.asked.faults ∧
      t.station = { s.asked.station with lastCommand := some ⟨.request, r⟩ } ∧
      t.neighbours = (if s.acting then s.heardNeighbours dt else s.neighbours) ∧ Line.slotOnly w.line t.line ∧
      SameOutside (andReaders [.clock, .station, .neighbours, .faults]) s t := by
  intro t
  unfold State.asked
  cases ha : s.acting
  · have ha' : (s.advance dt).acting = false := ha
    have harrived := (s.advance dt).arrived_of_not_acting ha'
    rw [harrived] at hw
    have hstation : w.station = s.station := hw .station (by decide)
    have hacting : (w.record .request r).acting = false := by
      show w.station.mode.acting = false
      rw [hstation]
      exact ha
    have ht : t = w.record .request r := if_neg (by rw [hacting]; exact Bool.false_ne_true)
    have hsame : SameOutside [.clock, .line] s w := (s.advance_setLine_same dt _).1.trans hw (fun _ x => x) (by decide)
    rw [ht]
    refine ⟨hw .clock (by decide), hsame .faults (by decide), ?_,
      hsame .neighbours (by decide), Line.slotOnly_refl _,
      hsame.trans (w.record_same _ _) (by decide) (by decide)⟩
    rw [State.record, State.setStation_station, hstation]
    rfl
  · obtain ⟨⟨hclock, hneigh, hstation⟩, hslot, -, hfaults, hsame⟩ := s.commanded_of_settle w dt .request r
      (n := andReaders [.clock, .station, .neighbours, .faults]) ha hw (by decide) (fun _ x => x) (by decide)
    exact ⟨hclock, hfaults, hstation, hneigh, hslot, hsame⟩

/-- Settles O58: the answer of the arrival's state, recorded. -/
theorem faultsRequestAnswersWholeOrNotAtAll : Obligations.FaultsRequestAnswersWholeOrNotAtAll := by
  intro dt station lane count s _ ho hs hh u places
  have hanswered := exec_requestFaults_answered dt station lane count s ho hs hh
  obtain ⟨hresult, hsame, hslot⟩ := (s.advance dt).arrived.answer_spec (s.advance dt).arrived.faultsReport
  have hreport : (s.advance dt).arrived.faultsReport = (List.range places).map (fun i => u.faultsBody (i + 1)) := by
    rw [State.arrived_faultsReport, State.asked_advance]
    rfl
  have hlength : (s.advance dt).arrived.faultsReport.length = places := by rw [hreport]; simp
  have hline : (s.advance dt).arrived.line = s.line.toIdle (s.clock + dt) := (s.advance dt).arrived_asked.2.2
  rw [hlength, hline] at hslot hresult
  rw [hreport] at hanswered hresult hsame hslot
  obtain ⟨hclock, hfaults, hstation, hneigh, hlast, hblocks⟩ := s.answered_spec _ dt _ hsame
  obtain ⟨hreplies, hkept⟩ := Line.slotOnly_replies (Line.slotOnly_trans hslot hlast)
  refine ⟨_, hanswered, hclock, hfaults, ?_, hneigh, hreplies, hkept, hblocks⟩
  rw [hstation, hresult]
  rfl

end Sys2Proof.Machine
end

section
/-!
PROOFS. The holds of a frame's marks give the receiver the frame's digits (R40, R41, R44).
-/
namespace Sys2Proof.Machine

/-! ### Numbers and their digits (section 13.1) -/

theorem foldl_digitsOf (w n acc : Nat) :
    (digitsOf w n).foldl (fun acc d => 2 * acc + d.toNat) acc = acc * 2 ^ w + n % 2 ^ w := by
  induction w generalizing acc with
  | zero => simp [digitsOf, Nat.mod_one]
  | succ w ih =>
    rw [digitsOf, List.foldl_cons, ih, Nat.mod_pow_succ, Nat.toNat_testBit, Nat.pow_succ]
    ring

/-- The digits of a number spell it, as far as they go. -/
theorem numberOf_digitsOf (w n : Nat) : numberOf (digitsOf w n) = n % 2 ^ w :=
  (foldl_digitsOf w n 0).trans (by simp)

/-! ### The digits of a frame (section 3.2) -/

theorem octetsDigits_length (os : List Octet) : (octetsDigits os).length = 8 * os.length :=
  length_flatMap_of_const octetDigits 8 (fun o => digitsOf_length 8 o.toNat) os

/-- A frame has 12 header digits, 5 of the length, 8 for each octet of the body, and 16 check digits. -/
theorem Frame.digits_length (f : Frame) : f.digits.length = 33 + 8 * f.body.length := by
  simp only [Frame.digits, Frame.checkedDigits, List.length_append, Frame.headerDigits_length, digitsOf_length,
    octetsDigits_length]
  omega

/-- Seventeen digits of a frame, or more, tell its length. -/
theorem Frame.lengthOf_prefix (f : Frame) (hf : f.body.length ≤ 30) {pre rest : List Bool} (h : pre ++ rest = f.digits)
    (hl : 17 ≤ pre.length) : lengthOf pre = f.body.length := by
  have hdigits : (f.digits.drop 12).take 5 = digitsOf 5 f.body.length := by
    have hheader : f.digits.drop 12 = digitsOf 5 f.body.length ++ (octetsDigits f.body ++ digitsOf 16 f.check.toNat) := by
      unfold Frame.digits Frame.checkedDigits
      simp only [List.append_assoc]
      exact List.drop_left' f.headerDigits_length
    rw [hheader]
    exact List.take_left' (digitsOf_length 5 _)
  have hpre : (pre.drop 12).take 5 = (f.digits.drop 12).take 5 := by
    rw [← h, List.drop_append_of_le_length (by omega), List.take_append_of_le_length (by simp; omega)]
  unfold lengthOf
  rw [hpre, hdigits, numberOf_digitsOf]
  omega

/-! ### The receiver within a frame (Table 3-3) -/

/-- The phase in which a frame with a body of `len` octets has the receiver after `n` digits. -/
def phaseAfter (len n : Nat) : Phase :=
  if n < 12 then .header else if n < 17 then .length else if n < 17 + 8 * len then .body else .check

/-- The receiver after a frame's first digits. -/
def receiverAfter (len : Nat) (digits : List Bool) : Receiver :=
  { phase := phaseAfter len digits.length, gapSeen := false, digits := digits }

theorem phaseAfter_ne_idle (len n : Nat) : phaseAfter len n ≠ .idle := by
  unfold phaseAfter
  repeat' split
  all_goals exact nofun

/-- The hold of a digit's mark is heard as the digit (R40, R41). -/
theorem hearHold_digit (rx : Receiver) (d : Bool) (h : rx.phase ≠ .idle) :
    hearHold rx (10 * (markOfDigit d).held) = hearDigit rx d := by
  have hclass : classifyHold (10 * (markOfDigit d).held) = if d then .short else .long := by cases d <;> rfl
  unfold hearHold
  rw [hclass]
  cases d <;> cases hp : rx.phase <;> simp_all

/-- A digit that is not the frame's last takes the receiver one digit on, and the last completes the frame (R44). -/
theorem hearDigit_receiverAfter {len : Nat} {pre : List Bool} (d : Bool) (hlen : len ≤ 30)
    (hl : 17 ≤ (pre ++ [d]).length → lengthOf (pre ++ [d]) = len) (hle : pre.length + 1 ≤ 33 + 8 * len) :
    hearDigit (receiverAfter len pre) d =
      if pre.length + 1 < 33 + 8 * len then .waiting (receiverAfter len (pre ++ [d])) else .complete (pre ++ [d]) := by
  have hsucc : (pre ++ [d]).length = pre.length + 1 := List.length_append
  rw [hsucc] at hl
  unfold hearDigit receiverAfter phaseAfter
  simp only [hsucc]
  by_cases h12 : pre.length < 12
  · rw [if_pos h12, if_pos (show pre.length + 1 < 33 + 8 * len by omega)]
    by_cases hheader : pre.length + 1 < 12
    · simp only [if_pos hheader]
    · simp only [if_neg hheader, if_pos (show pre.length + 1 < 17 by omega)]
  have n12 : ¬pre.length + 1 < 12 := by omega
  rw [if_neg h12]
  by_cases h17 : pre.length < 17
  · rw [if_pos h17, if_pos (show pre.length + 1 < 33 + 8 * len by omega)]
    by_cases h16 : pre.length + 1 < 17
    · simp only [if_neg n12, if_pos h16]
    · simp only [if_neg n12, if_neg h16, hl (by omega), if_neg (show ¬30 < len by omega)]
      by_cases hempty : len = 0
      · simp only [if_pos hempty, if_neg (show ¬pre.length + 1 < 17 + 8 * len by omega)]
      · simp only [if_neg hempty, if_pos (show pre.length + 1 < 17 + 8 * len by omega)]
  have n17 : ¬pre.length + 1 < 17 := by omega
  rw [if_neg h17]
  by_cases hbody : pre.length < 17 + 8 * len
  · rw [if_pos hbody, if_pos (show pre.length + 1 < 33 + 8 * len by omega)]
    simp only [hl (by omega), if_neg n12, if_neg n17]
  · simp only [if_neg hbody, hl (by omega), if_neg n12, if_neg n17, if_neg (show ¬pre.length + 1 < 17 + 8 * len by omega)]

/-- The holds of the rest of a frame's digits complete it. -/
theorem hearHolds_rest (f : Frame) (hf : f.body.length ≤ 30) (rest pre : List Bool) (h : pre ++ rest = f.digits) (hne : rest ≠ []) :
    hearHolds (receiverAfter f.body.length pre) (rest.map (fun d => 10 * (markOfDigit d).held)) = some (.complete f.digits) := by
  induction rest generalizing pre with
  | nil => exact absurd rfl hne
  | cons d ds ih =>
    have hcut : (pre ++ [d]) ++ ds = f.digits := by simpa using h
    have hcount : pre.length + 1 + ds.length = 33 + 8 * f.body.length := by
      rw [← f.digits_length, ← hcut, List.length_append, List.length_append, List.length_singleton]
    have hhear := hearDigit_receiverAfter d hf (fun hl => f.lengthOf_prefix hf hcut hl) (by omega)
    rw [List.map_cons, hearHolds, hearHold_digit _ _ (phaseAfter_ne_idle _ _), hhear]
    cases ds with
    | nil =>
      rw [if_neg (by simp at hcount; omega)]
      simpa using hcut
    | cons e es =>
      rw [if_pos (by simp at hcount; omega)]
      exact ih (pre ++ [d]) hcut (List.cons_ne_nil e es)

/-- Settles O17: the start hold opens the frame, and its digits follow one by one. -/
theorem frameMarksAreHeardAsItsDigits : Obligations.FrameMarksAreHeardAsItsDigits := by
  intro f hf
  have hne : f.digits ≠ [] := List.ne_nil_of_length_pos (by rw [f.digits_length]; omega)
  have hmarks : f.marks.map (fun m => 10 * m.held) = 40 :: f.digits.map (fun d => 10 * (markOfDigit d).held) := by
    simp [Frame.marks, Mark.held, Function.comp_def]
  have hstart : hearHold { phase := .idle, gapSeen := true, digits := [] } 40 = .waiting (receiverAfter f.body.length []) := rfl
  rw [hmarks, hearHolds, hstart]
  exact hearHolds_rest f hf f.digits [] rfl hne

end Sys2Proof.Machine
end

section
/-!
PROOFS. The start-up check that ends in CONFIG_FAULT (R53, R160, R165 to R167, R170).
-/
namespace Sys2Proof.Machine

/-! ### The order of the ladder (R75, R167) -/

/-- The ladder is in order from the step before to this one. -/
def StationConfig.inOrderAt (c : StationConfig) (k : Nat) : Prop :=
  c.limit.get k < c.limit.get (k - 1) ∧ c.sEnter.get k ≤ c.sEnter.get (k - 1) ∧ c.oEnter.get (k - 1) ≤ c.oEnter.get k

/-- The field that breaks the ladder at a step, if one does (log 17). -/
def StationConfig.breakAt (c : StationConfig) (k : Nat) : Option Nat :=
  if c.limit.get (k - 1) ≤ c.limit.get k then some (29 + k)
  else if c.sEnter.get (k - 1) < c.sEnter.get k then some (35 + k)
  else if c.oEnter.get k < c.oEnter.get (k - 1) then some (41 + k)
  else none

theorem ladderBreak_eq (c : StationConfig) : ladderBreak c = [2, 3, 4, 5, 6].findSome? c.breakAt := rfl

theorem StationConfig.breakAt_eq_none (c : StationConfig) (k : Nat) : c.breakAt k = none ↔ c.inOrderAt k := by
  unfold StationConfig.breakAt StationConfig.inOrderAt
  split_ifs <;> simp <;> omega

theorem StationConfig.breakAt_eq_some (c : StationConfig) {k n : Nat} (h : c.breakAt k = some n) :
    n = if c.limit.get (k - 1) ≤ c.limit.get k then 29 + k
      else if c.sEnter.get (k - 1) < c.sEnter.get k then 35 + k
      else 41 + k := by
  unfold StationConfig.breakAt at h
  split_ifs at h ⊢ <;> exact (Option.some.inj h).symm

theorem mem_ladderSteps (k : Nat) : k ∈ [2, 3, 4, 5, 6] ↔ 2 ≤ k ∧ k ≤ 6 := by
  simp only [List.mem_cons, List.not_mem_nil, or_false]
  omega

/-- The ladder holds when every step is in order, and else its first break is named. -/
theorem ladderBreak_spec (c : StationConfig) :
    (ladderBreak c = none ↔ ∀ k, 2 ≤ k → k ≤ 6 → c.inOrderAt k) ∧
      ∀ n, ladderBreak c = some n → ∃ k, 2 ≤ k ∧ k ≤ 6 ∧ (∀ j, 2 ≤ j → j < k → c.inOrderAt j) ∧ c.breakAt k = some n := by
  rw [ladderBreak_eq]
  constructor
  · simp only [List.findSome?_eq_none_iff, mem_ladderSteps, c.breakAt_eq_none, and_imp]
  · intro n h
    obtain ⟨before, k, after, hlist, hk, hbefore⟩ := List.findSome?_eq_some_iff.mp h
    have hmem (j : Nat) : j ∈ before ++ k :: after ↔ 2 ≤ j ∧ j ≤ 6 := hlist ▸ mem_ladderSteps j
    have hsorted : (before ++ k :: after).Pairwise (· < ·) := hlist ▸ (by decide)
    obtain ⟨-, hafter, -⟩ := List.pairwise_append.mp hsorted
    obtain ⟨h2, h6⟩ := (hmem k).mp (by simp)
    refine ⟨k, h2, h6, fun j hj hjk => (c.breakAt_eq_none j).mp (hbefore j ?_), hk⟩
    rcases List.mem_append.mp ((hmem j).mpr ⟨hj, by omega⟩) with hin | hin
    · exact hin
    · rcases List.mem_cons.mp hin with rfl | hin
      · omega
      · have := (List.pairwise_cons.mp hafter).1 j hin
        omega

/-! ### The fields of an image (R166) -/

theorem readFields_length (fields : List Field) (os : List Octet) : (readFields fields os).length = fields.length := by
  induction fields generalizing os with
  | nil => rfl
  | cons f fs ih =>
    unfold readFields
    repeat' split
    all_goals simp [ih]

/-- A field of an image is taken from the value that is stored for it (R166). -/
theorem takenFields_getElem? (os : List Octet) {i : Nat} {f : Field} (hf : imageFields[i]? = some f) :
    ∃ v, (takenFields os)[i]? = some (f.taken v) := by
  have hi : i < (readFields imageFields os).length := by
    rw [readFields_length]
    exact lt_length_of_getElem?_eq_some hf
  refine ⟨(readFields imageFields os)[i], ?_⟩
  have hzip : (imageFields.zip (readFields imageFields os))[i]? = some (f, (readFields imageFields os)[i]) :=
    List.getElem?_zip_eq_some.mpr ⟨hf, List.getElem?_eq_getElem hi⟩
  rw [takenFields, List.getElem?_map, hzip]
  rfl

/-- The publication period that is taken lies in its range (Table 3-5, R166). -/
theorem period_of_image (os : List Octet) :
    1 ≤ (configOf (takenFields os)).period ∧ (configOf (takenFields os)).period ≤ 10 := by
  obtain ⟨v, hv⟩ := takenFields_getElem? os (i := 60) (f := { number := 61, wide := false, range := .number 1 10 }) rfl
  have hperiod : (configOf (takenFields os)).period = max 1 (min v 10) := by
    show (takenFields os).getD 60 0 = _
    rw [List.getD_eq_getElem?_getD, hv]
    rfl
  omega

/-! ### The faults of an image (R166, R167) -/

/-- The fault list after the fields of a passing image have been judged (logs 14, 17). -/
def FaultList.judgedImage (f : FaultList) (image : List Octet) (c : StationConfig) (seen : Nat) : FaultList :=
  let clamped := (clampedFields image).foldl (fun l n => l.raise .configClamped n seen) f
  let counted := if 2 ≤ c.laneCount ∧ c.laneCount ≤ 5 then clamped else clamped.raise .configFault 1 seen
  match ladderBreak c with
  | some n => counted.raise .configFault n seen
  | none => counted

theorem State.foldl_raiseFault (k : FaultKind) (units : List Nat) (s : State) :
    units.foldl (fun t n => t.raiseFault k n) s =
      s.setFaults (units.foldl (fun l n => l.raise k n s.seconds) s.faults) := by
  induction units generalizing s with
  | nil => rfl
  | cons n ns ih => exact ih (s.raiseFault k n)

theorem State.raiseImageFaults_eq (s : State) (image : List Octet) (c : StationConfig) :
    s.raiseImageFaults image c = s.setFaults (s.faults.judgedImage image c s.seconds) := by
  unfold State.raiseImageFaults FaultList.judgedImage StationConfig.lanesUsable
  rw [State.foldl_raiseFault]
  simp only [decide_eq_true_eq]
  by_cases hl : 2 ≤ c.laneCount ∧ c.laneCount ≤ 5
  · simp only [if_pos hl]
    cases ladderBreak c <;> rfl
  · simp only [if_neg hl]
    cases ladderBreak c <;> rfl

/-! ### The entry into CONFIG_FAULT (R53, R160, R170) -/

theorem State.blankMessage_eq (s : State) (c : Chan) : s.blankMessage c = blankOn c := by cases c <;> rfl

theorem State.setFree_same (s : State) (x : Nat) : SameOutside [.free] s (s.setFree x) := by
  intro b hb
  cases b
  case free => exact absurd (by decide) hb
  all_goals rfl

theorem State.startPublication_same (s : State) (period : Nat) : SameOutside [.line] s (s.startPublication period) :=
  s.setLine_same _

/-- The station in CONFIG_FAULT, every channel ABSENT and BLANK sent once on every line (R160). -/
def State.darkened (s : State) : State :=
  let dark := (s.setStation { s.station with mode := .configFault, check := .failed }).setSigns
    { s.signs with handedOver := false, lanes := Lanes.const Channel.absent, legend := Channel.absent }
  dark.send (Chan.all.map dark.blankMessage)

theorem State.enterConfigFault_eq (s : State) :
    s.enterConfigFault =
      if s.station.straps.good then (s.darkened.startPublication s.darkened.faultPeriod).setFree (s.free + 1) else s.darkened := rfl

theorem State.darkened_signs (s : State) :
    (∀ c, s.darkened.signs.get c = Channel.absent) ∧ s.darkened.signs.sent = s.signs.sent ++ Chan.all.map blankOn := by
  constructor
  · intro c
    cases c with
    | lane k => cases k <;> rfl
    | legend => rfl
  · exact congrArg (s.signs.sent ++ ·) (List.map_congr_left fun c _ => State.blankMessage_eq _ c)

theorem State.darkened_same (s : State) : SameOutside [.station, .signs] s s.darkened := by
  intro b hb
  cases b
  case station | signs => exact absurd (by decide) hb
  all_goals rfl

/-- Every channel is dark and ABSENT, and with good straps the publication starts. -/
theorem State.enterConfigFault_spec (s : State) :
    let t := s.enterConfigFault
    t.station = { s.station with mode := .configFault, check := .failed } ∧
      (∀ c, t.signs.get c = Channel.absent) ∧ t.signs.sent = s.signs.sent ++ Chan.all.map blankOn ∧
      (s.station.straps.good = false → t.line = s.line) ∧
      (s.station.straps.good = true → t.line.pending = true ∧ t.line.timerPeriod = s.faultPeriod ∧
        t.line.pubTimer = some (s.clock + s.faultPeriod * second)) ∧
      SameOutside [.station, .signs, .line, .free] s t := by
  obtain ⟨hget, hsent⟩ := s.darkened_signs
  have hsame : SameOutside [.station, .signs, .line, .free] s s.darkened := s.darkened_same.mono (by decide)
  intro t
  have ht : t = _ := s.enterConfigFault_eq
  cases hg : s.station.straps.good
  · rw [hg, if_neg Bool.false_ne_true] at ht
    rw [ht]
    exact ⟨rfl, hget, hsent, fun _ => rfl, fun h => absurd h Bool.false_ne_true, hsame⟩
  · obtain ⟨hpending, htimer, hperiod, -⟩ := s.darkened.startPublication_line s.darkened.faultPeriod
    rw [hg, if_pos rfl] at ht
    rw [ht]
    exact ⟨rfl, hget, hsent, fun h => absurd h.symm Bool.false_ne_true, fun _ => ⟨hpending, hperiod, htimer⟩,
      (hsame.trans (s.darkened.startPublication_same _) (fun _ x => x) (by decide)).trans (State.setFree_same _ _) (fun _ x => x)
        (by decide)⟩

/-! ### The check that fails (R165, R167) -/

/-- The state in which a failed check enters CONFIG_FAULT: the image is judged no further, or kept and judged. -/
def State.checkFailed (s : State) (image : List Octet) : State :=
  if imagePasses image then
    (s.setStation { s.station with config := some (configOf (takenFields image)) }).setFaults
      (s.faults.judgedImage image (configOf (takenFields image)) s.seconds)
  else s.raiseFault .configFault 0

theorem State.checkFailed_same (s : State) (image : List Octet) : SameOutside [.station, .faults] s (s.checkFailed image) := by
  unfold State.checkFailed
  intro b hb
  cases b
  case station | faults => exact absurd (by decide) hb
  all_goals split <;> rfl

theorem execStartUpCheck_of_failing (dt : Nat) (image : List Octet) (s : State) (hm : s.mode = .starting)
    (hc : s.station.check = .underWay) (hs : s.station.straps ≠ .unread)
    (hfail : imagePasses image = false ∨ s.station.straps = .bad ∨ (configOf (takenFields image)).lanesUsable = false ∨
      (ladderBreak (configOf (takenFields image))).isSome = true) :
    execStartUpCheck dt image s = .next ((s.advance dt).checkFailed image).enterConfigFault := by
  have hguard : ((s.advance dt).mode == .starting && (s.advance dt).station.check == .underWay &&
      (s.advance dt).station.straps != .unread) = true := by simp [hm, hc, hs]
  unfold execStartUpCheck State.checkFailed
  dsimp only
  rw [if_pos hguard]
  cases hp : imagePasses image
  · rfl
  · have hunusable : ((s.advance dt).station.straps.good && (configOf (takenFields image)).lanesUsable &&
        (ladderBreak (configOf (takenFields image))).isNone) = false := by
      rcases hfail with h | h | h | h
      · rw [hp] at h
        cases h
      · simp [h, StrapRead.good]
      · simp [h]
      · rw [Option.isNone_eq_false_iff.mpr h, Bool.and_false]
    simp only [if_true]
    unfold State.judgeImage
    dsimp only
    rw [hunusable, if_neg Bool.false_ne_true, State.raiseImageFaults_eq]
    rfl

theorem State.checkFailed_config (s : State) (image : List Octet) :
    (s.checkFailed image).station =
      { s.station with config := if imagePasses image then some (configOf (takenFields image)) else s.station.config } := by
  unfold State.checkFailed
  split <;> rfl

theorem State.checkFailed_faults (s : State) (image : List Octet) :
    (s.checkFailed image).faults =
      if imagePasses image then s.faults.judgedImage image (configOf (takenFields image)) s.seconds
      else s.faults.raise .configFault 0 s.seconds := by
  unfold State.checkFailed
  split <;> rfl

/-- The period of CONFIG_FAULT lies in 1 to 10 s: it is that of a passing image, or the free value where no image has given
one (log 5). -/
theorem State.checkFailed_period (s : State) (image : List Octet) (h : s.station.config = none ∨ imagePasses image = true) :
    1 ≤ (s.checkFailed image).faultPeriod ∧ (s.checkFailed image).faultPeriod ≤ 10 := by
  unfold State.faultPeriod
  rw [s.checkFailed_config]
  dsimp only
  cases hp : imagePasses image
  · rw [if_neg Bool.false_ne_true, h.resolve_right (by rw [hp]; exact Bool.false_ne_true)]
    dsimp only
    omega
  · exact period_of_image image

/-- Settles O20: the failed check is judged, then CONFIG_FAULT is entered; the ladder's break is the first of its steps'. -/
theorem startUpCheckEndsInConfigFault : Obligations.StartUpCheckEndsInConfigFault := by
  constructor
  · intro dt image s hm hc hs hfail
    let x := (s.advance dt).checkFailed image
    have hx : SameOutside [.clock, .station, .faults] s x :=
      (s.advance_same dt).trans (State.checkFailed_same _ image) (by decide) (by decide)
    have hclock : x.clock = s.clock + dt := State.checkFailed_same _ image .clock (by decide)
    have hconfig := (s.advance dt).checkFailed_config image
    have hfaults := (s.advance dt).checkFailed_faults image
    have hstraps : x.station.straps = s.station.straps := (congrArg Station.straps hconfig).trans rfl
    have hsent : x.signs.sent = [] := by
      show ((s.advance dt).checkFailed image).signs.sent = []
      unfold State.checkFailed
      split <;> rfl
    obtain ⟨hstation, hget, hmessages, hbad, hgood, hsame⟩ := x.enterConfigFault_spec
    rw [hsent] at hmessages
    rw [hstraps, hclock] at hgood
    rw [hstraps] at hbad
    have hfrom : SameOutside [.clock, .station, .signs, .faults, .line, .free] s x.enterConfigFault :=
      hx.trans hsame (by decide) (by decide)
    refine ⟨_, execStartUpCheck_of_failing dt image s hm hc hs hfail, (hsame .clock (by decide)).trans hclock,
      congrArg Station.mode hstation, congrArg Station.check hstation, (congrArg Station.straps hstation).trans hstraps,
      fun c _ => congrArg Channel.state (hget c), hmessages, fun hp => ⟨?_, ?_⟩, fun hp => ⟨?_, ?_⟩, fun h => ?_, fun h => ?_, hfrom⟩
    · refine (hsame .faults (by decide)).trans (hfaults.trans ?_)
      rw [hp]
      rfl
    · refine (congrArg Station.config hstation).trans ((congrArg Station.config hconfig).trans ?_)
      rw [hp]
      rfl
    · refine (hsame .faults (by decide)).trans (hfaults.trans ?_)
      rw [hp]
      rfl
    · refine (congrArg Station.config hstation).trans ((congrArg Station.config hconfig).trans ?_)
      rw [hp]
      rfl
    · exact (hbad (by rw [h]; rfl)).trans (hx .line (by decide))
    · obtain ⟨hpending, hperiod, htimer⟩ := hgood h
      refine ⟨hpending, fun hgiven => ?_⟩
      obtain ⟨hlow, hhigh⟩ := (s.advance dt).checkFailed_period image hgiven
      rw [htimer, hperiod]
      exact ⟨hlow, hhigh, rfl⟩
  · intro c inOrder
    obtain ⟨hnone, hsome⟩ := ladderBreak_spec c
    refine ⟨hnone, fun n h => ?_⟩
    obtain ⟨k, h2, h6, hbefore, hk⟩ := hsome n h
    exact ⟨k, h2, h6, hbefore, c.breakAt_eq_some hk⟩

end Sys2Proof.Machine
end

section
/-!
PROOFS. The sound line interface (R47, R48, R51, R54, R56): the line's own changes, and the operations of the other blocks, which
touch the line at most by an urgent change.
-/
namespace Sys2Proof.Machine

/-! ### The changes of a line -/

/-- Work that enters the status slot or the reply queue, where none leaves it, ends QUIET (R48, R54, R56). -/
theorem Line.sound_wake {l : Line} {pending urgent again : Bool} {replies : List (List Octet)} (hl : l.sound)
    (hroom : replies.length ≤ 4) (hflag : urgent = true → pending = true)
    (hgrows : l.hasWork = true → (pending || !replies.isEmpty) = true) :
    (Line.wake { l with pending := pending, urgent := urgent, urgentAgain := again, replies := replies }).sound := by
  obtain ⟨-, hrejected, haborts, -, hquiet, hframe, hhold, hrx⟩ := hl
  unfold Line.wake
  dsimp only
  generalize hw : Line.hasWork { l with pending := pending, urgent := urgent, urgentAgain := again, replies := replies } = w
  have hw' : (pending || !replies.isEmpty) = w := hw
  by_cases hq : l.tx = .quiet
  · have hnone : l.abortHold = none := by simpa [hq] using hhold
    cases w
    · rw [Bool.and_false, if_neg Bool.false_ne_true]
      exact ⟨hroom, hrejected, haborts, hflag, iff_of_true hq hw, hframe, hhold, hrx⟩
    · rw [Bool.and_true, if_pos (beq_iff_eq.mpr hq)]
      exact ⟨hroom, hrejected, haborts, hflag, iff_of_false nofun (hw.trans_ne nofun), nofun, by simp [hnone], hrx⟩
  · have hwork : l.hasWork = true := Bool.not_eq_false _ ▸ fun h => hq (hquiet.mpr h)
    have hfull : w = true := hw'.symm.trans (hgrows hwork)
    rw [if_neg (by simp [hq])]
    exact ⟨hroom, hrejected, haborts, hflag, iff_of_false hq ((hw.trans hfull).trans_ne nofun), hframe, hhold, hrx⟩

theorem Line.sound_setUrgent {l : Line} (h : l.sound) : l.setUrgent.sound := by
  obtain ⟨hroom, -⟩ := id h
  exact Line.sound_wake h hroom (fun _ => rfl) (fun _ => rfl)

theorem Line.sound_setPending {l : Line} (h : l.sound) : l.setPending.sound := by
  obtain ⟨hroom, -⟩ := id h
  exact Line.sound_wake (urgent := l.urgent) h hroom (fun _ => rfl) (fun _ => rfl)

theorem Line.sound_of_mayFlag {a b : Line} (h : Line.mayFlag a b) (ha : a.sound) : b.sound := by
  rcases h with rfl | rfl
  · exact ha
  · exact Line.sound_setUrgent ha

theorem Receiver.sound_idle : Receiver.idle.sound := .inl ⟨rfl, rfl⟩

theorem Line.sound_setRx {l : Line} {rx : Receiver} (h : l.sound) (hrx : rx.sound) : ({ l with rx := rx } : Line).sound := by
  obtain ⟨hroom, hrejected, haborts, hflag, hquiet, hframe, hhold, -⟩ := h
  exact ⟨hroom, hrejected, haborts, hflag, hquiet, hframe, hhold, hrx⟩

theorem Line.sound_toIdle {l : Line} (now : Nat) (h : l.sound) : (l.toIdle now).sound :=
  Line.sound_setRx (l := { l with gapFrom := now, heldFrom := now }) h Receiver.sound_idle

theorem countUp_le (n : Nat) : countUp n ≤ 255 := Nat.min_le_right _ _

theorem Line.sound_countRejected {l : Line} (h : l.sound) : l.countRejected.sound := by
  obtain ⟨hroom, -, haborts, hflag, hquiet, hframe, hhold, hrx⟩ := h
  exact ⟨hroom, countUp_le _, haborts, hflag, hquiet, hframe, hhold, hrx⟩

/-- After an attempt the transmit state follows from what waits (R48, R52). -/
theorem Line.sound_rest {l : Line} (hroom : l.replies.length ≤ 4) (hrejected : l.rejected ≤ 255) (haborts : l.aborts ≤ 255)
    (hflag : l.urgent = true → l.pending = true) (hhold : l.abortHold = none) (hrx : l.rx.sound) : l.rest.sound := by
  unfold Line.rest
  have hwaits (t : TxState) (f : Option Frame) : ({ l with tx := t, txFrame := f } : Line).hasWork = l.hasWork := rfl
  cases hw : l.hasWork
  · exact ⟨hroom, hrejected, haborts, hflag, by simp [hwaits, hw], nofun, by simp [hhold], hrx⟩
  · exact ⟨hroom, hrejected, haborts, hflag, by simp [hwaits, hw], nofun, by simp [hhold], hrx⟩

theorem Line.sound_reset : Line.reset.sound := by
  unfold Line.sound Receiver.sound
  decide

/-- A station that transmits, or holds its abort hold, has something pending (R48, R51). -/
theorem Line.sound.hasWork {l : Line} (h : l.sound) (ht : l.tx ≠ .quiet) : l.hasWork = true := by
  obtain ⟨-, -, -, -, hquiet, -⟩ := h
  cases hw : l.hasWork
  · exact absurd (hquiet.mpr hw) ht
  · rfl

/-- An attempt that ends with its work still pending waits (R50, R51). -/
theorem Line.sound_waiting {l : Line} {rx : Receiver} (h : l.sound) (ht : l.tx ≠ .quiet) (hrx : rx.sound) :
    ({ l with tx := .waiting, txFrame := none, abortHold := none, rx := rx } : Line).sound := by
  have hw : (l.pending || !l.replies.isEmpty) = true := h.hasWork ht
  obtain ⟨hroom, hrejected, haborts, hflag, -⟩ := h
  exact ⟨hroom, hrejected, haborts, hflag, by simp [Line.hasWork, hw], nofun, nofun, hrx⟩

/-! ### Steps that keep the line sound -/

/-- The second state's line is sound if the first's is. -/
def State.KeepsLine (s t : State) : Prop := s.line.sound → t.line.sound

theorem State.KeepsLine.of_eq {s t : State} (h : t.line = s.line) : s.KeepsLine t := fun hs => h ▸ hs

theorem State.KeepsLine.of_flag {s t : State} (h : Line.mayFlag s.line t.line) : s.KeepsLine t := Line.sound_of_mayFlag h

theorem State.KeepsLine.of_same {s t : State} {l : List Block} (h : SameOutside l s t) (hl : Block.line ∉ l) : s.KeepsLine t :=
  .of_eq (h .line hl)

theorem State.KeepsLine.trans {s t u : State} (h : s.KeepsLine t) (k : t.KeepsLine u) : s.KeepsLine u := fun hs => k (h hs)

/-- What touches another block first keeps what follows. -/
theorem State.KeepsLine.after {s t u : State} (h : t.KeepsLine u) (e : t.line = s.line) : s.KeepsLine u := (State.KeepsLine.of_eq e).trans h

theorem State.KeepsLine.before {s t u : State} (h : s.KeepsLine t) (e : u.line = t.line) : s.KeepsLine u := h.trans (.of_eq e)

theorem State.KeepsLine.foldl {α : Type} {f : State → α → State} (h : ∀ (s : State) a, s.KeepsLine (f s a)) (l : List α) (s : State) :
    s.KeepsLine (l.foldl f s) := by
  induction l generalizing s with
  | nil => exact id
  | cons a as ih => exact (h s a).trans (ih (f s a))

theorem State.KeepsLine.settle {s t before : State} {late : List Reader} (h : s.KeepsLine t) : s.KeepsLine (t.settle before late) :=
  h.trans (.of_flag (t.settle_mayFlag before late))

/-- Readers that take a report after steps that leave the line. -/
theorem State.KeepsLine.settled {s t before : State} {late : List Reader} (e : t.line = s.line) : s.KeepsLine (t.settle before late) :=
  (State.KeepsLine.of_eq e).settle

theorem State.KeepsLine.tryCommit {s t : State} (h : s.KeepsLine t) : s.KeepsLine t.tryCommit := h.trans (.of_flag t.tryCommit_mayFlag)

theorem State.flagUrgent_keepsLine (s : State) : s.KeepsLine s.flagUrgent := .of_flag s.flagUrgent_mayFlag

theorem State.abortCheck_keepsLine (s : State) : s.KeepsLine s.abortCheck := .of_flag s.abortCheck_mayFlag

/-- Two blocks that keep the line sound keep it in either order (R38, R62). -/
theorem State.inOrder_keepsLine (s before : State) (o : Order) {f g : State → State} (hf : ∀ t : State, t.KeepsLine (f t))
    (hg : ∀ t : State, t.KeepsLine (g t)) : s.KeepsLine (s.inOrder before o f g) := by
  have hserve (t : State) : t.KeepsLine (t.serveSome before o.between) := .of_flag (t.serveSome_mayFlag before o.between)
  rcases s.inOrder_cases before o f g with ⟨-, e⟩ | ⟨-, e⟩
  · exact e ▸ ((hf s).trans (hserve _)).trans (hg _)
  · exact e ▸ ((hg s).trans (hserve _)).trans (hf _)

/-! ### The queue monitor and vehicle records (R99 to R102) -/

theorem State.fireShock_keepsLine (s : State) : s.KeepsLine s.fireShock := by
  unfold State.fireShock
  dsimp only
  split
  · exact (State.flagUrgent_keepsLine _).after rfl
  · exact .of_eq rfl

theorem State.watchRecord_keepsLine (s : State) (r : VehicleRecord) : s.KeepsLine (s.watchRecord r) := by
  unfold State.watchRecord
  split
  · split
    · exact .of_eq rfl
    · split
      · dsimp only
        split
        · exact (State.fireShock_keepsLine _).after rfl
        · exact .of_eq rfl
      · exact .of_eq rfl
  · exact .of_eq rfl

theorem State.finishRecord_keepsLine (s : State) (r : VehicleRecord) : s.KeepsLine (s.finishRecord r) :=
  ((State.watchRecord_keepsLine (s.setTrace (s.trace.capture r)) r).after rfl).before (State.countLong_same ((s.setTrace (s.trace.capture r)).watchRecord r) r .line (by decide))

theorem State.evaluateQueue_keepsLine (s : State) : s.KeepsLine s.evaluateQueue := by
  have hflag (q : QueueMonitor) : s.KeepsLine (s.setQueue q).flagUrgent := (State.flagUrgent_keepsLine _).after rfl
  unfold State.evaluateQueue
  dsimp only
  split
  · split
    · split
      · exact hflag _
      · exact .of_eq rfl
    · exact .of_eq rfl
  · split
    · exact .of_eq rfl
    · split
      · exact hflag _
      · exact .of_eq rfl

theorem State.evaluateDemand_line (s : State) : s.evaluateDemand.line = s.line := by
  unfold State.evaluateDemand
  dsimp only
  split <;> split <;> rfl

theorem State.takeMeasures_line (s : State) : s.takeMeasures.line = s.line := by
  unfold State.takeMeasures
  split
  · exact s.evaluateDemand_line
  · rfl

theorem State.evaluate_keepsLine (s before : State) (o : Order) : s.KeepsLine (s.evaluate before o) := by
  have hmeasured : s.computeMeasures.markEvaluation.line = s.line := State.markEvaluation_same _ .line (by decide)
  exact (State.inOrder_keepsLine _ before o (fun t => .of_eq t.takeMeasures_line) (fun t => t.evaluateQueue_keepsLine)).after hmeasured

theorem State.completeInterval_keepsLine (s : State) (k : Lane) (x : Snapshot) (rest : List Request) (o : Order) :
    s.KeepsLine (s.completeInterval k x rest o) := by
  unfold State.completeInterval
  dsimp only
  split
  · exact (State.evaluate_keepsLine _ s o).after rfl
  · exact .of_eq rfl

/-! ### The detector unit (R3 to R13) -/

theorem State.completeVehicle_keepsLine (s : State) (k : Lane) (a : Arrival) : s.KeepsLine (s.completeVehicle k a) := by
  have hfinish (x : Sums) (r : VehicleRecord) : s.KeepsLine ((s.setSums k x).finishRecord r) := (State.finishRecord_keepsLine _ r).after rfl
  rcases s.completeVehicle_cases k a with ⟨-, e⟩ | ⟨-, e⟩ | ⟨b, -, -, ⟨-, e⟩ | ⟨-, e⟩⟩
  · exact e ▸ hfinish _ _
  · exact e ▸ hfinish _ _
  · exact e ▸ .of_eq rfl
  · exact e ▸ hfinish _ _

theorem State.completeSingle_keepsLine (s : State) (k : Lane) (a : Arrival) : s.KeepsLine (s.completeSingle k a) :=
  (State.finishRecord_keepsLine _ _).after rfl

theorem State.completeAll_keepsLine (s : State) (k : Lane) (l : List Arrival) :
    s.KeepsLine (l.foldl (fun t a => t.completeVehicle k a) s) := .foldl (fun t a => t.completeVehicle_keepsLine k a) l s

theorem State.drainArrivals_keepsLine (s : State) (k : Lane) : s.KeepsLine (s.drainArrivals k) :=
  (State.completeAll_keepsLine _ k _).after rfl

theorem State.appendArrival_keepsLine (s : State) (k : Lane) (on : Tick) : s.KeepsLine (s.appendArrival k on) := by
  unfold State.appendArrival
  dsimp only
  split
  · exact ((State.drainArrivals_keepsLine (s.setArrivals k _) k).after rfl).before rfl
  · exact .of_eq rfl

theorem State.settleMode_keepsLine (s : State) (k : Lane) (moment : Tick) : s.KeepsLine (s.settleMode k moment) := by
  unfold State.settleMode
  dsimp only
  split
  · exact .of_eq rfl
  · generalize hu : State.setRun _ k 0 = u
    have hset : s.KeepsLine u := by
      subst hu
      exact .of_eq rfl
    have hcomplete := hset.trans (u.completeAll_keepsLine k ((s.detector.lanes.get k).arrivals.filter fun a => a.off.isSome))
    split
    · exact hcomplete.trans (State.abortCheck_keepsLine _)
    · exact hcomplete

theorem State.takeOnEdge_keepsLine (s : State) (l : Loop) (on : Tick) : s.KeepsLine (s.takeOnEdge l on) := by
  unfold State.takeOnEdge
  dsimp only
  generalize hu : (if (s.detector.lanes.get l.lane).mode.counting = some l.side then _ else s) = u
  have hmark : s.KeepsLine u := by
    subst hu
    split <;> exact .of_eq rfl
  have habort : s.KeepsLine (if l.lane = .l1 then u.abortCheck else u) := by
    split
    · exact hmark.trans u.abortCheck_keepsLine
    · exact hmark
  split
  · exact habort.trans (State.appendArrival_keepsLine _ _ _)
  · exact habort.trans ((State.drainArrivals_keepsLine _ l.lane).after rfl)
  · exact habort
  · exact habort
  · exact habort

theorem State.qualify_keepsLine (s : State) (l : Loop) (p : Presence) : s.KeepsLine (s.qualify l p) := by
  unfold State.qualify
  dsimp only
  split
  · exact (State.takeOnEdge_keepsLine _ l p.on).after rfl
  · exact .of_eq rfl

theorem State.qualifyInOrder_keepsLine (s : State) (l : Loop) (p : Presence) : s.KeepsLine (s.qualifyInOrder l p) := by
  rcases s.qualifyInOrder_cases l p with ⟨q, -, -, -, -, -, e⟩ | ⟨-, e⟩
  · exact e ▸ (s.qualify_keepsLine _ q).trans (State.qualify_keepsLine _ l p)
  · exact e ▸ s.qualify_keepsLine l p

theorem State.releaseSingle_keepsLine (s : State) (k : Lane) (pairedCounts : Bool) : s.KeepsLine (s.releaseSingle k pairedCounts) := by
  unfold State.releaseSingle
  split
  · exact .of_eq rfl
  · dsimp only
    split
    · exact (State.completeVehicle_keepsLine _ k _).after rfl
    · exact (State.completeSingle_keepsLine _ k _).after rfl

theorem State.takeRelease_keepsLine (s : State) (l : Loop) : s.KeepsLine (s.takeRelease l) := by
  unfold State.takeRelease
  dsimp only
  generalize hu : (if (s.detector.lanes.get l.lane).mode.counting = some l.side then _ else s) = u
  have hmark : s.KeepsLine u := by
    subst hu
    split <;> exact .of_eq rfl
  split
  · exact hmark.trans ((State.drainArrivals_keepsLine _ l.lane).after rfl)
  · exact hmark.trans (u.releaseSingle_keepsLine _ _)
  · exact hmark.trans (u.releaseSingle_keepsLine _ _)
  · exact hmark

theorem State.releaseQualified_keepsLine (s : State) (l : Loop) : s.KeepsLine (s.releaseQualified l) := by
  unfold State.releaseQualified
  dsimp only
  split
  · exact (State.takeRelease_keepsLine _ l).after rfl
  · exact .of_eq rfl
  · exact (State.settleMode_keepsLine _ l.lane s.tick).after rfl

end Sys2Proof.Machine
end

section
/-!
PROOFS. The sound line interface (R47, R48, R51, R54, R56): the frames that are received, the sign channels and station control.
-/
namespace Sys2Proof.Machine

/-! ### Sign channels (R142 to R161) -/

theorem State.clearReason_line (s : State) (c : Chan) (raised : Option FaultKind) (endFirst : Bool) :
    (s.clearReason c raised endFirst).line = s.line := by
  unfold State.clearReason
  split
  · exact s.exchangeFaults_same _ _ _ _ .line (by decide)
  · rfl
  · rfl
  · rfl

theorem State.prove_keepsLine (s : State) (c : Chan) (raised : Option FaultKind) (endFirst : Bool) :
    s.KeepsLine (s.prove c raised endFirst) := .of_eq (s.clearReason_line c raised endFirst)

theorem State.noteDisplacement_keepsLine (s : State) (d : Lanes (Option Displacement)) : s.KeepsLine (s.noteDisplacement d) :=
  .of_flag (s.noteDisplacement_mayFlag d)

theorem State.retry_keepsLine (s : State) (c : Chan) : s.KeepsLine (s.retry c) :=
  (State.noteDisplacement_keepsLine _ _).after (s.beginAttempt_same c .line (by decide))

theorem State.enterFailed_keepsLine (s : State) (c : Chan) (reason : FailureReason) (endFirst : Bool) :
    s.KeepsLine (s.enterFailed c reason endFirst) := by
  unfold State.enterFailed
  dsimp only
  refine (State.noteDisplacement_keepsLine _ _).after ?_
  split
  · rfl
  · split
    · rfl
    · exact State.exchangeFaults_same _ _ _ _ _ .line (by decide)

theorem State.enterMismatch_keepsLine (s : State) (c : Chan) (endFirst : Bool) : s.KeepsLine (s.enterMismatch c endFirst) := by
  unfold State.enterMismatch
  dsimp only
  refine (State.noteDisplacement_keepsLine _ _).after ?_
  split
  · rfl
  · exact State.exchangeFaults_same _ _ _ _ _ .line (by decide)

/-! ### Station control (R53, R166 to R174) -/

theorem State.startPublication_keepsLine (s : State) (period : Nat) : s.KeepsLine (s.startPublication period) := fun h =>
  Line.sound_setPending (l :=
    { s.line with pubTimer := some (s.clock + period * second), timerPeriod := period, gapFrom := s.clock, heldFrom := s.clock }) h

theorem State.enterConfigFault_keepsLine (s : State) : s.KeepsLine s.enterConfigFault := by
  rw [s.enterConfigFault_eq]
  split
  · exact ((s.darkened.startPublication_keepsLine _).after rfl).before rfl
  · exact .of_eq rfl

theorem State.handOver_line (s : State) : s.handOver.line = s.line := by
  have hchan (t : State) (c : Chan) : (t.handOverChannel c).line = t.line := by
    unfold State.handOverChannel
    split <;> rfl
  have hall (l : List Chan) (t : State) : (l.foldl State.handOverChannel t).line = t.line := by
    induction l generalizing t with
    | nil => rfl
    | cons c l ih => exact (ih _).trans (hchan t c)
  exact hall Chan.all _

theorem State.judgeImage_keepsLine (s : State) (image : List Octet) : s.KeepsLine (s.judgeImage image) := by
  unfold State.judgeImage
  dsimp only
  rw [State.raiseImageFaults_eq]
  split
  · exact .of_eq (State.handOver_line _)
  · exact (State.enterConfigFault_keepsLine _).after rfl

theorem State.restoreSlot_line (s : State) (p : Pos) : (s.restoreSlot p).line = s.line := by
  unfold State.restoreSlot
  split
  · rfl
  · exact s.markDirty_same p .line (by decide)
  · exact State.markDirty_same _ p .line (by decide)
  · rfl

theorem State.startWrite_line (s : State) : s.startWrite.line = s.line := s.startWrite_same .line (by decide)

theorem State.restart_line (s : State) (straps : Straps) : (s.restart straps).line = Line.reset := by
  unfold State.restart
  dsimp only
  split <;> rfl

/-! ### The reception of a frame (R44 to R47) -/

theorem State.loseFrame_keepsLine (s : State) : s.KeepsLine s.loseFrame := fun h => Line.sound_toIdle s.clock (Line.sound_countRejected h)

/-- A frame touches the line through its loss, the receiver's return to IDLE, urgent changes, and its delivery. -/
theorem State.receive_keepsLine (s : State) (f : Frame) (o : Order) {deliver : State → State}
    (h : ∀ t : State, t.KeepsLine (deliver t)) : s.KeepsLine (s.receive f o deliver) := by
  unfold State.receive
  split
  · split
    · exact s.loseFrame_keepsLine
    · dsimp only
      have hidle : s.KeepsLine (s.setLine (s.line.toIdle s.clock)) := Line.sound_toIdle s.clock
      have harrived := hidle.before (State.noteArrival_same _ f.source.toNat .line (by decide))
      exact ((harrived.trans (.of_flag (State.serveSome_mayFlag _ s o.early))).trans (h _)).settle
  · exact id

/-- A command of the gateway touches the line as its frame and its owner do. -/
theorem State.command_keepsLine (s : State) (c : Command) (body : List Octet) (o : Order) (inFault : Bool)
    {owner : State → State × ResultCode} (h : ∀ t : State, t.KeepsLine (owner t).1) :
    s.KeepsLine (s.command c body o inFault owner) := by
  refine s.receive_keepsLine _ o fun t => ?_
  unfold State.obey
  split
  · split
    · exact (h t).before rfl
    · exact .of_eq rfl
  · exact .of_eq rfl

theorem State.takeStatus_keepsLine (s before : State) (n : Nat) (body : List Octet) (o : Order) :
    s.KeepsLine (s.takeStatus before n body o) := by
  unfold State.takeStatus
  split
  · split
    · next r _ =>
      exact s.inOrder_keepsLine before o (fun t => .of_eq (t.storeRecord_same n r .line (by decide)))
        (fun t => .of_flag (t.learn_work n r).flag)
    · exact id
  · exact id

/-! ### The owners of commands -/

theorem State.closeSet_keepsLine (s : State) (c : Closure) : s.KeepsLine (s.closeSet c).1 := by
  unfold State.closeSet
  split
  · exact id
  · split
    · exact .of_flag (s.insertClosure_work c).flag
    · exact .of_flag (s.putClosure_work _ _).flag

theorem State.closeClear_keepsLine (s : State) (origin serial : Nat) : s.KeepsLine (s.closeClear origin serial).1 := by
  unfold State.closeClear
  split
  · exact id
  · split
    · exact id
    · split
      · exact .of_flag (s.putClosure_work _ _).flag
      · exact id

theorem State.takeOverride_keepsLine (s : State) (step legend minutes : Nat) : s.KeepsLine (s.takeOverride step legend minutes).1 := by
  unfold State.takeOverride
  split
  · exact id
  · split
    · exact id
    · split <;> exact .of_eq rfl

theorem State.acknowledgeKey_keepsLine (s : State) (code unit : Nat) : s.KeepsLine (s.acknowledgeKey code unit).1 := by
  unfold State.acknowledgeKey
  split <;> exact .of_eq rfl

theorem State.startTrace_keepsLine (s : State) (lane count : Nat) : s.KeepsLine (s.startTrace lane count).1 := by
  unfold State.startTrace
  split
  · exact id
  · split <;> exact .of_eq rfl

/-- Frames that find their places enter the reply queue (R56). -/
theorem State.enqueue_keepsLine (s : State) (bodies : List (List Octet)) (h : bodies.length ≤ s.freePlaces) :
    s.KeepsLine (s.enqueue bodies) := by
  intro hl
  obtain ⟨hroom, -, -, hflag, -⟩ := id hl
  have hlength : (s.line.replies ++ bodies).length ≤ 4 := by
    unfold State.freePlaces at h
    rw [List.length_append]
    omega
  have hgrows : s.line.hasWork = true → (s.line.pending || !(s.line.replies ++ bodies).isEmpty) = true := by
    unfold Line.hasWork
    cases s.line.pending <;> cases s.line.replies <;> simp
  exact Line.sound_wake (again := s.line.urgentAgain) hl hlength hflag hgrows

theorem State.answer_keepsLine (s : State) (bodies : List (List Octet)) : s.KeepsLine (s.answer bodies).1 := by
  unfold State.answer
  split
  · exact id
  · next h => exact s.enqueue_keepsLine bodies (Nat.le_of_not_lt h)

end Sys2Proof.Machine
end

section
/-!
PROOFS. The sound line interface (R47, R48, R51, R54, R56): every command keeps it.
-/
namespace Sys2Proof.Machine

/-! ### The outcome of a command -/

/-- A command's outcome keeps the line sound. -/
def LineKept (s : State) (r : Result) : Prop := ∀ t, r = .next t → s.KeepsLine t

theorem LineKept.next {s t : State} {dt : Nat} (h : (s.advance dt).KeepsLine t) : LineKept s (.next t) := by
  rintro _ ⟨⟩
  exact h

theorem LineKept.same {s t : State} (h : t.line = s.line) : LineKept s (.next t) := by
  rintro _ ⟨⟩
  exact .of_eq h

/-- A command whose condition does not hold lets time pass and keeps the line. -/
theorem LineKept.idle {s : State} {dt : Nat} : LineKept s (.next (s.advance dt)) := .same rfl

theorem LineKept.guarded {s t : State} {dt : Nat} {c : Prop} [Decidable c] (h : (s.advance dt).KeepsLine t) :
    LineKept s (if c then .next t else .next (s.advance dt)) := by
  split
  · exact .next h
  · exact .idle

theorem LineKept.guardedSame {s t : State} {dt : Nat} {c : Prop} [Decidable c] (h : t.line = s.line) :
    LineKept s (if c then .next t else .next (s.advance dt)) := .guarded (.of_eq h)

/-- A command that changes the line alone. -/
theorem LineKept.setLine {s : State} {dt : Nat} {l : Line} (h : s.line.sound → l.sound) :
    LineKept s (.next ((s.advance dt).setLine l)) := .next (dt := dt) h

/-! ### The transmitter (R48 to R56) -/

theorem execIdleGap_line (dt : Nat) (s : State) : LineKept s (execIdleGap dt s) := by
  unfold execIdleGap
  dsimp only
  split
  · next hc =>
    refine .setLine fun h => ?_
    have hidle : s.line.rx.phase = .idle := by
      simp only [Bool.and_eq_true, beq_iff_eq] at hc
      exact hc.1.2
    have hdigits : s.line.rx.digits = [] := by
      obtain ⟨-, -, -, -, -, -, -, ⟨-, hd⟩ | ⟨-, hp, -⟩ | ⟨-, hp, -⟩⟩ := h
      · exact hd
      · exact nomatch hidle.symm.trans hp
      · exact nomatch hidle.symm.trans hp
    exact Line.sound_setRx (l := { s.line with gapFrom := s.clock + dt, heldFrom := s.line.heldWithin (s.clock + dt) (some (12 * unit)) })
      h (.inl ⟨hidle, hdigits⟩)
  · exact .idle

/-- A frame at hand is sent while its work stays pending (R48, R50). -/
theorem Line.sound_sending {l : Line} {tx : TxState} {f : Frame} {rx : Receiver} (h : l.sound) (hl : l.tx ≠ .quiet)
    (ht : tx = .arbitrating ∨ tx = .sending) (hrx : rx.sound) : ({ l with tx := tx, txFrame := some f, rx := rx } : Line).sound := by
  have hw : ({ l with tx := tx, txFrame := some f, rx := rx } : Line).hasWork = true := h.hasWork hl
  have hquiet : tx ≠ .quiet := by rcases ht with rfl | rfl <;> exact nofun
  obtain ⟨hroom, hrejected, haborts, hflag, -⟩ := h
  exact ⟨hroom, hrejected, haborts, hflag, iff_of_false hquiet (hw.trans_ne nofun), fun _ _ => rfl, fun _ => ht, hrx⟩

theorem execTransmitStart_line (dt : Nat) (s : State) : LineKept s (execTransmitStart dt s) := by
  unfold execTransmitStart
  dsimp only
  split
  · next hc =>
    split
    · next f _ =>
      refine .setLine fun h => ?_
      have hwaiting : s.line.tx = .waiting := by
        simp only [Bool.and_eq_true, beq_iff_eq] at hc
        exact hc.1.1.2
      exact Line.sound_sending (l := { s.line with urgentAgain := false, heldFrom := s.clock + dt }) (f := f) h
        (hwaiting.trans_ne nofun) (.inl rfl) Receiver.sound_idle
    · exact .idle
  · exact .idle

/-- The mark that fails is one of those sent. -/
theorem lt_of_failsAfter {test fails : Bool → Nat → Bool} {sent : Bool → Bool} {ds : List Bool} {holds : List Nat} {held : Nat}
    (h : failsAfter test fails sent ds holds held = true) : holds.length < ds.length := by
  by_contra hn
  simp [failsAfter, List.getElem?_eq_none (Nat.le_of_not_lt hn)] at h

/-- The receiver that takes a frame over stands in its header, or before its length (R50). -/
theorem Receiver.sound_takenOver (ds : List Bool) {n : Nat} (hn : n < 12) (hl : n ≤ ds.length) :
    ({ phase := if n + 1 < 12 then .header else .length, gapSeen := false, digits := ds.take n ++ [false] } : Receiver).sound := by
  have hlength : (ds.take n ++ [false]).length = n + 1 := by simp [Nat.min_eq_left hl]
  by_cases h : n + 1 < 12
  · exact .inr (.inl ⟨rfl, if_pos h, hlength.trans_lt h⟩)
  · exact .inr (.inr ⟨rfl, if_neg h, hlength.trans (by omega)⟩)

theorem execArbitrationLost_line (dt : Nat) (mark : LostMark) (s : State) : LineKept s (execArbitrationLost dt mark s) := by
  unfold execArbitrationLost
  dsimp only
  split
  · next f _ =>
    split
    · next hc =>
      simp only [Bool.and_eq_true, beq_iff_eq, Option.isNone_iff_eq_none] at hc
      obtain ⟨⟨htx, hhold⟩, hloss⟩ := hc
      have hlt := lt_of_failsAfter hloss
      refine .setLine fun h => ?_
      have hwaits := Line.sound_waiting
        (l := { s.line with gapFrom := s.clock + dt, heldFrom := s.line.heldWithin (s.clock + dt) (some (15 + heldThrough mark.holds)) })
        h (htx.trans_ne nofun) (Receiver.sound_takenOver f.headerDigits (f.headerDigits_length ▸ hlt) hlt.le)
      rw [← hhold] at hwaits
      exact hwaits
    · exact .idle
  · exact .idle

/-- What can abort is a transmission (R51). -/
theorem transmits_of_abortArises {f : Frame} {c : AbortCause} {t : TxState} (h : abortArises f c t = true) :
    t = .arbitrating ∨ t = .sending := by
  cases t <;> cases c <;> simp_all [abortArises]

theorem execTransmitAbort_line (dt : Nat) (cause : AbortCause) (s : State) : LineKept s (execTransmitAbort dt cause s) := by
  unfold execTransmitAbort
  dsimp only
  split
  · next f _ =>
    split
    · next hc =>
      rw [Bool.and_eq_true] at hc
      have htx := transmits_of_abortArises hc.1
      refine .setLine fun h => ?_
      obtain ⟨hroom, hrejected, -, hflag, hquiet, -, -, hrx⟩ := h
      exact ⟨hroom, hrejected, countUp_le _, hflag, hquiet, nofun, fun _ => htx, hrx⟩
    · exact .idle
  · exact .idle

theorem isSome_of_due {s : State} {timer : Option Nat} (h : s.due timer = true) : timer.isSome = true := by
  cases timer
  · exact h
  · rfl

theorem execAbortHoldEnd_line (dt : Nat) (s : State) : LineKept s (execAbortHoldEnd dt s) := by
  unfold execAbortHoldEnd
  dsimp only
  split
  · next hc =>
    refine .setLine fun h => ?_
    have hquiet : s.line.tx ≠ .quiet := by
      obtain ⟨-, -, -, -, -, -, hhold, -⟩ := h
      rcases hhold (isSome_of_due hc) with htx | htx <;> exact htx.trans_ne nofun
    exact Line.sound_waiting (l := { s.line with gapFrom := s.clock + dt }) h hquiet Receiver.sound_idle
  · exact .idle

/-- A frame that is sent leaves the status slot or the reply queue in order (R55, R56). -/
theorem Line.sound_frameSent_rest {l : Line} (clock : Nat) (h : l.sound) (hhold : l.abortHold = none) :
    (l.frameSent clock).rest.sound := by
  obtain ⟨hroom, hrejected, haborts, hflag, -, -, -, hrx⟩ := h
  unfold Line.frameSent
  split
  · split
    · exact Line.sound_rest hroom hrejected haborts id hhold hrx
    · refine Line.sound_rest ?_ hrejected haborts hflag hhold hrx
      simp only [List.length_drop]
      omega
  · exact Line.sound_rest hroom hrejected haborts hflag hhold hrx

theorem execTransmitComplete_line (sent : SentMarks) (s : State) : LineKept s (execTransmitComplete sent s) := by
  unfold execTransmitComplete
  dsimp only
  split
  · split
    · next hc =>
      simp only [Bool.and_eq_true, Option.isNone_iff_eq_none] at hc
      exact .setLine fun h => Line.sound_toIdle _ (Line.sound_frameSent_rest _ h hc.1.1.2)
    · exact .idle
  · exact .idle

theorem execArbitrationWon_line (sent : SentMarks) (s : State) : LineKept s (execArbitrationWon sent s) := by
  unfold execArbitrationWon
  dsimp only
  split
  · next f hf =>
    split
    · next hc =>
      simp only [Bool.and_eq_true, beq_iff_eq] at hc
      obtain ⟨⟨⟨htx, -⟩, -⟩, -⟩ := hc
      refine .setLine fun h => ?_
      have hrx : s.line.rx.sound := by
        obtain ⟨-, -, -, -, -, -, -, hrx⟩ := h
        exact hrx
      have hsends := Line.sound_sending (l := { s.line with heldFrom := s.clock + sent.dt }) (f := f) h (htx.trans_ne nofun)
        (.inr rfl) hrx
      have hframe : some f = s.line.txFrame := hf.symm
      rw [hframe] at hsends
      exact hsends
    · exact .idle
  · exact .idle

theorem execPublicationTimerExpiry_line (dt : Nat) (s : State) : LineKept s (execPublicationTimerExpiry dt s) :=
  .guarded fun h => Line.sound_setPending (l := { s.line with pubTimer := none }) h

/-! ### The receiver and the stuck line (R42 to R47) -/

theorem Line.sound_lost {l : Line} (since now : Nat) (h : l.sound) : (l.lost since now).sound :=
  Line.sound_setRx (l := { l.countRejected with gapFrom := since, heldFrom := now }) (Line.sound_countRejected h) Receiver.sound_idle

theorem execLapse_line (dt : Nat) (holds : List Nat) (s : State) : LineKept s (execLapse dt holds s) := by
  unfold execLapse
  dsimp only
  split
  · split
    · exact .next (Line.sound_lost _ _)
    · exact .idle
  · exact .idle

theorem execFrameAborted_line (dt : Nat) (holds : List Nat) (s : State) : LineKept s (execFrameAborted dt holds s) := by
  unfold execFrameAborted
  dsimp only
  split
  · exact .next (s.advance dt).loseFrame_keepsLine
  · exact .idle

theorem execFrameLengthRejected_line (dt : Nat) (holds : List Nat) (s : State) : LineKept s (execFrameLengthRejected dt holds s) := by
  unfold execFrameLengthRejected
  dsimp only
  split
  · exact .next (s.advance dt).loseFrame_keepsLine
  · exact .idle

theorem execFirstHoldWrongClass_line (dt held : Nat) (s : State) : LineKept s (execFirstHoldWrongClass dt held s) := by
  unfold execFirstHoldWrongClass
  dsimp only
  split
  · exact .setLine (Line.sound_toIdle _)
  · exact .idle

/-- The stuck line ends what was received and what was sent (R42, R45, R51). -/
theorem Line.sound_gotStuck {l : Line} (receiving : Bool) (h : l.sound) : (l.gotStuck receiving).sound := by
  have hcount {c : Prop} [Decidable c] {n : Nat} (hn : n ≤ 255) : (if c then countUp n else n) ≤ 255 := by
    split
    · exact countUp_le n
    · exact hn
  rw [l.gotStuck_eq]
  obtain ⟨hroom, hrejected, haborts, hflag, hquiet, -⟩ := h
  refine ⟨hroom, hcount hrejected, hcount haborts, hflag, ?_, ?_, nofun, Receiver.sound_idle⟩
  · refine Iff.trans ?_ hquiet
    cases l.tx <;> simp
  · cases l.tx <;> simp

theorem execLineStuck_line (dt : Nat) (holds : List Nat) (o : Order) (s : State) : LineKept s (execLineStuck dt holds o s) := by
  have hstuck : (s.advance dt).KeepsLine ((s.advance dt).stuckIsolated holds) := by
    obtain ⟨-, hline, -⟩ := (s.advance dt).stuckIsolated_spec holds
    intro h
    rw [hline]
    exact Line.sound_gotStuck _ h
  exact .guarded hstuck.settle

/-! ### The neighbour table and the commands of the centre -/

theorem execNeighbourExpiry_line (dt : Nat) (station : Nat) (s : State) : LineKept s (execNeighbourExpiry dt station s) := by
  unfold execNeighbourExpiry
  dsimp only
  split
  · exact .guardedSame rfl
  · exact .idle

theorem execNeighbourRemoval_line (dt : Nat) (station : Nat) (o : Order) (s : State) :
    LineKept s (execNeighbourRemoval dt station o s) := by
  unfold execNeighbourRemoval
  dsimp only
  split
  · exact .guarded (.settled rfl)
  · exact .idle

theorem State.command_line (s : State) (dt : Nat) (c : Command) (body : List Octet) (o : Order) (inFault : Bool)
    {owner : State → State × ResultCode} (h : ∀ t : State, t.KeepsLine (owner t).1) :
    LineKept s (.next ((s.advance dt).command c body o inFault owner)) :=
  .next ((s.advance dt).command_keepsLine c body o inFault h)

theorem State.heard_line (s : State) (dt : Nat) (f : Frame) :
    LineKept s (.next ((s.advance dt).receive f Order.plain (fun t => t))) :=
  .next ((s.advance dt).receive_keepsLine f Order.plain fun _ => id)

theorem execCommandNotAddressed_line (dt : Nat) (kind : BitVec 4) (body : List Octet) (s : State) :
    LineKept s (execCommandNotAddressed dt kind body s) := by
  unfold execCommandNotAddressed
  dsimp only
  split
  · split
    · split
      · exact .idle
      · exact s.heard_line dt _
    · exact s.heard_line dt _
  · exact .idle

theorem execShoulderOtherAction_line (dt : Nat) (low high action : Octet) (s : State) :
    LineKept s (execShoulderOtherAction dt low high action s) := by
  unfold execShoulderOtherAction
  dsimp only
  split
  · exact .idle
  · exact s.command_line dt _ _ _ _ fun t => .of_eq (by rw [t.takeOtherAction_eq])

theorem execFaultAck_line (dt : Nat) (station kind unit : Octet) (s : State) : LineKept s (execFaultAck dt station kind unit s) := by
  unfold execFaultAck
  dsimp only
  split
  · exact .idle
  · exact s.command_line dt _ _ _ _ fun t => t.acknowledgeKey_keepsLine _ _

theorem execRequestOtherType_line (dt : Nat) (station type lane count : Octet) (s : State) :
    LineKept s (execRequestOtherType dt station type lane count s) := by
  unfold execRequestOtherType
  dsimp only
  split
  · exact .idle
  · exact s.command_line dt _ _ _ _ fun _ => id

/-! ### The detector unit and the arithmetic unit -/

theorem execLoopPresenceStart_line (dt : Nat) (l : Loop) (s : State) : LineKept s (execLoopPresenceStart dt l s) := by
  unfold execLoopPresenceStart
  dsimp only
  split
  · exact .idle
  · split <;> exact .same rfl

theorem execQualifiedOnEdge_line (dt : Nat) (l : Loop) (s : State) : LineKept s (execQualifiedOnEdge dt l s) := by
  unfold execQualifiedOnEdge
  dsimp only
  split
  · exact .guarded ((s.advance dt).qualifyInOrder_keepsLine l _).settle
  · exact .idle

theorem execReleaseEdge_line (dt : Nat) (l : Loop) (s : State) : LineKept s (execReleaseEdge dt l s) := by
  have hinput : (s.advance dt).KeepsLine ((s.advance dt).setInput l false) := .of_same ((s.advance dt).setInput_same l false) (by decide)
  unfold execReleaseEdge
  dsimp only
  split
  · split
    · split
      · next p _ =>
        have hrelease (t : State) : t.KeepsLine (t.releaseQualified l) := t.releaseQualified_keepsLine l
        split
        · exact .next (hinput.trans (hrelease _)).settle
        · split
          · exact .next ((hinput.trans (State.qualifyInOrder_keepsLine _ l p)).trans (hrelease _)).settle
          · exact .same rfl
      · exact .same rfl
    · exact .same rfl
  · exact .idle

theorem execPresenceTimeout_line (dt : Nat) (l : Loop) (endFirst : Bool) (s : State) : LineKept s (execPresenceTimeout dt l endFirst s) := by
  unfold execPresenceTimeout
  dsimp only
  split
  · refine .guarded (State.KeepsLine.settle (State.KeepsLine.after (State.settleMode_keepsLine _ _ _) ?_))
    split
    · split <;> rfl
    · refine (State.exchangeFaults_same _ _ _ _ _ .line (by decide)).trans ?_
      split <;> rfl
    · split <;> rfl
  · exact .idle

theorem State.judgeAll_line (s : State) (ls : List Loop) : (s.judgeAll ls).line = s.line := rfl

theorem State.mapLanes_line (s : State) (ks : List Lane) (g : LaneDetector → LaneDetector) : (s.mapLanes ks g).line = s.line := rfl

theorem State.opened_line (s : State) (stop : Tick) (lanes : List Lane) (loops : List Loop) :
    (s.opened stop lanes loops).line = s.line := by
  unfold State.opened State.handedOver State.closed
  simp only [State.judgeAll_line, State.mapLanes_line, State.setFaults_line, State.setRequests_line, State.setTrace_line]

theorem State.closeInterval_keepsLine (s : State) (stop : Tick) (lanes : List Lane) (loops : List Loop) :
    s.KeepsLine (s.closeInterval stop lanes loops) := by
  have hmodes (u : State) : u.KeepsLine (u.remeasured stop) := by
    have hsettled : u.KeepsLine (u.settleAll u.laneList stop) := .foldl (fun t k => t.settleMode_keepsLine k stop) _ _
    unfold State.remeasured
    exact hsettled.before rfl
  rw [s.closeInterval_eq]
  exact ((hmodes _).after (s.opened_line stop lanes loops)).before rfl

theorem execIntervalEnd_line (dt : Nat) (lanes : List Lane) (loops : List Loop) (s : State) :
    LineKept s (execIntervalEnd dt lanes loops s) := by
  unfold execIntervalEnd
  dsimp only
  split
  · exact .guarded ((s.advance dt).closeInterval_keepsLine _ lanes loops).settle
  · exact .idle

theorem execVehicleRequestCompletion_line (dt : Nat) (o : Order) (s : State) : LineKept s (execVehicleRequestCompletion dt o s) := by
  unfold execVehicleRequestCompletion
  dsimp only
  generalize (s.advance dt).requests = q
  cases q with
  | nil => exact .idle
  | cons r rest =>
    cases r with
    | vehicle r => exact .next (dt := dt) (.settle (.after (State.finishRecord_keepsLine _ _) rfl))
    | interval k x => exact .idle

theorem execIntervalRequestCompletion_line (dt : Nat) (o : Order) (s : State) : LineKept s (execIntervalRequestCompletion dt o s) := by
  unfold execIntervalRequestCompletion
  dsimp only
  generalize (s.advance dt).requests = q
  cases q with
  | nil => exact .idle
  | cons r rest =>
    cases r with
    | vehicle r => exact .idle
    | interval k x => exact .next (dt := dt) (.settle ((s.advance dt).completeInterval_keepsLine k x rest o))

theorem execTraceFramePlaced_line (dt : Nat) (s : State) : LineKept s (execTraceFramePlaced dt s) := by
  unfold execTraceFramePlaced
  dsimp only
  split
  · next hc =>
    simp only [Bool.and_eq_true, decide_eq_true_eq] at hc
    exact .next (dt := dt) (.after (State.enqueue_keepsLine _ [_] (Nat.succ_le_of_lt hc.2)) rfl)
  · exact .idle

/-! ### Sign channels, speed control and station control -/

theorem execIdentity_line (dt : Nat) (c : Chan) (kind : Octet) (check : BitVec 16) (endFirst : Bool) (s : State) :
    LineKept s (execIdentity dt c kind check endFirst s) := by
  have hmismatch := (s.advance dt).enterMismatch_keepsLine c endFirst
  unfold execIdentity
  dsimp only
  split
  · split
    · split
      · exact .same rfl
      · exact .next hmismatch
    · split
      · split
        · exact .same rfl
        · exact .next hmismatch.tryCommit
      · exact .idle
  · exact .idle

theorem execProvingReport_line (dt : Nat) (c : Chan) (set result : Octet) (check : BitVec 16) (endFirst : Bool) (s : State) :
    LineKept s (execProvingReport dt c set result check endFirst s) := by
  unfold execProvingReport
  dsimp only
  split
  · split
    · exact .next ((s.advance dt).prove_keepsLine c _ endFirst).tryCommit
    · exact .next ((s.advance dt).prove_keepsLine c _ endFirst).tryCommit
    · exact .next ((s.advance dt).enterFailed_keepsLine c _ endFirst).tryCommit
    · exact .idle
  · exact .idle

theorem execRestartNotice_line (dt : Nat) (c : Chan) (kind : Octet) (check : BitVec 16) (endFirst : Bool) (s : State) :
    LineKept s (execRestartNotice dt c kind check endFirst s) := by
  have hmismatch := (s.advance dt).enterMismatch_keepsLine c endFirst
  have hagain : LineKept s (.next (if kind = expectedKind c then ((s.advance dt).markIdentified c).retry c
      else (s.advance dt).enterMismatch c endFirst)) := by
    split
    · exact .next (dt := dt) ((State.retry_keepsLine _ c).after rfl)
    · exact .next hmismatch
  unfold execRestartNotice
  dsimp only
  split
  · split
    · exact .same rfl
    · split
      · split
        · exact .idle
        · split
          · exact .same rfl
          · exact .next hmismatch
        · split
          · exact .same rfl
          · exact .next hmismatch.tryCommit
        · exact hagain
        · exact hagain
        · exact .same rfl
      · exact .idle
  · exact .idle

theorem execHoldExpiry_line (dt : Nat) (s : State) : LineKept s (execHoldExpiry dt s) := by
  unfold execHoldExpiry
  dsimp only
  split
  · split
    · exact .next (dt := dt) ((State.KeepsLine.of_flag (State.servePlan_mayFlag _)).after rfl)
    · exact .same rfl
  · exact .idle

theorem State.restart_keepsLine (s : State) (straps : Straps) : LineKept s (.next (s.restart straps)) := by
  rintro _ ⟨⟩ -
  rw [s.restart_line]
  exact Line.sound_reset

theorem execStartUpCheck_line (dt : Nat) (image : List Octet) (s : State) : LineKept s (execStartUpCheck dt image s) := by
  unfold execStartUpCheck
  dsimp only
  split
  · split
    · exact .next ((s.advance dt).judgeImage_keepsLine image)
    · exact .next (dt := dt) ((State.enterConfigFault_keepsLine _).after rfl)
  · exact .idle

theorem execRestoreComplete_line (dt : Nat) (s : State) : LineKept s (execRestoreComplete dt s) := by
  have hslots : (s.advance dt).KeepsLine (Pos.all.foldl State.restoreSlot (s.advance dt)) :=
    .foldl (fun t p => .of_eq (t.restoreSlot_line p)) _ _
  unfold execRestoreComplete
  dsimp only
  generalize Pos.all.foldl State.restoreSlot (s.advance dt) = u at hslots ⊢
  exact .guarded (hslots.before (State.startWrite_line _))

theorem execWarmingEntry_line (dt : Nat) (s : State) : LineKept s (execWarmingEntry dt s) :=
  .guarded (State.KeepsLine.settle (((State.startPublication_keepsLine _ _).after rfl).before rfl))

theorem execWarmingExit_line (dt : Nat) (modeFirst : Bool) (o : Order) (s : State) : LineKept s (execWarmingExit dt modeFirst o s) := by
  have hmode : (s.advance dt).KeepsLine
      (if (s.advance dt).neighbours.isolation then (s.advance dt).setMode .isolated else (s.advance dt).setMode .running) := by
    split <;> exact .of_eq rfl
  refine .guarded (State.KeepsLine.settle ?_)
  split
  · exact (hmode.trans (.of_flag (State.serveSome_mayFlag _ _ o.between))).before (State.evaluateDemand_line _)
  · exact hmode

theorem execSlotWriteCompletion_line (dt : Nat) (s : State) : LineKept s (execSlotWriteCompletion dt s) := by
  unfold execSlotWriteCompletion
  dsimp only
  split
  · exact .guardedSame (State.startWrite_line _)
  · exact .idle

/-! ### Every command -/

theorem exec_lineKept (i : Instr) (s : State) : LineKept s (exec i s) := by
  cases i with
  | powerOnReset straps => exact s.restart_keepsLine straps
  | resetPin straps => exact s.restart_keepsLine straps
  | startUpCheck dt image => exact execStartUpCheck_line dt image s
  | restoreComplete dt => exact execRestoreComplete_line dt s
  | warmingEntry dt => exact execWarmingEntry_line dt s
  | warmUpTimerExpiry dt => exact .guardedSame rfl
  | warmingExit dt modeFirst o => exact execWarmingExit_line dt modeFirst o s
  | loopPresenceStart dt l => exact execLoopPresenceStart_line dt l s
  | qualifiedOnEdge dt l => exact execQualifiedOnEdge_line dt l s
  | releaseEdge dt l => exact execReleaseEdge_line dt l s
  | presenceTimeout dt l endFirst => exact execPresenceTimeout_line dt l endFirst s
  | pairingDeadline dt k => exact .guarded ((State.drainArrivals_keepsLine _ k).after rfl)
  | intervalEnd dt lanes loops => exact execIntervalEnd_line dt lanes loops s
  | vehicleRequestCompletion dt o => exact execVehicleRequestCompletion_line dt o s
  | intervalRequestCompletion dt o => exact execIntervalRequestCompletion_line dt o s
  | traceFramePlaced dt => exact execTraceFramePlaced_line dt s
  | idleGap dt => exact execIdleGap_line dt s
  | transmitStart dt => exact execTransmitStart_line dt s
  | arbitrationLost dt mark => exact execArbitrationLost_line dt mark s
  | transmitAbort dt cause => exact execTransmitAbort_line dt cause s
  | abortHoldEnd dt => exact execAbortHoldEnd_line dt s
  | transmitComplete sent => exact execTransmitComplete_line sent s
  | publicationTimerExpiry dt => exact execPublicationTimerExpiry_line dt s
  | lapse dt holds => exact execLapse_line dt holds s
  | frameAborted dt holds => exact execFrameAborted_line dt holds s
  | frameRejected dt cls kind source body check => exact .guarded (s.advance dt).loseFrame_keepsLine
  | lineStuck dt holds o => exact execLineStuck_line dt holds o s
  | lineStuckEnd dt => exact .guarded (Line.sound_toIdle (l := { s.line with stuck := false }) _)
  | statusFrame dt cls source body o =>
    exact .next ((s.advance dt).receive_keepsLine _ o fun t => t.takeStatus_keepsLine _ _ body o)
  | reportFrameHeard dt cls source body => exact s.heard_line dt _
  | neighbourExpiry dt station => exact execNeighbourExpiry_line dt station s
  | neighbourRemoval dt station o => exact execNeighbourRemoval_line dt station o s
  | isolationTimerExpiry dt o =>
    exact .guarded (.settled (State.becomeIsolated_same _ .line (by decide)))
  | holdExpiry dt => exact execHoldExpiry_line dt s
  | override dt low high step legend minutes o =>
    exact s.command_line dt _ _ _ _ fun t => t.takeOverride_keepsLine _ _ _
  | overrideExpiry dt o => exact .guarded (.settled rfl)
  | closeSet dt origin serial lanes taper extent step o => exact s.command_line dt _ _ _ _ fun t => t.closeSet_keepsLine _
  | closeClear dt origin serial o => exact s.command_line dt _ _ _ _ fun t => t.closeClear_keepsLine _ _
  | shoulderOpen dt low high o => exact s.command_line dt _ _ _ _ fun t => .of_flag t.takeOpen_work.flag
  | shoulderClose dt low high o => exact s.command_line dt _ _ _ _ fun t => .of_flag t.takeClose_work.flag
  | checkTimerExpiry dt => exact .guarded (State.KeepsLine.of_flag (State.moveShoulder_mayFlag _ _)).settle
  | clearanceTimerExpiry dt => exact .guarded (State.KeepsLine.of_flag (State.moveShoulder_mayFlag _ _)).settle
  | faultAck dt station kind unit => exact execFaultAck_line dt station kind unit s
  | faultAckAll dt station unit => exact s.command_line dt _ _ _ _ fun _ => .of_eq rfl
  | requestFaults dt station lane count => exact s.command_line dt _ _ _ _ fun t => t.answer_keepsLine _
  | requestLanes dt station lane count => exact s.command_line dt _ _ _ _ fun t => t.answer_keepsLine _
  | requestTrace dt station lane count => exact s.command_line dt _ _ _ _ fun t => t.startTrace_keepsLine _ _
  | identity dt c kind check endFirst => exact execIdentity_line dt c kind check endFirst s
  | identificationDeadline dt c => exact .guarded ((s.advance dt).enterFailed_keepsLine c _ _)
  | provingReport dt c set result check endFirst => exact execProvingReport_line dt c set result check endFirst s
  | provingDeadline dt c endFirst => exact .guarded ((s.advance dt).enterFailed_keepsLine c _ endFirst).tryCommit
  | retryTimerExpiry dt c => exact .guarded ((s.advance dt).retry_keepsLine c)
  | restartNotice dt c kind check endFirst => exact execRestartNotice_line dt c kind check endFirst s
  | slotWriteCompletion dt => exact execSlotWriteCompletion_line dt s
  | frameLengthRejected dt holds => exact execFrameLengthRejected_line dt holds s
  | firstHoldWrongClass dt held => exact execFirstHoldWrongClass_line dt held s
  | arbitrationWon sent => exact execArbitrationWon_line sent s
  | commandNotAddressed dt kind body => exact execCommandNotAddressed_line dt kind body s
  | shoulderOtherAction dt low high action => exact execShoulderOtherAction_line dt low high action s
  | requestOtherType dt station type lane count => exact execRequestOtherType_line dt station type lane count s

/-- Settles O7: every command keeps the line sound. -/
theorem lineInterfaceStaysSound : Obligations.LineInterfaceStaysSound := by
  intro s t hs ht
  unfold step at ht
  split at ht
  · next i rest _ => exact exec_lineKept i (s.setPending rest) t ht hs
  · cases ht
    exact hs

end Sys2Proof.Machine
end

section
/-!
PROOFS. The neighbour table and what its soundness reads of station control: the operations of the other blocks leave both as they
are (R62 to R64, R71, R73).
-/
namespace Sys2Proof.Machine

/-! ### The same table -/

/-- Two states with one neighbour table, one mode, one own number and one configuration. -/
structure State.SameTable (s t : State) : Prop where
  neighbours : t.neighbours = s.neighbours
  mode : t.mode = s.mode
  own : t.own = s.own
  cfg : t.cfg = s.cfg

theorem State.SameTable.refl (s : State) : s.SameTable s := ⟨rfl, rfl, rfl, rfl⟩

theorem State.SameTable.trans {s t u : State} (h : s.SameTable t) (k : t.SameTable u) : s.SameTable u :=
  ⟨k.neighbours.trans h.neighbours, k.mode.trans h.mode, k.own.trans h.own, k.cfg.trans h.cfg⟩

/-- What touches other blocks first leaves what follows. -/
theorem State.SameTable.after {s t u : State} (h : t.SameTable u) (e : s.SameTable t) : s.SameTable u := e.trans h

theorem State.SameTable.acting {s t : State} (h : s.SameTable t) : t.acting = s.acting := congrArg Mode.acting h.mode

/-- Steps outside station control and the neighbour table. -/
theorem State.SameTable.of_same {l : List Block} {s t : State} (h : SameOutside l s t)
    (hl : Block.neighbours ∉ l ∧ Block.station ∉ l := by decide) : s.SameTable t :=
  have hstation : t.station = s.station := h .station hl.2
  ⟨h .neighbours hl.1, congrArg Station.mode hstation, State.own_congr hstation, State.cfg_congr hstation⟩

theorem State.SameTable.foldl {α : Type} {f : State → α → State} (h : ∀ (s : State) a, s.SameTable (f s a)) (l : List α) (s : State) :
    s.SameTable (l.foldl f s) := by
  induction l generalizing s with
  | nil => exact .refl s
  | cons a as ih => exact (h s a).trans (ih (f s a))

theorem State.SameTable.settle {s t before : State} {late : List Reader} (h : s.SameTable t) : s.SameTable (t.settle before late) :=
  h.trans (.of_same (t.settle_same before late))

theorem State.SameTable.tryCommit {s t : State} (h : s.SameTable t) : s.SameTable t.tryCommit := h.trans (.of_same t.tryCommit_same)

theorem State.serveSome_table (s before : State) (rs : List Reader) : s.SameTable (s.serveSome before rs) :=
  .of_same (s.serveSome_same before rs)

theorem State.inOrder_table (s before : State) (o : Order) {f g : State → State} (hf : ∀ t : State, t.SameTable (f t))
    (hg : ∀ t : State, t.SameTable (g t)) : s.SameTable (s.inOrder before o f g) := by
  rcases s.inOrder_cases before o f g with ⟨-, e⟩ | ⟨-, e⟩
  · exact e ▸ ((hf s).trans (State.serveSome_table _ before _)).trans (hg _)
  · exact e ▸ ((hg s).trans (State.serveSome_table _ before _)).trans (hf _)

/-! ### The detector unit and the arithmetic unit -/

theorem State.completeSingle_table (s : State) (k : Lane) (a : Arrival) : s.SameTable (s.completeSingle k a) :=
  .of_same (s.completeSingle_laneWork k a).work.same

theorem State.appendArrival_table (s : State) (k : Lane) (on : Tick) : s.SameTable (s.appendArrival k on) :=
  .of_same (s.appendArrival_laneWork k on).work.same

theorem State.takeOnEdge_table (s : State) (l : Loop) (on : Tick) : s.SameTable (s.takeOnEdge l on) := by
  unfold State.takeOnEdge
  dsimp only
  generalize hu : (if l.lane = .l1 then _ else _) = u
  have hedge : s.SameTable u := by
    subst hu
    split
    · refine State.SameTable.trans ?_ (.of_same (State.abortCheck_same _))
      split <;> exact ⟨rfl, rfl, rfl, rfl⟩
    · split <;> exact ⟨rfl, rfl, rfl, rfl⟩
  split
  · exact hedge.trans (u.appendArrival_table l.lane on)
  · exact (State.SameTable.of_same (State.drainArrivals_same _ l.lane)).after (hedge.trans ⟨rfl, rfl, rfl, rfl⟩)
  · exact hedge.trans ⟨rfl, rfl, rfl, rfl⟩
  · exact hedge.trans ⟨rfl, rfl, rfl, rfl⟩
  · exact hedge

theorem State.qualify_table (s : State) (l : Loop) (p : Presence) : s.SameTable (s.qualify l p) := by
  unfold State.qualify
  dsimp only
  split
  · exact (State.takeOnEdge_table _ l p.on).after ⟨rfl, rfl, rfl, rfl⟩
  · exact ⟨rfl, rfl, rfl, rfl⟩

theorem State.qualifyInOrder_table (s : State) (l : Loop) (p : Presence) : s.SameTable (s.qualifyInOrder l p) := by
  rcases s.qualifyInOrder_cases l p with ⟨q, -, -, -, -, -, e⟩ | ⟨-, e⟩
  · exact e ▸ (s.qualify_table _ q).trans (State.qualify_table _ l p)
  · exact e ▸ s.qualify_table l p

theorem State.releaseSingle_table (s : State) (k : Lane) (pairedCounts : Bool) : s.SameTable (s.releaseSingle k pairedCounts) := by
  unfold State.releaseSingle
  split
  · exact .refl s
  · dsimp only
    split
    · exact (State.SameTable.of_same (State.completeVehicle_same _ k _)).after ⟨rfl, rfl, rfl, rfl⟩
    · exact (State.completeSingle_table _ k _).after ⟨rfl, rfl, rfl, rfl⟩

theorem State.takeRelease_table (s : State) (l : Loop) : s.SameTable (s.takeRelease l) := by
  unfold State.takeRelease
  dsimp only
  generalize hu : (if (s.detector.lanes.get l.lane).mode.counting = some l.side then _ else _) = u
  have hcount : s.SameTable u := by
    subst hu
    split <;> exact ⟨rfl, rfl, rfl, rfl⟩
  split
  · exact (State.SameTable.of_same (State.drainArrivals_same _ l.lane)).after (hcount.trans ⟨rfl, rfl, rfl, rfl⟩)
  · exact hcount.trans (u.releaseSingle_table l.lane true)
  · exact hcount.trans (u.releaseSingle_table l.lane false)
  · exact hcount

theorem State.releaseQualified_table (s : State) (l : Loop) : s.SameTable (s.releaseQualified l) := by
  unfold State.releaseQualified
  dsimp only
  split
  · exact (State.takeRelease_table _ l).after ⟨rfl, rfl, rfl, rfl⟩
  · exact ⟨rfl, rfl, rfl, rfl⟩
  · exact (State.SameTable.of_same (State.settleMode_same _ l.lane _)).after ⟨rfl, rfl, rfl, rfl⟩

theorem State.closeInterval_table (s : State) (stop : Tick) (lanes : List Lane) (loops : List Loop) :
    s.SameTable (s.closeInterval stop lanes loops) := by
  have hmodes (u : State) : u.SameTable (u.remeasured stop) :=
    (State.SameTable.foldl (fun t k => .of_same (t.settleMode_same k stop)) u.laneList u).trans ⟨rfl, rfl, rfl, rfl⟩
  rw [s.closeInterval_eq]
  exact ((State.SameTable.of_same (s.opened_work stop lanes loops).same).trans (hmodes _)).trans ⟨rfl, rfl, rfl, rfl⟩

theorem State.evaluateQueue_table (s : State) : s.SameTable s.evaluateQueue :=
  (State.SameTable.of_same s.queueTaken_same).trans (.of_same s.evaluateQueue_served.same)

theorem State.evaluateDemand_table (s : State) : s.SameTable s.evaluateDemand := by
  unfold State.evaluateDemand
  dsimp only
  split <;> split <;> exact ⟨rfl, rfl, rfl, rfl⟩

theorem State.markEvaluation_table (s : State) : s.SameTable s.markEvaluation := by
  unfold State.markEvaluation
  split <;> exact ⟨rfl, rfl, rfl, rfl⟩

theorem State.completeInterval_table (s : State) (k : Lane) (x : Snapshot) (rest : List Request) (o : Order) :
    s.SameTable (s.completeInterval k x rest o) := by
  have hrecord : s.SameTable (s.recorded k x rest) := .of_same (s.recorded_same k x rest)
  have htake (t : State) : t.SameTable t.takeMeasures := t.takeMeasures_eq ▸ .of_same t.demandTaken_same
  have hmark (t : State) : t.SameTable t.computeMeasures.markEvaluation :=
    t.computeMeasures.markEvaluation_table.after ⟨rfl, rfl, rfl, rfl⟩
  unfold State.completeInterval
  dsimp only
  split
  · exact (hrecord.trans (hmark _)).trans (State.inOrder_table _ s o htake State.evaluateQueue_table)
  · exact hrecord

/-! ### Sign channels, closures and station control -/

theorem State.clearReason_table (s : State) (c : Chan) (raised : Option FaultKind) (endFirst : Bool) :
    s.SameTable (s.clearReason c raised endFirst) := by
  unfold State.clearReason
  split
  · exact .of_same (s.exchangeFaults_same _ _ _ _)
  · exact ⟨rfl, rfl, rfl, rfl⟩
  · exact ⟨rfl, rfl, rfl, rfl⟩
  · exact .refl s

theorem State.prove_table (s : State) (c : Chan) (raised : Option FaultKind) (endFirst : Bool) :
    s.SameTable (s.prove c raised endFirst) := (s.clearReason_table c raised endFirst).trans ⟨rfl, rfl, rfl, rfl⟩

theorem State.retry_table (s : State) (c : Chan) : s.SameTable (s.retry c) :=
  (State.SameTable.of_same (s.beginAttempt_same c)).trans (.of_same (State.noteDisplacement_same _ _))

theorem State.restoreSlot_table (s : State) (p : Pos) : s.SameTable (s.restoreSlot p) := by
  unfold State.restoreSlot
  split
  · exact .refl s
  · exact .of_same (s.markDirty_same p)
  · exact (State.SameTable.of_same (State.markDirty_same _ p)).after ⟨rfl, rfl, rfl, rfl⟩
  · exact ⟨rfl, rfl, rfl, rfl⟩

theorem State.handOver_table (s : State) : s.SameTable s.handOver := by
  refine State.SameTable.after (.foldl (fun t c => ?_) Chan.all _) ⟨rfl, rfl, rfl, rfl⟩
  unfold State.handOverChannel
  split <;> exact ⟨rfl, rfl, rfl, rfl⟩

/-! ### The owners of commands -/

theorem State.closeSet_table (s : State) (c : Closure) : s.SameTable (s.closeSet c).1 := by
  unfold State.closeSet
  split
  · exact .refl s
  · split
    · exact .of_same (s.insertClosure_same c)
    · exact .of_same (s.putClosure_same _ _)

theorem State.closeClear_table (s : State) (origin serial : Nat) : s.SameTable (s.closeClear origin serial).1 := by
  unfold State.closeClear
  split
  · exact .refl s
  · split
    · exact .refl s
    · split
      · exact .of_same (s.putClosure_same _ _)
      · exact .refl s

theorem State.takeOverride_table (s : State) (step legend minutes : Nat) : s.SameTable (s.takeOverride step legend minutes).1 := by
  unfold State.takeOverride
  split
  · exact .refl s
  · split
    · exact .refl s
    · split <;> exact ⟨rfl, rfl, rfl, rfl⟩

theorem State.acknowledgeKey_table (s : State) (code unit : Nat) : s.SameTable (s.acknowledgeKey code unit).1 := by
  unfold State.acknowledgeKey
  split <;> exact ⟨rfl, rfl, rfl, rfl⟩

theorem State.answer_table (s : State) (bodies : List (List Octet)) : s.SameTable (s.answer bodies).1 := by
  unfold State.answer
  split <;> exact ⟨rfl, rfl, rfl, rfl⟩

theorem State.startTrace_table (s : State) (lane count : Nat) : s.SameTable (s.startTrace lane count).1 := by
  unfold State.startTrace
  split
  · exact .refl s
  · split <;> exact ⟨rfl, rfl, rfl, rfl⟩

/-- A command that is obeyed leaves the table if its owner does. -/
theorem State.obey_table (s : State) (c : Command) (inFault : Bool) {owner : State → State × ResultCode}
    (h : ∀ t : State, t.SameTable (owner t).1) : s.SameTable (s.obey c inFault owner) := by
  unfold State.obey
  split
  · split
    · exact (h s).trans ⟨rfl, rfl, rfl, rfl⟩
    · exact ⟨rfl, rfl, rfl, rfl⟩
  · exact .refl s

end Sys2Proof.Machine
end

section
/-!
PROOFS. The sound neighbour table (R62 to R64, R71, R73): its own changes, the bound of its entries, and every command.
-/
namespace Sys2Proof.Machine

/-! ### The entries -/

theorem eq_or_mem_of_mem_putEntry {e x : Neighbour} {l : List Neighbour} (h : x ∈ putEntry e l) : x = e ∨ x ∈ l := by
  induction l with
  | nil => exact .inl (List.mem_singleton.mp h)
  | cons y ys ih =>
    unfold putEntry at h
    split at h
    · simpa using h
    · split at h
      · exact (List.mem_cons.mp h).imp_right (List.mem_cons_of_mem y)
      · rcases List.mem_cons.mp h with rfl | h
        · exact .inr List.mem_cons_self
        · exact (ih h).imp_right (List.mem_cons_of_mem y)

/-- An entry finds its place in the rising order, and replaces the one of its number (R63). -/
theorem putEntry_pairwise (e : Neighbour) {l : List Neighbour} (h : (l.map (·.station)).Pairwise (· < ·)) :
    ((putEntry e l).map (·.station)).Pairwise (· < ·) := by
  induction l with
  | nil => exact List.pairwise_singleton _ _
  | cons x xs ih =>
    obtain ⟨hx, hxs⟩ := List.pairwise_cons.mp h
    have hlt : ∀ y ∈ xs, x.station < y.station := fun y hy => hx _ (List.mem_map_of_mem hy)
    unfold putEntry
    split
    · next he =>
      refine List.pairwise_cons.mpr ⟨fun n hn => ?_, h⟩
      obtain ⟨y, hy, rfl⟩ := List.mem_map.mp hn
      rcases List.mem_cons.mp hy with rfl | hy
      · exact he
      · exact he.trans (hlt y hy)
    · split
      · next he => exact List.pairwise_cons.mpr ⟨fun n hn => he.trans_lt (hx n hn), hxs⟩
      · next hle hne =>
        refine List.pairwise_cons.mpr ⟨fun n hn => ?_, ih hxs⟩
        obtain ⟨y, hy, rfl⟩ := List.mem_map.mp hn
        rcases eq_or_mem_of_mem_putEntry hy with rfl | hy
        · show x.station < y.station
          omega
        · exact hlt y hy

/-- Entries in rising order, each in the window and void exactly for CONFIG_FAULT. -/
def State.entriesSound (s : State) (l : List Neighbour) : Prop :=
  (l.map (·.station)).Pairwise (· < ·) ∧ ∀ e ∈ l, s.inWindow e.station = true ∧ e.void = (e.record.mode == .configFault)

theorem State.neighboursSound_entries {s : State} (h : s.neighboursSound) : s.entriesSound s.neighbours.entries := by
  obtain ⟨hsorted, hin, -⟩ := h
  exact ⟨hsorted, hin⟩

theorem State.entriesSound_congr {s t : State} (ho : t.own = s.own) (hc : t.cfg = s.cfg) (l : List Neighbour) :
    t.entriesSound l ↔ s.entriesSound l := by
  unfold State.entriesSound State.inWindow
  rw [ho, hc]

theorem State.entriesSound_putEntry {s : State} {l : List Neighbour} {e : Neighbour} (h : s.entriesSound l)
    (hw : s.inWindow e.station = true) (hv : e.void = (e.record.mode == .configFault)) : s.entriesSound (putEntry e l) := by
  obtain ⟨hsorted, hin⟩ := h
  refine ⟨putEntry_pairwise e hsorted, fun x hx => ?_⟩
  rcases eq_or_mem_of_mem_putEntry hx with rfl | hx
  · exact ⟨hw, hv⟩
  · exact hin x hx

/-- Entries that keep their number, their record and their void mark stay sound. -/
theorem State.entriesSound_map {s : State} {l : List Neighbour} {f : Neighbour → Neighbour} (h : s.entriesSound l)
    (hf : ∀ e, (f e).station = e.station ∧ (f e).record = e.record ∧ (f e).void = e.void) : s.entriesSound (l.map f) := by
  obtain ⟨hsorted, hin⟩ := h
  refine ⟨?_, fun x hx => ?_⟩
  · rw [List.map_map, show (fun e : Neighbour => e.station) ∘ f = (·.station) from funext fun e => (hf e).1]
    exact hsorted
  · obtain ⟨e, he, rfl⟩ := List.mem_map.mp hx
    obtain ⟨hstation, hrecord, hvoid⟩ := hf e
    rw [hstation, hrecord, hvoid]
    exact hin e he

theorem State.entriesSound_filter {s : State} {l : List Neighbour} (p : Neighbour → Bool) (h : s.entriesSound l) :
    s.entriesSound (l.filter p) := by
  obtain ⟨hsorted, hin⟩ := h
  exact ⟨hsorted.sublist (List.filter_sublist.map _), fun e he => hin e (List.mem_of_mem_filter he)⟩

/-- Different numbers of the window are at most as many as the window is wide (R62). -/
theorem length_le_of_window {l : List Nat} {own up down : Nat} (hn : l.Nodup)
    (hw : ∀ n ∈ l, n ≠ own ∧ own ≤ n + up ∧ n ≤ own + down) : l.length ≤ up + down := by
  have hsub : l.toFinset ⊆ (Finset.Icc (own - up) (own + down)).erase own := by
    intro n hm
    obtain ⟨hne, hlow, hhigh⟩ := hw n (List.mem_toFinset.mp hm)
    rw [Finset.mem_erase, Finset.mem_Icc]
    omega
  have hcard := Finset.card_le_card hsub
  rw [List.toFinset_card_of_nodup hn, Finset.card_erase_of_mem (by rw [Finset.mem_Icc]; omega), Nat.card_Icc] at hcard
  omega

/-! ### Steps that keep the table sound -/

/-- The second state's neighbour table is sound if the first's is. -/
def State.KeepsTable (s t : State) : Prop := s.neighboursSound → t.neighboursSound

theorem State.KeepsTable.trans {s t u : State} (h : s.KeepsTable t) (k : t.KeepsTable u) : s.KeepsTable u := fun hs => k (h hs)

theorem State.SameTable.keeps {s t : State} (h : s.SameTable t) : s.KeepsTable t := by
  rintro ⟨hsorted, hin, hreset, hisolated, hrunning⟩
  have hentries := (State.entriesSound_congr h.own h.cfg _).mpr ⟨hsorted, hin⟩
  rw [← h.neighbours] at hentries hreset hisolated hrunning
  rw [← h.mode] at hisolated hrunning
  rw [← h.acting] at hreset
  exact ⟨hentries.1, hentries.2, hreset, hisolated, hrunning⟩

theorem State.KeepsTable.settle {s t before : State} {late : List Reader} (h : s.KeepsTable t) : s.KeepsTable (t.settle before late) :=
  h.trans (State.SameTable.of_same (t.settle_same before late)).keeps

/-- In an acting station the entries are sound by themselves, and the isolation condition goes with the mode. -/
theorem State.neighboursSound_of_acting {s : State} (ha : s.acting = true) (hentries : s.entriesSound s.neighbours.entries)
    (hisolated : s.mode = .isolated → s.neighbours.isolation = true)
    (hrunning : s.mode = .running → s.neighbours.isolation = false) : s.neighboursSound :=
  ⟨hentries.1, hentries.2, fun h => absurd (ha.symm.trans h) nofun, hisolated, hrunning⟩

/-- A step of an acting station that leaves the entries keeps the table, where the condition goes with the mode. -/
theorem State.KeepsTable.of_entries {s t : State} (ha : t.acting = true) (ho : t.own = s.own) (hc : t.cfg = s.cfg)
    (he : t.neighbours.entries = s.neighbours.entries) (hisolated : t.mode = .isolated → t.neighbours.isolation = true)
    (hrunning : t.mode = .running → t.neighbours.isolation = false) : s.KeepsTable t := fun h =>
  t.neighboursSound_of_acting ha (he ▸ (State.entriesSound_congr ho hc _).mpr (State.neighboursSound_entries h)) hisolated hrunning

/-- An acting station may replace its entries by sound ones. -/
theorem State.KeepsTable.setEntries {s : State} {l : List Neighbour} {timer : Option Nat} (ha : s.acting = true)
    (hl : s.entriesSound s.neighbours.entries → s.entriesSound l) :
    s.KeepsTable (s.setNeighbours { s.neighbours with entries := l, isolationTimer := timer }) := by
  intro h
  have hentries := hl (State.neighboursSound_entries h)
  obtain ⟨-, -, -, hisolated, hrunning⟩ := h
  refine State.neighboursSound_of_acting ha ?_ hisolated hrunning
  exact (State.entriesSound_congr rfl rfl l).mpr hentries

/-- Outside ISOLATED the table of a reset is sound. -/
theorem State.neighboursSound_of_reset {s : State} (hn : s.neighbours = Neighbours.reset) (hm : s.mode ≠ .isolated) :
    s.neighboursSound := by
  unfold State.neighboursSound
  rw [hn]
  exact ⟨List.Pairwise.nil, fun _ he => absurd he List.not_mem_nil, fun _ => rfl, fun h => absurd h hm, fun _ => rfl⟩

/-! ### The changes of the table (R62 to R66, R70, R71) -/

theorem State.storeRecord_keepsTable (s : State) (n : Nat) (r : StatusRecord) (ha : s.acting = true) :
    s.KeepsTable (s.storeRecord n r) := by
  unfold State.storeRecord
  split
  · next hw => exact .setEntries ha fun h => State.entriesSound_putEntry h hw rfl
  · exact id

theorem State.makeStale_keepsTable (s : State) (n : Nat) (ha : s.acting = true) : s.KeepsTable (s.makeStale n) :=
  .setEntries ha fun h => State.entriesSound_map h fun e => by split <;> exact ⟨rfl, rfl, rfl⟩

theorem State.removeEntry_keepsTable (s : State) (n : Nat) (ha : s.acting = true) : s.KeepsTable (s.removeEntry n) :=
  .setEntries ha (State.entriesSound_filter _)

theorem State.becomeIsolated_keepsTable (s : State) (ha : s.acting = true) : s.KeepsTable s.becomeIsolated := by
  unfold State.becomeIsolated
  dsimp only
  split
  · exact .of_entries rfl rfl rfl rfl (fun _ => rfl) nofun
  · next hm => exact .of_entries ha rfl rfl rfl (fun _ => rfl) (fun h => absurd h hm)

theorem State.noteArrival_keepsTable (s : State) (n : Nat) : s.KeepsTable (s.noteArrival n) := by
  unfold State.noteArrival
  split
  · next ha =>
    dsimp only
    split
    · exact .of_entries rfl rfl rfl rfl nofun (fun _ => rfl)
    · next hm => exact .of_entries ha rfl rfl rfl (fun h => absurd h hm) (fun _ => rfl)
  · exact id

theorem State.takeStatus_keepsTable (s before : State) (n : Nat) (body : List Octet) (o : Order) :
    s.KeepsTable (s.takeStatus before n body o) := by
  unfold State.takeStatus
  split
  · next hc =>
    have ha : s.acting = true := (Bool.and_eq_true _ _ ▸ hc).1
    split
    · next r _ =>
      have hlearn (t : State) : t.SameTable (t.learn n r) := .of_same (t.learn_work n r).same
      have hserve (t : State) := t.serveSome_table before o.between
      rcases s.inOrder_cases before o (fun t => t.storeRecord n r) (fun t => t.learn n r) with ⟨-, e⟩ | ⟨-, e⟩
      · exact e ▸ (s.storeRecord_keepsTable n r ha).trans ((hserve _).trans (hlearn _)).keeps
      · have hfirst := (hlearn s).trans (hserve _)
        exact e ▸ hfirst.keeps.trans (State.storeRecord_keepsTable _ n r (hfirst.acting.trans ha))
    · exact id
  · exact id

/-! ### The reception of a frame -/

theorem State.receive_keepsTable (s : State) (f : Frame) (o : Order) {deliver : State → State}
    (h : ∀ t : State, t.KeepsTable (deliver t)) : s.KeepsTable (s.receive f o deliver) := by
  unfold State.receive
  split
  · split
    · exact (State.SameTable.of_same (s.setLine_same _)).keeps
    · dsimp only
      have harrived : s.KeepsTable ((s.setLine (s.line.toIdle s.clock)).noteArrival f.source.toNat) :=
        (State.SameTable.of_same (s.setLine_same _)).keeps.trans (State.noteArrival_keepsTable _ _)
      exact ((harrived.trans (State.serveSome_table _ s o.early).keeps).trans (h _)).settle
  · exact id

end Sys2Proof.Machine
end

section
/-!
PROOFS. The sound neighbour table (R62 to R64, R71, R73): every command keeps it.
-/
namespace Sys2Proof.Machine

/-! ### The outcome of a command -/

/-- A command's outcome keeps the neighbour table sound. -/
def TableKept (s : State) (r : Result) : Prop := ∀ t, r = .next t → s.KeepsTable t

theorem TableKept.next {s t : State} {dt : Nat} (h : (s.advance dt).KeepsTable t) : TableKept s (.next t) := by
  rintro _ ⟨⟩
  exact h

theorem TableKept.same {s t : State} {dt : Nat} (h : (s.advance dt).SameTable t) : TableKept s (.next t) := .next h.keeps

/-- A command that writes other blocks alone. -/
theorem TableKept.aside {s t : State} (hn : t.neighbours = s.neighbours) (hs : t.station = s.station) : TableKept s (.next t) :=
  .same (dt := 0) ⟨hn, congrArg Station.mode hs, State.own_congr hs, State.cfg_congr hs⟩

/-- A command whose condition does not hold lets time pass and keeps the table. -/
theorem TableKept.idle {s : State} {dt : Nat} : TableKept s (.next (s.advance dt)) := .aside rfl rfl

theorem TableKept.guarded {s t : State} {dt : Nat} {c : Prop} [Decidable c] (h : c → (s.advance dt).KeepsTable t) :
    TableKept s (if c then .next t else .next (s.advance dt)) := by
  split
  · next hc => exact .next (h hc)
  · exact .idle

theorem TableKept.guardedSame {s t : State} {dt : Nat} {c : Prop} [Decidable c] (h : (s.advance dt).SameTable t) :
    TableKept s (if c then .next t else .next (s.advance dt)) := .guarded fun _ => h.keeps

theorem TableKept.guardedAside {s t : State} {dt : Nat} {c : Prop} [Decidable c] (hn : t.neighbours = s.neighbours)
    (hs : t.station = s.station) : TableKept s (if c then .next t else .next (s.advance dt)) := by
  split
  · exact .aside hn hs
  · exact .idle

/-! ### The line interface -/

theorem execTransmitStart_table (dt : Nat) (s : State) : TableKept s (execTransmitStart dt s) := by
  unfold execTransmitStart
  dsimp only
  split
  · split
    · exact .aside rfl rfl
    · exact .idle
  · exact .idle

theorem execArbitrationLost_table (dt : Nat) (mark : LostMark) (s : State) : TableKept s (execArbitrationLost dt mark s) := by
  unfold execArbitrationLost
  dsimp only
  split
  · exact .guardedAside rfl rfl
  · exact .idle

theorem execTransmitAbort_table (dt : Nat) (cause : AbortCause) (s : State) : TableKept s (execTransmitAbort dt cause s) := by
  unfold execTransmitAbort
  dsimp only
  split
  · exact .guardedAside rfl rfl
  · exact .idle

theorem execTransmitComplete_table (sent : SentMarks) (s : State) : TableKept s (execTransmitComplete sent s) := by
  unfold execTransmitComplete
  dsimp only
  split
  · exact .guardedAside rfl rfl
  · exact .idle

theorem execArbitrationWon_table (sent : SentMarks) (s : State) : TableKept s (execArbitrationWon sent s) := by
  unfold execArbitrationWon
  dsimp only
  split
  · exact .guardedAside rfl rfl
  · exact .idle

theorem execLapse_table (dt : Nat) (holds : List Nat) (s : State) : TableKept s (execLapse dt holds s) := by
  unfold execLapse
  dsimp only
  split
  · exact .guardedAside rfl rfl
  · exact .idle

theorem execFrameAborted_table (dt : Nat) (holds : List Nat) (s : State) : TableKept s (execFrameAborted dt holds s) := by
  unfold execFrameAborted
  dsimp only
  split
  · exact .aside rfl rfl
  · exact .idle

theorem execFrameLengthRejected_table (dt : Nat) (holds : List Nat) (s : State) : TableKept s (execFrameLengthRejected dt holds s) := by
  unfold execFrameLengthRejected
  dsimp only
  split
  · exact .aside rfl rfl
  · exact .idle

theorem execFirstHoldWrongClass_table (dt held : Nat) (s : State) : TableKept s (execFirstHoldWrongClass dt held s) := by
  unfold execFirstHoldWrongClass
  dsimp only
  split
  · exact .aside rfl rfl
  · exact .idle

theorem execLineStuck_table (dt : Nat) (holds : List Nat) (o : Order) (s : State) : TableKept s (execLineStuck dt holds o s) := by
  have hmade : (s.advance dt).SameTable ((s.advance dt).madeLineStuck holds) := .of_same ((s.advance dt).madeLineStuck_same holds)
  have hstuck : (s.advance dt).KeepsTable ((s.advance dt).stuckIsolated holds) := by
    unfold State.stuckIsolated
    split
    · next ha => exact hmade.keeps.trans (State.becomeIsolated_keepsTable _ (hmade.acting.trans ha))
    · exact hmade.keeps
  exact .guarded fun _ => hstuck.settle

/-! ### The neighbour table -/

theorem execNeighbourExpiry_table (dt : Nat) (station : Nat) (s : State) : TableKept s (execNeighbourExpiry dt station s) := by
  unfold execNeighbourExpiry
  dsimp only
  split
  · refine .guarded fun hc => ?_
    simp only [Bool.and_eq_true] at hc
    exact (s.advance dt).makeStale_keepsTable station hc.1.1
  · exact .idle

theorem execNeighbourRemoval_table (dt : Nat) (station : Nat) (o : Order) (s : State) :
    TableKept s (execNeighbourRemoval dt station o s) := by
  unfold execNeighbourRemoval
  dsimp only
  split
  · refine .guarded fun hc => ?_
    simp only [Bool.and_eq_true] at hc
    exact State.KeepsTable.settle (((s.advance dt).removeEntry_keepsTable station hc.1).trans
      (State.SameTable.of_same (State.raiseFault_same _ _ _)).keeps)
  · exact .idle

theorem execIsolationTimerExpiry_table (dt : Nat) (o : Order) (s : State) : TableKept s (execIsolationTimerExpiry dt o s) := by
  refine .guarded fun hc => ?_
  simp only [Bool.and_eq_true] at hc
  have htimer : (s.advance dt).KeepsTable
      ((s.advance dt).setNeighbours { (s.advance dt).neighbours with isolationTimer := none }) :=
    .setEntries hc.1 id
  exact (htimer.trans (State.becomeIsolated_keepsTable _ hc.1)).settle

/-! ### The commands of the centre -/

theorem State.command_table (s : State) (dt : Nat) (c : Command) (body : List Octet) (o : Order) (inFault : Bool)
    {owner : State → State × ResultCode} (h : ∀ t : State, t.SameTable (owner t).1) :
    TableKept s (.next ((s.advance dt).command c body o inFault owner)) :=
  .next ((s.advance dt).receive_keepsTable _ o fun t => (t.obey_table c inFault h).keeps)

theorem State.heard_table (s : State) (dt : Nat) (f : Frame) :
    TableKept s (.next ((s.advance dt).receive f Order.plain (fun t => t))) :=
  .next ((s.advance dt).receive_keepsTable f Order.plain fun _ => id)

theorem execCommandNotAddressed_table (dt : Nat) (kind : BitVec 4) (body : List Octet) (s : State) :
    TableKept s (execCommandNotAddressed dt kind body s) := by
  unfold execCommandNotAddressed
  dsimp only
  split
  · split
    · split
      · exact .idle
      · exact s.heard_table dt _
    · exact s.heard_table dt _
  · exact .idle

theorem execShoulderOtherAction_table (dt : Nat) (low high action : Octet) (s : State) :
    TableKept s (execShoulderOtherAction dt low high action s) := by
  unfold execShoulderOtherAction
  dsimp only
  split
  · exact .idle
  · exact s.command_table dt _ _ _ _ fun t => by rw [t.takeOtherAction_eq]; exact .refl t

theorem execFaultAck_table (dt : Nat) (station kind unit : Octet) (s : State) : TableKept s (execFaultAck dt station kind unit s) := by
  unfold execFaultAck
  dsimp only
  split
  · exact .idle
  · exact s.command_table dt _ _ _ _ fun t => t.acknowledgeKey_table _ _

theorem execRequestOtherType_table (dt : Nat) (station type lane count : Octet) (s : State) :
    TableKept s (execRequestOtherType dt station type lane count s) := by
  unfold execRequestOtherType
  dsimp only
  split
  · exact .idle
  · exact s.command_table dt _ _ _ _ State.SameTable.refl

/-! ### The detector unit and the arithmetic unit -/

theorem execLoopPresenceStart_table (dt : Nat) (l : Loop) (s : State) : TableKept s (execLoopPresenceStart dt l s) := by
  unfold execLoopPresenceStart
  dsimp only
  split
  · exact .idle
  · split <;> exact .aside rfl rfl

theorem execQualifiedOnEdge_table (dt : Nat) (l : Loop) (s : State) : TableKept s (execQualifiedOnEdge dt l s) := by
  unfold execQualifiedOnEdge
  dsimp only
  split
  · exact .guardedSame ((s.advance dt).qualifyInOrder_table l _).settle
  · exact .idle

theorem execReleaseEdge_table (dt : Nat) (l : Loop) (s : State) : TableKept s (execReleaseEdge dt l s) := by
  have hinput : (s.advance dt).SameTable ((s.advance dt).setInput l false) := .of_same ((s.advance dt).setInput_same l false)
  unfold execReleaseEdge
  dsimp only
  split
  · split
    · split
      · next p _ =>
        have hrelease (t : State) : t.SameTable (t.releaseQualified l) := t.releaseQualified_table l
        split
        · exact .same (hinput.trans (hrelease _)).settle
        · split
          · exact .same ((hinput.trans (State.qualifyInOrder_table _ l p)).trans (hrelease _)).settle
          · exact .aside rfl rfl
      · exact .aside rfl rfl
    · exact .aside rfl rfl
  · exact .idle

theorem execPresenceTimeout_table (dt : Nat) (l : Loop) (endFirst : Bool) (s : State) :
    TableKept s (execPresenceTimeout dt l endFirst s) := by
  unfold execPresenceTimeout
  dsimp only
  split
  · refine .guardedSame (State.SameTable.settle (State.SameTable.after (.of_same (State.settleMode_same _ _ _)) ?_))
    split
    · split <;> exact ⟨rfl, rfl, rfl, rfl⟩
    · refine State.SameTable.after (.of_same (State.exchangeFaults_same _ _ _ _ _)) ?_
      split <;> exact ⟨rfl, rfl, rfl, rfl⟩
    · split <;> exact ⟨rfl, rfl, rfl, rfl⟩
  · exact .idle

theorem execIntervalEnd_table (dt : Nat) (lanes : List Lane) (loops : List Loop) (s : State) :
    TableKept s (execIntervalEnd dt lanes loops s) := by
  unfold execIntervalEnd
  dsimp only
  split
  · exact .guardedSame ((s.advance dt).closeInterval_table _ lanes loops).settle
  · exact .idle

theorem execVehicleRequestCompletion_table (dt : Nat) (o : Order) (s : State) : TableKept s (execVehicleRequestCompletion dt o s) := by
  unfold execVehicleRequestCompletion
  dsimp only
  generalize (s.advance dt).requests = q
  cases q with
  | nil => exact .idle
  | cons r rest =>
    cases r with
    | vehicle r =>
      exact .same (dt := dt) (.settle (.after (.of_same (State.finishRecord_same _ _)) ⟨rfl, rfl, rfl, rfl⟩))
    | interval k x => exact .idle

theorem execIntervalRequestCompletion_table (dt : Nat) (o : Order) (s : State) : TableKept s (execIntervalRequestCompletion dt o s) := by
  unfold execIntervalRequestCompletion
  dsimp only
  generalize (s.advance dt).requests = q
  cases q with
  | nil => exact .idle
  | cons r rest =>
    cases r with
    | vehicle r => exact .idle
    | interval k x => exact .same (dt := dt) (.settle ((s.advance dt).completeInterval_table k x rest o))

/-! ### Sign channels and speed control -/

theorem execIdentity_table (dt : Nat) (c : Chan) (kind : Octet) (check : BitVec 16) (endFirst : Bool) (s : State) :
    TableKept s (execIdentity dt c kind check endFirst s) := by
  have hmismatch : (s.advance dt).SameTable ((s.advance dt).enterMismatch c endFirst) :=
    .of_same ((s.advance dt).enterMismatch_same c endFirst)
  unfold execIdentity
  dsimp only
  split
  · split
    · split
      · exact .aside rfl rfl
      · exact .same hmismatch
    · split
      · split
        · exact .aside rfl rfl
        · exact .same hmismatch.tryCommit
      · exact .idle
  · exact .idle

theorem execProvingReport_table (dt : Nat) (c : Chan) (set result : Octet) (check : BitVec 16) (endFirst : Bool) (s : State) :
    TableKept s (execProvingReport dt c set result check endFirst s) := by
  unfold execProvingReport
  dsimp only
  split
  · split
    · exact .same ((s.advance dt).prove_table c _ endFirst).tryCommit
    · exact .same ((s.advance dt).prove_table c _ endFirst).tryCommit
    · exact .same (State.SameTable.of_same ((s.advance dt).enterFailed_same c _ endFirst)).tryCommit
    · exact .idle
  · exact .idle

theorem execRestartNotice_table (dt : Nat) (c : Chan) (kind : Octet) (check : BitVec 16) (endFirst : Bool) (s : State) :
    TableKept s (execRestartNotice dt c kind check endFirst s) := by
  have hmismatch : (s.advance dt).SameTable ((s.advance dt).enterMismatch c endFirst) :=
    .of_same ((s.advance dt).enterMismatch_same c endFirst)
  have hagain : TableKept s (.next (if kind = expectedKind c then ((s.advance dt).markIdentified c).retry c
      else (s.advance dt).enterMismatch c endFirst)) := by
    split
    · exact .same (dt := dt) ((State.retry_table _ c).after ⟨rfl, rfl, rfl, rfl⟩)
    · exact .same hmismatch
  unfold execRestartNotice
  dsimp only
  split
  · split
    · exact .aside rfl rfl
    · split
      · split
        · exact .idle
        · split
          · exact .aside rfl rfl
          · exact .same hmismatch
        · split
          · exact .aside rfl rfl
          · exact .same hmismatch.tryCommit
        · exact hagain
        · exact hagain
        · exact .aside rfl rfl
      · exact .idle
  · exact .idle

theorem execHoldExpiry_table (dt : Nat) (s : State) : TableKept s (execHoldExpiry dt s) := by
  unfold execHoldExpiry
  dsimp only
  split
  · split
    · exact .same (dt := dt) (.after (.of_same (State.serveComposer_same _)) ⟨rfl, rfl, rfl, rfl⟩)
    · exact .aside rfl rfl
  · exact .idle

/-! ### Station control -/

theorem State.restart_table (s : State) (straps : Straps) : TableKept s (.next (s.restart straps)) := by
  rintro _ ⟨⟩ -
  have hn : (s.restart straps).neighbours = Neighbours.reset := by
    unfold State.restart
    dsimp only
    split <;> rfl
  have hm : (s.restart straps).mode = .starting := by
    unfold State.restart
    dsimp only
    split <;> rfl
  exact State.neighboursSound_of_reset hn (hm.trans_ne nofun)

/-- The start-up check finds the table of the reset, and leaves it (R73). -/
theorem execStartUpCheck_table (dt : Nat) (image : List Octet) (s : State) : TableKept s (execStartUpCheck dt image s) := by
  have hfault (u : State) (hu : u.neighbours = s.neighbours) :
      u.enterConfigFault.neighbours = s.neighbours ∧ u.enterConfigFault.mode ≠ .isolated := by
    obtain ⟨hstation, -, -, -, -, hsame⟩ := u.enterConfigFault_spec
    exact ⟨(hsame .neighbours (by decide)).trans hu, (congrArg Station.mode hstation).trans_ne nofun⟩
  unfold execStartUpCheck
  dsimp only
  split
  · next hc =>
    simp only [Bool.and_eq_true, beq_iff_eq] at hc
    have hm : s.mode = .starting := hc.1.1
    have outcome {t : State} (ht : t.neighbours = s.neighbours ∧ t.mode ≠ .isolated) : TableKept s (.next t) := by
      rintro _ ⟨⟩ ⟨-, -, hreset, -⟩
      exact State.neighboursSound_of_reset (ht.1.trans (hreset (by rw [State.acting, hm]; rfl))) ht.2
    split
    · refine outcome ?_
      unfold State.judgeImage
      dsimp only
      rw [State.raiseImageFaults_eq]
      split
      · exact ⟨(State.handOver_table _).neighbours, (State.handOver_table _).mode.trans_ne (hm.trans_ne nofun)⟩
      · exact hfault _ rfl
    · exact outcome (hfault _ rfl)
  · exact .idle

theorem execRestoreComplete_table (dt : Nat) (s : State) : TableKept s (execRestoreComplete dt s) := by
  have hslots : (s.advance dt).SameTable (Pos.all.foldl State.restoreSlot (s.advance dt)) := .foldl State.restoreSlot_table _ _
  unfold execRestoreComplete
  dsimp only
  generalize Pos.all.foldl State.restoreSlot (s.advance dt) = u at hslots ⊢
  exact .guardedSame (.after (.of_same (State.startWrite_same _)) (hslots.trans ⟨rfl, rfl, rfl, rfl⟩))

theorem execWarmingEntry_table (dt : Nat) (s : State) : TableKept s (execWarmingEntry dt s) :=
  .guarded fun _ => .settle (.of_entries rfl rfl rfl rfl nofun nofun)

theorem execWarmingExit_table (dt : Nat) (modeFirst : Bool) (o : Order) (s : State) : TableKept s (execWarmingExit dt modeFirst o s) := by
  have hmode : (s.advance dt).KeepsTable
      (if (s.advance dt).neighbours.isolation then (s.advance dt).setMode .isolated else (s.advance dt).setMode .running) := by
    split
    · next h => exact .of_entries rfl rfl rfl rfl (fun _ => h) nofun
    · next h => exact .of_entries rfl rfl rfl rfl nofun (fun _ => Bool.not_eq_true _ ▸ h)
  refine .guarded fun _ => .settle ?_
  split
  · exact hmode.trans ((State.serveSome_table _ _ o.between).trans (State.evaluateDemand_table _)).keeps
  · exact hmode

theorem execSlotWriteCompletion_table (dt : Nat) (s : State) : TableKept s (execSlotWriteCompletion dt s) := by
  unfold execSlotWriteCompletion
  dsimp only
  split
  · exact .guardedSame (.after (.of_same (State.startWrite_same _)) ⟨rfl, rfl, rfl, rfl⟩)
  · exact .idle

/-! ### Every command -/

theorem exec_tableKept (i : Instr) (s : State) : TableKept s (exec i s) := by
  cases i with
  | powerOnReset straps => exact s.restart_table straps
  | resetPin straps => exact s.restart_table straps
  | startUpCheck dt image => exact execStartUpCheck_table dt image s
  | restoreComplete dt => exact execRestoreComplete_table dt s
  | warmingEntry dt => exact execWarmingEntry_table dt s
  | warmUpTimerExpiry dt => exact .guardedSame ⟨rfl, rfl, rfl, rfl⟩
  | warmingExit dt modeFirst o => exact execWarmingExit_table dt modeFirst o s
  | loopPresenceStart dt l => exact execLoopPresenceStart_table dt l s
  | qualifiedOnEdge dt l => exact execQualifiedOnEdge_table dt l s
  | releaseEdge dt l => exact execReleaseEdge_table dt l s
  | presenceTimeout dt l endFirst => exact execPresenceTimeout_table dt l endFirst s
  | pairingDeadline dt k => exact .guardedSame (.after (.of_same (State.drainArrivals_same _ k)) ⟨rfl, rfl, rfl, rfl⟩)
  | intervalEnd dt lanes loops => exact execIntervalEnd_table dt lanes loops s
  | vehicleRequestCompletion dt o => exact execVehicleRequestCompletion_table dt o s
  | intervalRequestCompletion dt o => exact execIntervalRequestCompletion_table dt o s
  | traceFramePlaced dt => exact .guardedAside rfl rfl
  | idleGap dt => exact .guardedAside rfl rfl
  | transmitStart dt => exact execTransmitStart_table dt s
  | arbitrationLost dt mark => exact execArbitrationLost_table dt mark s
  | transmitAbort dt cause => exact execTransmitAbort_table dt cause s
  | abortHoldEnd dt => exact .guardedAside rfl rfl
  | transmitComplete sent => exact execTransmitComplete_table sent s
  | publicationTimerExpiry dt => exact .guardedAside rfl rfl
  | lapse dt holds => exact execLapse_table dt holds s
  | frameAborted dt holds => exact execFrameAborted_table dt holds s
  | frameRejected dt cls kind source body check => exact .guardedAside rfl rfl
  | lineStuck dt holds o => exact execLineStuck_table dt holds o s
  | lineStuckEnd dt => exact .guardedAside rfl rfl
  | statusFrame dt cls source body o =>
    exact .next ((s.advance dt).receive_keepsTable _ o fun t => t.takeStatus_keepsTable _ _ body o)
  | reportFrameHeard dt cls source body => exact s.heard_table dt _
  | neighbourExpiry dt station => exact execNeighbourExpiry_table dt station s
  | neighbourRemoval dt station o => exact execNeighbourRemoval_table dt station o s
  | isolationTimerExpiry dt o => exact execIsolationTimerExpiry_table dt o s
  | holdExpiry dt => exact execHoldExpiry_table dt s
  | override dt low high step legend minutes o => exact s.command_table dt _ _ _ _ fun t => t.takeOverride_table _ _ _
  | overrideExpiry dt o => exact .guardedSame (.settle ⟨rfl, rfl, rfl, rfl⟩)
  | closeSet dt origin serial lanes taper extent step o => exact s.command_table dt _ _ _ _ fun t => t.closeSet_table _
  | closeClear dt origin serial o => exact s.command_table dt _ _ _ _ fun t => t.closeClear_table _ _
  | shoulderOpen dt low high o => exact s.command_table dt _ _ _ _ fun t => .of_same t.takeOpen_work.same
  | shoulderClose dt low high o => exact s.command_table dt _ _ _ _ fun t => .of_same t.takeClose_work.same
  | checkTimerExpiry dt => exact .guardedSame (.settle (.of_same (State.moveShoulder_same _ _)))
  | clearanceTimerExpiry dt => exact .guardedSame (.settle (.of_same (State.moveShoulder_same _ _)))
  | faultAck dt station kind unit => exact execFaultAck_table dt station kind unit s
  | faultAckAll dt station unit => exact s.command_table dt _ _ _ _ fun _ => ⟨rfl, rfl, rfl, rfl⟩
  | requestFaults dt station lane count => exact s.command_table dt _ _ _ _ fun t => t.answer_table _
  | requestLanes dt station lane count => exact s.command_table dt _ _ _ _ fun t => t.answer_table _
  | requestTrace dt station lane count => exact s.command_table dt _ _ _ _ fun t => t.startTrace_table _ _
  | identity dt c kind check endFirst => exact execIdentity_table dt c kind check endFirst s
  | identificationDeadline dt c => exact .guardedSame (.of_same (State.enterFailed_same _ c _ _))
  | provingReport dt c set result check endFirst => exact execProvingReport_table dt c set result check endFirst s
  | provingDeadline dt c endFirst => exact .guardedSame (State.SameTable.of_same (State.enterFailed_same _ c _ endFirst)).tryCommit
  | retryTimerExpiry dt c => exact .guardedSame ((s.advance dt).retry_table c)
  | restartNotice dt c kind check endFirst => exact execRestartNotice_table dt c kind check endFirst s
  | slotWriteCompletion dt => exact execSlotWriteCompletion_table dt s
  | frameLengthRejected dt holds => exact execFrameLengthRejected_table dt holds s
  | firstHoldWrongClass dt held => exact execFirstHoldWrongClass_table dt held s
  | arbitrationWon sent => exact execArbitrationWon_table sent s
  | commandNotAddressed dt kind body => exact execCommandNotAddressed_table dt kind body s
  | shoulderOtherAction dt low high action => exact execShoulderOtherAction_table dt low high action s
  | requestOtherType dt station type lane count => exact execRequestOtherType_table dt station type lane count s

/-! ### The bound of the table -/

/-- The windows of an acting station are at most 4 wide on either side (R62, R167). -/
theorem Station.sound.windows {s : State} (h : s.station.sound) (ha : s.acting = true) : s.cfg.upWindow ≤ 4 ∧ s.cfg.downWindow ≤ 4 := by
  obtain ⟨-, husable, hrestored, hacting, -⟩ := h
  obtain ⟨-, g, hg, -, -, -, -, hup, hdown⟩ := husable (hrestored (hacting ha))
  rw [State.cfg, hg]
  exact ⟨hup, hdown⟩

/-- A sound table holds one entry for each number, and no more than the window has numbers. -/
theorem State.neighboursSound_bound {s : State} (hs : s.station.sound) (h : s.neighboursSound) :
    s.neighbours.entries.length ≤ 8 ∧ (s.neighbours.entries.map (·.station)).Nodup := by
  obtain ⟨hsorted, hin, hreset, -⟩ := h
  have hnodup : (s.neighbours.entries.map (·.station)).Nodup := hsorted.imp Nat.ne_of_lt
  refine ⟨?_, hnodup⟩
  cases ha : s.acting
  · rw [hreset ha]
    exact Nat.zero_le 8
  · obtain ⟨hup, hdown⟩ := hs.windows ha
    have hwidth := length_le_of_window hnodup fun n hn => by
      obtain ⟨e, he, rfl⟩ := List.mem_map.mp hn
      obtain ⟨hne, -, -, hlow, hhigh⟩ := of_decide_eq_true (hin e he).1
      exact ⟨hne, hlow, hhigh⟩
    rw [List.length_map] at hwidth
    omega

/-- Settles O9: every command keeps the table sound, and its window bounds it. -/
theorem neighbourTableStaysSound : Obligations.NeighbourTableStaysSound := by
  refine ⟨fun s t _ hs ht => ?_, fun s => State.neighboursSound_bound⟩
  unfold step at ht
  split at ht
  · next i rest _ => exact exec_tableKept i (s.setPending rest) t ht hs
  · cases ht
    exact hs

end Sys2Proof.Machine
end

section
/-!
PROOFS. The readers of a step that may have entered ISOLATED: beside what readers recompute, the shoulder may have been closed by
force (R130, R163).
-/
namespace Sys2Proof.Machine

/-! ### The forced closing -/

/-- A shoulder that neither stands open nor is checked is not forced (R130). -/
theorem State.forceClosing_of_calm (s : State) (ho : s.shoulder.state ≠ .opened) (hc : s.shoulder.state ≠ .checking) :
    s.forceClosing = s := if_neg fun h => h.elim ho hc

/-- A forced closing is made once: a further one at the same moment finds CLOSING (R130). -/
theorem State.forceClosing_shoulder_congr {s t : State} (hclock : t.clock = s.clock) (hstation : t.station = s.station)
    (h : t.shoulder = s.shoulder ∨ t.shoulder = s.forceClosing.shoulder) : t.forceClosing.shoulder = s.forceClosing.shoulder := by
  rcases h with h | h
  · rw [t.forceClosing_shoulder, s.forceClosing_shoulder, h, hclock, State.cfg_congr hstation]
  · have hcalm : t.shoulder.state ≠ .opened ∧ t.shoulder.state ≠ .checking := by
      rw [h, s.forceClosing_shoulder]
      split
      · exact ⟨nofun, nofun⟩
      · next hn => exact ⟨fun e => hn (.inl e), fun e => hn (.inr e)⟩
    rw [t.forceClosing_of_calm hcalm.1 hcalm.2, h]

/-! ### What readers leave -/

/-- Readers may have taken their reports: the speed terms stand, and the shoulder is as it was or closed by force. -/
structure State.Taken (s t : State) : Prop where
  same : SameOutside (.shoulder :: readers) s t
  speed : t.speed = s.speed.withHeld t.speed
  shoulder : t.shoulder = s.shoulder ∨ t.shoulder = s.forceClosing.shoulder

theorem State.Taken.refl (s : State) : s.Taken s := ⟨SameOutside.refl _ s, rfl, .inl rfl⟩

theorem State.Taken.clock {s t : State} (h : s.Taken t) : t.clock = s.clock := h.same .clock (by decide)

theorem State.Taken.station {s t : State} (h : s.Taken t) : t.station = s.station := h.same .station (by decide)

theorem State.Taken.demand {s t : State} (h : s.Taken t) : t.speed.demand = s.speed.demand := (congrArg Speed.demand h.speed).trans rfl

theorem State.Taken.dwell {s t : State} (h : s.Taken t) : t.speed.dwell = s.speed.dwell := (congrArg Speed.dwell h.speed).trans rfl

theorem State.Taken.trans {s t u : State} (h : s.Taken t) (k : t.Taken u) : s.Taken u where
  same := h.same.trans k.same (fun _ x => x) (fun _ x => x)
  speed := by
    refine k.speed.trans ?_
    rw [h.speed]
    rfl
  shoulder := by
    rw [← State.forceClosing_shoulder_congr h.clock h.station h.shoulder]
    rcases k.shoulder with e | e
    · rw [e, State.forceClosing_shoulder_congr h.clock h.station h.shoulder]
      exact h.shoulder
    · exact .inr e

theorem State.Served.taken {s t : State} (h : s.Served t) : s.Taken t :=
  ⟨h.same.mono (fun _ hb => List.mem_cons_of_mem _ hb), congrArg State.speed h.eq, .inl (h.same .shoulder (by decide))⟩

theorem State.serve_taken (s before : State) (r : Reader) : s.Taken (s.serve before r) := by
  cases r with
  | queue => exact State.Served.taken rfl
  | speed => exact s.serveSpeed_served.taken
  | plan => exact (State.served_of_composer_same s.servePlan_same).taken
  | composer => exact (State.served_of_composer_same s.serveComposer_same).taken
  | shoulder =>
    have hspeed : (s.serveShoulder before).speed = s.speed := s.serveShoulder_same before .speed (by decide)
    refine ⟨s.serve_same before .shoulder, ?_, ?_⟩
    · show (s.serveShoulder before).speed = s.speed.withHeld (s.serveShoulder before).speed
      rw [hspeed]
      rfl
    · show (s.serveShoulder before).shoulder = _ ∨ (s.serveShoulder before).shoulder = _
      unfold State.serveShoulder
      split
      · exact .inr rfl
      · exact .inl rfl

theorem State.serveAll_taken (s before : State) (rs : List Reader) : s.Taken (s.serveAll before rs) := by
  induction rs generalizing s with
  | nil => exact .refl s
  | cons r rs ih => exact (s.serve_taken before r).trans (ih _)

theorem State.serveSome_taken (s before : State) (rs : List Reader) : s.Taken (s.serveSome before rs) := by
  unfold State.serveSome
  split
  · exact s.serveAll_taken before rs
  · exact .refl s

theorem State.settle_taken (s before : State) (late : List Reader) : s.Taken (s.settle before late) := by
  rcases s.settle_cases before late with ⟨-, -, e⟩ | ⟨-, e⟩
  · rw [e, State.serveEvery_eq]
    exact (s.serveAll_taken before late).trans (State.serveAll_taken _ before _)
  · rw [e]
    exact .refl s

/-- A shoulder that neither stands open nor is checked stays as it is. -/
theorem State.Taken.shoulder_of_calm {s t : State} (h : s.Taken t) (ho : s.shoulder.state ≠ .opened)
    (hc : s.shoulder.state ≠ .checking) : t.shoulder = s.shoulder := by
  have hshoulder := h.shoulder
  rwa [s.forceClosing_of_calm ho hc, or_self] at hshoulder

/-- A step that enters ISOLATED closes the shoulder by force before it ends (R130). -/
theorem State.settle_forces (s before : State) (late : List Reader) (hm : s.mode = .isolated) (hb : before.mode ≠ .isolated) :
    (s.settle before late).shoulder = s.forceClosing.shoulder := by
  have ha : s.acting = true := by rw [State.acting, hm]; rfl
  have hr : s.reported before = true := by
    have : s.mode ≠ before.mode := hm ▸ hb.symm
    simp [State.reported, this]
  have hlate := s.serveAll_taken before late
  have hforce : ((s.serveAll before late).serveShoulder before).shoulder = s.forceClosing.shoulder := by
    unfold State.serveShoulder
    rw [if_pos ⟨(congrArg Station.mode hlate.station).trans hm, hb⟩]
    exact State.forceClosing_shoulder_congr hlate.clock hlate.station hlate.shoulder
  have hrest (t : State) : t.serveQueue.serveSpeed.serveComposer.shoulder = t.shoulder :=
    (State.serveComposer_same _ .shoulder (by decide)).trans ((State.serveSpeed_same _ .shoulder (by decide)).trans rfl)
  rcases s.settle_cases before late with ⟨-, -, e⟩ | ⟨h | h, -⟩
  · rw [e]
    exact (hrest _).trans hforce
  · exact absurd (ha.symm.trans h) nofun
  · exact absurd (hr.symm.trans h) nofun

end Sys2Proof.Machine
end

section
/-!
PROOFS. The end of the warm-up (R71, R77, R169).
-/
namespace Sys2Proof.Machine

theorem State.setStation_same (s : State) (x : Station) : SameOutside [.station] s (s.setStation x) := by
  intro b hb
  cases b <;> first | rfl | exact absurd (by decide) hb

theorem exec_warmingExit_eq (dt : Nat) (modeFirst : Bool) (o : Order) (s : State) :
    exec (.warmingExit dt modeFirst o) s = execWarmingExit dt modeFirst o s := rfl

/-- The state that has left WARMING, before the readers take the change of mode (R71, R169). -/
def State.exited (s : State) : State := if s.neighbours.isolation then s.setMode .isolated else s.setMode .running

theorem State.exited_eq (s : State) : s.exited = s.setMode (if s.neighbours.isolation then .isolated else .running) := by
  unfold State.exited
  split <;> rfl

/-- A demand evaluation that falls together with the mode change and comes after it (R77). -/
def State.exitEvaluated (s : State) (between : List Reader) : State := (s.exited.serveSome s between).evaluateDemand

theorem execWarmingExit_of_ready (dt : Nat) (modeFirst : Bool) (o : Order) (s : State) (hm : s.mode = .warming)
    (hw : s.station.warmedUp = true) (he : s.station.firstEvaluation = true) :
    execWarmingExit dt modeFirst o s =
      .next ((if modeFirst && s.station.markSetAt == some (s.clock + dt) then (s.advance dt).exitEvaluated o.between
        else (s.advance dt).exited).settle (s.advance dt) o.late) := by
  refine if_pos ?_
  simp [hm, hw, he]

/-- What the evaluation after the mode change makes of speed control and of the fault list (R77 to R81). -/
theorem State.exitEvaluated_spec (s : State) (between : List Reader) :
    (s.exitEvaluated between).clock = s.clock ∧ (s.exitEvaluated between).station = s.exited.station ∧
      (s.shoulder.state = .closed → (s.exitEvaluated between).shoulder = s.shoulder) ∧
      (s.speed.demand ≤ s.candidate → (s.measures.speed ≠ none ∨ s.measures.occupancy ≠ none) →
        (s.exitEvaluated between).speed.demand = s.candidate ∧ (s.exitEvaluated between).speed.dwell = 0) ∧
      SameOutside (andReaders [.station, .shoulder, .faults]) s (s.exitEvaluated between) := by
  have hexit : SameOutside [.station] s s.exited := s.exited_eq ▸ s.setMode_same _
  have htaken := s.exited.serveSome_taken s between
  generalize hu : s.exited.serveSome s between = u at htaken
  have hmode : u.mode = .running ∨ u.mode = .isolated := by
    have h : u.mode = s.exited.mode := congrArg Station.mode htaken.station
    rw [h, s.exited_eq]
    show (if s.neighbours.isolation then Mode.isolated else .running) = _ ∨ (if s.neighbours.isolation then Mode.isolated else .running) = _
    cases s.neighbours.isolation
    · exact .inl rfl
    · exact .inr rfl
  have hdemand : s.exitEvaluated between = u.demandTaken := by
    rw [← State.takeMeasures_eq, State.takeMeasures, if_pos hmode, State.exitEvaluated, hu]
  have hsame := u.demandTaken_same
  obtain ⟨hspeed, -⟩ := u.demandTaken_of_judging hmode
  have hmeasures : u.measures = s.measures := (htaken.same .measures (by decide)).trans (hexit .measures (by decide))
  have hcandidate : u.candidate = s.candidate :=
    State.candidate_congr hmeasures ((State.cfg_congr htaken.station).trans (s.exited_eq ▸ rfl))
  have hold : u.speed.demand = s.speed.demand := htaken.demand.trans (congrArg Speed.demand (hexit .speed (by decide)))
  rw [hdemand]
  refine ⟨(hsame .clock (by decide)).trans (htaken.clock.trans (hexit .clock (by decide))),
    (hsame .station (by decide)).trans htaken.station, fun hc => ?_, fun hle hm => ?_, ?_⟩
  · have hshoulder : s.exited.shoulder = s.shoulder := hexit .shoulder (by decide)
    exact (hsame .shoulder (by decide)).trans
      ((htaken.shoulder_of_calm (hshoulder ▸ hc ▸ nofun) (hshoulder ▸ hc ▸ nofun)).trans hshoulder)
  · rw [hspeed, hmeasures, hcandidate]
    obtain ⟨hrise, -⟩ := Speed.judged_of_measure u.speed s.measures s.candidate u.cfg.dwellCount u.releaseHolds hm
    exact hrise (hold ▸ hle)
  · exact ((hexit.trans htaken.same (n := andReaders [.station, .shoulder]) (by decide) (by decide)).trans hsame
      (by decide) (by decide))

/-- What the end of the warm-up makes of a shoulder that stands closed and of the parts it does not concern, with `w` the state
whose report the readers take last. -/
theorem State.exit_settle {s w : State} (late : List Reader) (hclock : w.clock = s.clock) (hstation : w.station = s.exited.station)
    (hshoulder : s.shoulder.state = .closed → w.shoulder = s.shoulder)
    (hsame : SameOutside (andReaders [.station, .shoulder, .faults]) s w) :
    (w.settle s late).clock = s.clock ∧
      (w.settle s late).station = { s.station with mode := if s.neighbours.isolation then .isolated else .running } ∧
      (s.shoulder.state = .closed → (w.settle s late).shoulder = s.shoulder) ∧
      SameOutside (andReaders [.station, .shoulder, .faults]) s (w.settle s late) := by
  have htaken := w.settle_taken s late
  refine ⟨htaken.clock.trans hclock, htaken.station.trans (hstation.trans (s.exited_eq ▸ rfl)), fun hc => ?_,
    hsame.trans htaken.same (by decide) (by decide)⟩
  have hkept := hshoulder hc
  exact (htaken.shoulder_of_calm (hkept ▸ hc ▸ nofun) (hkept ▸ hc ▸ nofun)).trans hkept

/-- Settles O23: the evaluation that falls together with the mode change is made in the new mode, and the readers leave what it
makes of the demand. -/
theorem warmUpEndsInRunningOrIsolated : Obligations.WarmUpEndsInRunningOrIsolated := by
  refine ⟨fun dt e s hm hw hd => ?_, fun dt modeFirst o s hm hw he => ?_⟩
  · refine ⟨_, if_pos ?_, rfl, rfl, (s.advance_same dt).trans (State.setStation_same _ _) (by decide) (by decide), rfl⟩
    have hdue : (s.advance dt).due (s.advance dt).station.warmUp = true := by
      show State.due _ s.station.warmUp = true
      rw [hw]
      exact decide_eq_true hd
    rw [hdue, Bool.and_true]
    exact beq_iff_eq.mpr hm
  · refine ⟨_, (exec_warmingExit_eq ..).trans (execWarmingExit_of_ready dt modeFirst o s hm hw he), ?_⟩
    have hadvance := s.advance_same dt
    have hframe {t : State} (h : SameOutside (andReaders [.station, .shoulder, .faults]) (s.advance dt) t) :
        SameOutside (andReaders [.clock, .station, .shoulder, .faults]) s t := hadvance.trans h (by decide) (by decide)
    split
    · next h =>
      rw [Bool.and_eq_true, beq_iff_eq] at h
      obtain ⟨hclock, hstation, hshoulder, hrise, hsame⟩ := (s.advance dt).exitEvaluated_spec o.between
      have htaken := ((s.advance dt).exitEvaluated o.between).settle_taken (s.advance dt) o.late
      obtain ⟨ec, es, esh, ef⟩ := State.exit_settle o.late hclock hstation hshoulder hsame
      refine ⟨ec, es, esh, fun hnot => ?_, fun ⟨_, _, hle, hmeasure⟩ => ?_, hframe ef⟩
      · rcases hnot with hlater | hmark
        · exact absurd (hlater.symm.trans h.1) nofun
        · exact absurd h.2 hmark
      · obtain ⟨hdemand, hdwell⟩ := hrise hle hmeasure
        exact ⟨htaken.demand.trans hdemand, htaken.dwell.trans hdwell⟩
    · next h =>
      rw [Bool.and_eq_true, beq_iff_eq] at h
      have hexit : SameOutside [.station] (s.advance dt) (s.advance dt).exited :=
        (s.advance dt).exited_eq ▸ State.setMode_same _ _
      have htaken := (s.advance dt).exited.settle_taken (s.advance dt) o.late
      obtain ⟨ec, es, esh, ef⟩ := State.exit_settle (w := (s.advance dt).exited) o.late (hexit .clock (by decide)) rfl
        (fun _ => hexit .shoulder (by decide)) (hexit.mono (by decide))
      have hspeed : (s.advance dt).exited.speed = s.speed := hexit .speed (by decide)
      refine ⟨ec, es, esh, fun _ => ⟨htaken.demand.trans (congrArg _ hspeed), htaken.dwell.trans (congrArg _ hspeed), ?_⟩,
        fun ⟨hfirst, hmark, _⟩ => absurd ⟨hfirst, hmark⟩ h, hframe ef⟩
      exact (htaken.same .faults (by decide)).trans (hexit .faults (by decide))

end Sys2Proof.Machine
end

section
/-!
PROOFS. What silence does to the neighbour table: an entry becomes STALE, leaves the table, and the station is isolated (R65, R66,
R70, R71).
-/
namespace Sys2Proof.Machine

theorem exec_neighbourExpiry_eq (dt station : Nat) (s : State) :
    exec (.neighbourExpiry dt station) s = execNeighbourExpiry dt station s := rfl

theorem exec_neighbourRemoval_eq (dt station : Nat) (o : Order) (s : State) :
    exec (.neighbourRemoval dt station o) s = execNeighbourRemoval dt station o s := rfl

theorem exec_isolationTimerExpiry_eq (dt : Nat) (o : Order) (s : State) :
    exec (.isolationTimerExpiry dt o) s = execIsolationTimerExpiry dt o s := rfl

/-- A LIVE entry whose expiry has come becomes STALE (R65). -/
theorem execNeighbourExpiry_of_due (dt station : Nat) (s : State) (e : Neighbour) (ha : s.acting = true)
    (hn : s.neighbour station = some e) (hl : e.state = .live) (hd : s.entryExpiry e ≤ s.clock + dt) :
    execNeighbourExpiry dt station s = .next ((s.advance dt).makeStale station) := by
  have hentry : (s.advance dt).neighbour station = some e := hn
  have hacting : (s.advance dt).acting = true := ha
  have hdue : (s.advance dt).entryExpiry e ≤ s.clock + dt := hd
  simp [execNeighbourExpiry, hentry, hacting, hl, hdue]

/-- An entry whose removal has come leaves the table with NEIGHBOUR LOST (R66). -/
theorem execNeighbourRemoval_of_due (dt station : Nat) (o : Order) (s : State) (e : Neighbour) (ha : s.acting = true)
    (hn : s.neighbour station = some e) (hd : s.entryRemoval e ≤ s.clock + dt) :
    execNeighbourRemoval dt station o s =
      .next ((((s.advance dt).removeEntry station).raiseFault .neighbourLost station).settle (s.advance dt) o.late) := by
  have hentry : (s.advance dt).neighbour station = some e := hn
  have hacting : (s.advance dt).acting = true := ha
  have hdue : (s.advance dt).entryRemoval e ≤ s.clock + dt := hd
  simp [execNeighbourRemoval, hentry, hacting, hdue]

/-- The state in which the isolation condition is present, before the readers take a change of mode (R70, R71). -/
def State.silenced (s : State) : State := (s.setNeighbours { s.neighbours with isolationTimer := none }).becomeIsolated

theorem State.silenced_spec (s : State) :
    s.silenced.neighbours = { s.neighbours with isolationTimer := none, isolation := true } ∧
      s.silenced.station = { s.station with mode := if s.mode = .running then .isolated else s.mode } ∧
      SameOutside [.neighbours, .station] s s.silenced := by
  obtain ⟨hneighbours, hstation⟩ := (s.setNeighbours { s.neighbours with isolationTimer := none }).becomeIsolated_spec
  exact ⟨hneighbours, hstation, (s.setNeighbours_same _).trans (State.becomeIsolated_same _) (by decide) (by decide)⟩

theorem execIsolationTimerExpiry_of_due (dt e : Nat) (o : Order) (s : State) (ha : s.acting = true)
    (ht : s.neighbours.isolationTimer = some e) (hd : e ≤ s.clock + dt) :
    execIsolationTimerExpiry dt o s = .next ((s.advance dt).silenced.settle (s.advance dt) o.late) := by
  have hdue : ((s.advance dt).acting && (s.advance dt).due (s.advance dt).neighbours.isolationTimer) = true := by
    rw [show (s.advance dt).acting = true from ha, show (s.advance dt).neighbours.isolationTimer = some e from ht]
    exact decide_eq_true hd
  exact if_pos hdue

/-- A RUNNING station that the silence isolates closes its shoulder by force; any other leaves it (R71, R130). -/
theorem State.silenced_settle_shoulder (s : State) (late : List Reader) :
    (s.silenced.settle s late).shoulder = if s.mode = .running then s.forceClosing.shoulder else s.shoulder := by
  obtain ⟨-, hstation, hsame⟩ := s.silenced_spec
  have hshoulder : s.silenced.shoulder = s.shoulder := hsame .shoulder (by decide)
  have hmode : s.silenced.mode = if s.mode = .running then .isolated else s.mode := congrArg Station.mode hstation
  split
  · next hr =>
    rw [if_pos hr] at hmode
    have hcfg : s.silenced.cfg = s.cfg := by
      unfold State.cfg
      rw [hstation]
    rw [State.settle_forces _ s late hmode (hr ▸ nofun), State.forceClosing_shoulder, s.forceClosing_shoulder, hshoulder, hcfg,
      show s.silenced.clock = s.clock from hsame .clock (by decide)]
  · next hr =>
    rw [if_neg hr] at hmode
    have hkept : s.silenced.notEntered s := fun h => hmode ▸ h
    exact (State.settle_same_of_notEntered _ s late hkept .shoulder (by decide)).trans hshoulder

/-- Settles O44: each of the three commands past its moment, with the readers that settle it. -/
theorem silenceAgesTheNeighbours : Obligations.SilenceAgesTheNeighbours := by
  refine ⟨fun dt station s e ha hn hl hd => ?_, fun dt station o s e ha hn hd => ?_, fun dt e o s ha ht hd => ?_⟩
  · exact ⟨_, (exec_neighbourExpiry_eq ..).trans (execNeighbourExpiry_of_due dt station s e ha hn hl hd), rfl, rfl,
      (s.advance_same dt).trans ((s.advance dt).setNeighbours_same _) (by decide) (by decide), rfl⟩
  · generalize hw : ((s.advance dt).removeEntry station).raiseFault .neighbourLost station = w
    have hframe : SameOutside [.clock, .neighbours, .faults] s w := hw ▸
      ((s.advance_same dt).trans ((s.advance dt).setNeighbours_same _) (n := [.clock, .neighbours]) (by decide) (by decide)).trans
        (State.raiseFault_same _ _ _) (by decide) (by decide)
    have hentered : w.notEntered (s.advance dt) := State.notEntered_of_station (hframe .station (by decide))
    have hsettle := w.settle_same_of_notEntered (s.advance dt) o.late hentered
    refine ⟨_, hw ▸ (exec_neighbourRemoval_eq ..).trans (execNeighbourRemoval_of_due dt station o s e ha hn hd),
      (hsettle .clock (by decide)).trans (hw ▸ rfl), (hsettle .neighbours (by decide)).trans (hw ▸ rfl),
      (hsettle .faults (by decide)).trans (hw ▸ rfl), ?_, hframe.trans hsettle (by decide) (by decide)⟩
    obtain ⟨hslot, -⟩ := w.settle_slotGrows (s.advance dt) o.late
    rwa [show w.line = s.line from hframe .line (by decide)] at hslot
  · obtain ⟨hneighbours, hstation, hsame⟩ := (s.advance dt).silenced_spec
    have hsettle := (s.advance dt).silenced.settle_same (s.advance dt) o.late
    have hshoulder := (s.advance dt).silenced_settle_shoulder o.late
    rw [State.forceClosing_shoulder, show (s.advance dt).mode = s.mode from rfl, show (s.advance dt).shoulder = s.shoulder from rfl]
      at hshoulder
    refine ⟨_, (exec_isolationTimerExpiry_eq ..).trans (execIsolationTimerExpiry_of_due dt e o s ha ht hd),
      (hsettle .clock (by decide)).trans (hsame .clock (by decide)), (hsettle .neighbours (by decide)).trans hneighbours,
      (hsettle .station (by decide)).trans hstation, fun hr hopen => ?_, fun hkept => ?_, ?_, ?_⟩
    · rw [hshoulder, if_pos hr, if_pos hopen]
      rfl
    · rw [hshoulder]
      rcases hkept with hr | hc | hc
      · rw [if_neg hr]
      · simp [hc]
      · simp [hc]
    · obtain ⟨hslot, -⟩ := (s.advance dt).silenced.settle_slotGrows (s.advance dt) o.late
      rwa [show (s.advance dt).silenced.line = s.line from hsame .line (by decide)] at hslot
    · exact ((s.advance_same dt).trans hsame (n := [.clock, .neighbours, .station]) (by decide) (by decide)).trans hsettle
        (by decide) (by decide)

end Sys2Proof.Machine
end

section
/-!
PROOFS. The terms of the lower bound, its application to the plan step, and the expiry of the hold (R68, R82 to R88, R91, R92,
R103).
-/
namespace Sys2Proof.Machine

/-! ### The nearest neighbours (R68) -/

theorem Neighbour.view_eq_some (e : Neighbour) (r : StatusRecord) : e.view = some r ↔ e.void = false ∧ e.record = r := by
  unfold Neighbour.view
  cases e.void <;> simp

/-- A field as the readers of an entry see it (R64, R69). -/
theorem Neighbour.view_bind_eq_some {α : Type} (e : Neighbour) (f : StatusRecord → Option α) (a : α) :
    e.view.bind f = some a ↔ e.void = false ∧ f e.record = some a := by
  simp [Option.bind_eq_some_iff, e.view_eq_some]

/-- A fold that keeps the better of two entries finds one that is at least as good as each. -/
theorem foldl_keep {keep : Option Neighbour → Neighbour → Option Neighbour} {le : Neighbour → Neighbour → Prop}
    (hnone : ∀ e, keep none e = some e)
    (hsome : ∀ b e, (keep (some b) e = some e ∧ le e b) ∨ (keep (some b) e = some b ∧ le b e))
    (hrefl : ∀ e, le e e) (htrans : ∀ {x y z}, le x y → le y z → le x z) (l : List Neighbour) :
    (l.foldl keep none = none → l = []) ∧ ∀ c, l.foldl keep none = some c → c ∈ l ∧ ∀ x ∈ l, le c x := by
  have hfold (l : List Neighbour) (b : Neighbour) : ∃ c, l.foldl keep (some b) = some c ∧ c ∈ b :: l ∧ ∀ x ∈ b :: l, le c x := by
    induction l generalizing b with
    | nil => exact ⟨b, rfl, List.mem_cons_self, fun x hx => List.mem_singleton.mp hx ▸ hrefl b⟩
    | cons e l ih =>
      rcases hsome b e with ⟨hk, hle⟩ | ⟨hk, hle⟩
      · obtain ⟨c, hc, hmem, hbest⟩ := ih e
        refine ⟨c, (congrArg (l.foldl keep) hk).trans hc, List.mem_cons_of_mem b hmem, List.forall_mem_cons.mpr ⟨?_, hbest⟩⟩
        exact htrans (hbest e List.mem_cons_self) hle
      · obtain ⟨c, hc, hmem, hbest⟩ := ih b
        obtain ⟨hb, hl⟩ := List.forall_mem_cons.mp hbest
        refine ⟨c, (congrArg (l.foldl keep) hk).trans hc, ?_, List.forall_mem_cons.mpr ⟨hb, List.forall_mem_cons.mpr
          ⟨htrans hb hle, hl⟩⟩⟩
        exact (List.mem_cons.mp hmem).elim (· ▸ List.mem_cons_self) (fun h => List.mem_cons_of_mem b (List.mem_cons_of_mem e h))
  cases l with
  | nil => exact ⟨fun _ => rfl, fun c hc => nomatch hc⟩
  | cons e l =>
    obtain ⟨c, hc, hmem, hbest⟩ := hfold l e
    have hstart : (e :: l).foldl keep none = some c := (congrArg (l.foldl keep) (hnone e)).trans hc
    refine ⟨fun h => (nomatch hstart.symm.trans h), fun d hd => ?_⟩
    obtain rfl : c = d := Option.some.inj (hstart.symm.trans hd)
    exact ⟨hmem, hbest⟩

/-- The nearest downstream neighbour is the one with the least number above the own one. -/
theorem State.nearestDown_spec (s : State) :
    (∀ e, s.nearestDown = some e → e ∈ s.neighbours.entries ∧ s.own < e.station ∧
      ∀ x ∈ s.neighbours.entries, s.own < x.station → e.station ≤ x.station) ∧
    (s.nearestDown = none → ∀ x ∈ s.neighbours.entries, x.station ≤ s.own) := by
  obtain ⟨hnone, hsome⟩ := foldl_keep (keep := nearer) (le := fun e x => e.station ≤ x.station) (fun _ => rfl)
    (fun b e => by
      show ((if e.station < b.station then some e else some b) = some e ∧ _) ∨ ((if e.station < b.station then some e else some b) = _ ∧ _)
      split
      · exact .inl ⟨rfl, by omega⟩
      · exact .inr ⟨rfl, by omega⟩)
    (fun _ => Nat.le_refl _) Nat.le_trans (s.neighbours.entries.filter fun e => decide (s.own < e.station))
  refine ⟨fun e he => ?_, fun h x hx => ?_⟩
  · simpa [and_assoc] using hsome e he
  · simpa using List.filter_eq_nil_iff.mp (hnone h) x hx

/-- The nearest upstream neighbour is the one with the greatest number below the own one. -/
theorem State.nearestUp_spec (s : State) :
    (∀ e, s.nearestUp = some e → e ∈ s.neighbours.entries ∧ e.station < s.own ∧
      ∀ x ∈ s.neighbours.entries, x.station < s.own → x.station ≤ e.station) ∧
    (s.nearestUp = none → ∀ x ∈ s.neighbours.entries, s.own ≤ x.station) := by
  obtain ⟨hnone, hsome⟩ := foldl_keep (keep := nearerUp) (le := fun e x => x.station ≤ e.station) (fun _ => rfl)
    (fun b e => by
      show ((if b.station < e.station then some e else some b) = some e ∧ _) ∨ ((if b.station < e.station then some e else some b) = _ ∧ _)
      split
      · exact .inl ⟨rfl, by omega⟩
      · exact .inr ⟨rfl, by omega⟩)
    (fun _ => Nat.le_refl _) (fun h k => Nat.le_trans k h) (s.neighbours.entries.filter fun e => decide (e.station < s.own))
  refine ⟨fun e he => ?_, fun h x hx => ?_⟩
  · simpa [and_assoc] using hsome e he
  · simpa using List.filter_eq_nil_iff.mp (hnone h) x hx

/-- A field of the nearest downstream neighbour as its readers see it (R69). -/
theorem State.downView_bind_eq_some {α : Type} (s : State) (f : StatusRecord → Option α) (a : α) :
    s.downView.bind f = some a ↔ ∃ e, s.nearestDown = some e ∧ e.void = false ∧ f e.record = some a := by
  rw [State.downView, Option.bind_assoc, Option.bind_eq_some_iff]
  simp only [Neighbour.view_bind_eq_some]

theorem State.upView_bind_eq_some {α : Type} (s : State) (f : StatusRecord → Option α) (a : α) :
    s.upView.bind f = some a ↔ ∃ e, s.nearestUp = some e ∧ e.void = false ∧ f e.record = some a := by
  rw [State.upView, Option.bind_assoc, Option.bind_eq_some_iff]
  simp only [Neighbour.view_bind_eq_some]

/-! ### The lower bound, the queue term and the END condition -/

/-- The entry applies at the station (R107). -/
def State.entryApplies (s : State) (c : Closure) : Prop := c ∈ s.entries ∧ c.origin ≤ s.own + c.taper ∧ s.own ≤ c.origin + c.extent

theorem State.mem_applying (s : State) (c : Closure) : c ∈ s.applying ↔ s.entryApplies c := by
  simp [State.applying, Closure.applies, State.entryApplies]

/-- A number is a term of the lower bound present in the station's mode, as Table 5-3 lists them. -/
def State.hasTerm (s : State) (n : Nat) : Prop :=
  (s.mode ≠ .warming ∧ n = s.speed.demand) ∨
    (∃ e ∈ s.neighbours.entries, s.own < e.station ∧ e.void = false ∧ ∃ p, e.record.planStep = some p ∧ n = p - (e.station - s.own)) ∨
    (∃ c, s.entryApplies c ∧ n = c.step) ∨ (s.queue.term = true ∧ n = s.cfg.queueStep) ∨
    (∃ o, s.speed.override = some o ∧ n = o.step) ∨
    (∃ e, s.nearestDown = some e ∧ e.void = false ∧ e.record.displacedStep = some n) ∨ (s.mode = .isolated ∧ n = s.cfg.isolationStep)

/-- The funnel term of an entry that supplies one (R83). -/
theorem State.funnelTerm_eq {s : State} {e : Neighbour} {p : Nat} (hdown : s.own < e.station) (hvoid : e.void = false)
    (hstep : e.record.planStep = some p) : s.funnelTerm e = p - (e.station - s.own) := by
  have hview : e.view.bind (·.planStep) = some p := (e.view_bind_eq_some _ _).mpr ⟨hvoid, hstep⟩
  rw [State.funnelTerm, if_pos hdown, hview]

/-- An entry that supplies no plan step downstream adds nothing (R64, R83). -/
theorem State.funnelTerm_cases (s : State) (e : Neighbour) :
    s.funnelTerm e = 0 ∨ (s.own < e.station ∧ e.void = false ∧ ∃ p, e.record.planStep = some p ∧ s.funnelTerm e = p - (e.station - s.own)) := by
  by_cases hdown : s.own < e.station
  · cases hview : e.view.bind (·.planStep) with
    | none => exact .inl (by rw [State.funnelTerm, if_pos hdown, hview])
    | some p =>
      obtain ⟨hvoid, hstep⟩ := (e.view_bind_eq_some _ _).mp hview
      exact .inr ⟨hdown, hvoid, p, hstep, State.funnelTerm_eq hdown hvoid hstep⟩
  · exact .inl (if_neg hdown)

theorem State.mem_boundTerms (s : State) (n : Nat) :
    n ∈ s.boundTerms ↔
      (s.mode ≠ .warming ∧ n = s.speed.demand) ∨ (∃ e ∈ s.neighbours.entries, s.funnelTerm e = n) ∨
        (∃ c, s.entryApplies c ∧ c.step = n) ∨ (s.queue.term = true ∧ n = s.cfg.queueStep) ∨
        (∃ o, s.speed.override = some o ∧ o.step = n) ∨
        (∃ e, s.nearestDown = some e ∧ e.void = false ∧ e.record.displacedStep = some n) ∨
        (s.mode = .isolated ∧ n = s.cfg.isolationStep) := by
  simp only [State.boundTerms, List.mem_append, List.mem_map, Option.mem_toList, State.mem_applying,
    State.downView_bind_eq_some, List.mem_ite_nil_left, List.mem_ite_nil_right, List.mem_singleton, or_assoc, ne_eq]

/-- A term present is among those that the bound is taken of, and these are the terms present and zeros. -/
theorem State.hasTerm_mem_boundTerms {s : State} {n : Nat} (h : s.hasTerm n) : n ∈ s.boundTerms := by
  rw [State.mem_boundTerms]
  rcases h with h | ⟨e, he, hdown, hvoid, p, hstep, rfl⟩ | ⟨c, hc, rfl⟩ | h | ⟨o, ho, rfl⟩ | h | h
  · exact .inl h
  · exact .inr (.inl ⟨e, he, State.funnelTerm_eq hdown hvoid hstep⟩)
  · exact .inr (.inr (.inl ⟨c, hc, rfl⟩))
  · exact .inr (.inr (.inr (.inl h)))
  · exact .inr (.inr (.inr (.inr (.inl ⟨o, ho, rfl⟩))))
  · exact .inr (.inr (.inr (.inr (.inr (.inl h)))))
  · exact .inr (.inr (.inr (.inr (.inr (.inr h)))))

theorem State.hasTerm_of_mem_boundTerms {s : State} {n : Nat} (h : n ∈ s.boundTerms) : n = 0 ∨ s.hasTerm n := by
  rw [State.mem_boundTerms] at h
  rcases h with h | ⟨e, he, rfl⟩ | ⟨c, hc, rfl⟩ | h | ⟨o, ho, rfl⟩ | h | h
  · exact .inr (.inl h)
  · exact (s.funnelTerm_cases e).imp_right fun hterm => .inr (.inl ⟨e, he, hterm⟩)
  · exact .inr (.inr (.inr (.inl ⟨c, hc, rfl⟩)))
  · exact .inr (.inr (.inr (.inr (.inl h))))
  · exact .inr (.inr (.inr (.inr (.inr (.inl ⟨o, ho, rfl⟩)))))
  · exact .inr (.inr (.inr (.inr (.inr (.inr (.inl h))))))
  · exact .inr (.inr (.inr (.inr (.inr (.inr (.inr h))))))

/-- The lower bound is the largest term present, or 0 (R82). -/
theorem State.lowerBound_spec (s : State) :
    (∀ n, s.hasTerm n → n ≤ s.lowerBound) ∧ (s.lowerBound = 0 ∨ s.hasTerm s.lowerBound) := by
  have hmax : (0 :: s.boundTerms).max? = some s.lowerBound := rfl
  obtain ⟨hmem, hle⟩ := List.max?_eq_some_iff.mp hmax
  refine ⟨fun n hn => hle n (List.mem_cons_of_mem 0 (State.hasTerm_mem_boundTerms hn)), ?_⟩
  exact (List.mem_cons.mp hmem).elim .inl State.hasTerm_of_mem_boundTerms

theorem State.queueTerm_iff (s : State) :
    s.queueTerm = true ↔ s.queue.state = .present ∨
      ∃ e ∈ s.neighbours.entries, s.own < e.station ∧ e.station ≤ s.own + s.cfg.warningDistance ∧ e.void = false ∧
        e.record.queueFlag = some true := by
  simp [State.queueTerm, State.queueAhead, Neighbour.view_bind_eq_some, and_assoc]

theorem State.endHolds_iff (s : State) :
    s.endHolds = true ↔ s.speed.planStep = 0 ∧ (∀ c, ¬s.entryApplies c) ∧ s.queue.term = false ∧
      ∃ e p, s.nearestUp = some e ∧ e.void = false ∧ e.record.planStep = some p ∧ 1 ≤ p := by
  have hup : (∃ e p, s.nearestUp = some e ∧ e.void = false ∧ e.record.planStep = some p ∧ 1 ≤ p) ↔
      ∃ p, s.upView.bind (·.planStep) = some p ∧ 1 ≤ p := by
    simp only [State.upView_bind_eq_some]
    exact ⟨fun ⟨e, p, he, hvoid, hstep, hp⟩ => ⟨p, ⟨e, he, hvoid, hstep⟩, hp⟩,
      fun ⟨p, ⟨e, he, hvoid, hstep⟩, hp⟩ => ⟨e, p, he, hvoid, hstep, hp⟩⟩
  have hnone : (∀ c, ¬s.entryApplies c) ↔ s.applying = [] := by
    simp only [List.eq_nil_iff_forall_not_mem, State.mem_applying]
  rw [hup, hnone]
  unfold State.endHolds
  cases s.upView.bind (·.planStep) <;> simp [and_assoc]

/-! ### The plan step -/

theorem State.holdExpired_iff (s : State) :
    s.holdExpired = true ↔ s.speed.holdEnded = true ∨ s.speed.heldSince + s.cfg.minDisplay * second < s.clock := by
  simp [State.holdExpired]

/-- A changed bound moves the plan step by a rise, or by a fall past the hold (R86, R87). -/
theorem State.applyBound_moves {s : State} (hb : s.lowerBound ≠ s.speed.bound)
    (h : s.speed.planStep < s.lowerBound ∨ (s.lowerBound < s.speed.planStep ∧ s.holdExpired = true)) :
    s.applyBound = s.setSpeed { s.speed with bound := s.lowerBound, planStep := s.lowerBound, heldSince := s.clock, holdEnded := false } :=
  (if_neg hb).trans (if_pos h)

/-- A changed bound leaves the plan step that has reached it, or that the hold keeps above it (R86, R87). -/
theorem State.applyBound_waits {s : State} (hb : s.lowerBound ≠ s.speed.bound)
    (h : s.lowerBound = s.speed.planStep ∨ (s.lowerBound < s.speed.planStep ∧ s.holdExpired ≠ true)) :
    s.applyBound = s.setSpeed { s.speed with bound := s.lowerBound } := by
  refine (if_neg hb).trans (if_neg ?_)
  rintro (hrise | ⟨hfall, hover⟩)
  · omega
  · exact h.elim (fun e => by omega) (fun k => k.2 hover)

theorem exec_holdExpiry_eq (dt : Nat) (s : State) : exec (.holdExpiry dt) s = execHoldExpiry dt s := rfl

theorem execHoldExpiry_of_due (dt : Nat) (s : State) (ha : s.acting = true)
    (hd : s.speed.heldSince + s.cfg.minDisplay * second ≤ s.clock + dt) :
    execHoldExpiry dt s =
      if s.speed.bound < s.speed.planStep then .next (s.advance dt).fall.updateEnd.serveComposer
      else .next ((s.advance dt).setSpeed { s.speed with holdEnded := true }) := by
  have hacting : (s.advance dt).acting = true := ha
  have hdue : (s.advance dt).speed.heldSince + (s.advance dt).cfg.minDisplay * second ≤ s.clock + dt := hd
  refine if_pos ?_
  simp only [hacting, Bool.true_and]
  exact decide_eq_true hdue

/-- The END condition reads no plan, no channel, no line, and of speed control the plan step alone (R92). -/
theorem State.endHolds_of_composer_same {s t : State} (h : SameOutside [.composer, .signs, .line] s t) : t.endHolds = s.endHolds := by
  rw [State.eq_of_composer_same h]
  rfl

theorem State.endHolds_updateEnd (s : State) : s.updateEnd.endHolds = s.endHolds := rfl

/-- Settles O45: the terms by their list, the bound by the two ways it is applied, and the expiry by the step above its bound. -/
theorem holdExpiryLetsThePlanStepFall : Obligations.HoldExpiryLetsThePlanStepFall := by
  refine ⟨fun s => ?_, fun s hb => ⟨fun h => ?_, fun h => ?_⟩, fun dt s ha hd => ?_⟩
  · obtain ⟨hle, hterm⟩ := s.lowerBound_spec
    obtain ⟨hdown, hnoDown⟩ := s.nearestDown_spec
    obtain ⟨hup, hnoUp⟩ := s.nearestUp_spec
    exact ⟨hle, hterm, hdown, hnoDown, hup, hnoUp, s.queueTerm_iff, s.endHolds_iff⟩
  · rw [← s.holdExpired_iff] at h
    exact State.applyBound_moves hb h
  · rw [← s.holdExpired_iff] at h
    exact State.applyBound_waits hb h
  · have hexec := (exec_holdExpiry_eq dt s).trans (execHoldExpiry_of_due dt s ha hd)
    split at hexec
    · next hfall =>
      generalize hw : (s.advance dt).fall.updateEnd = w at hexec
      have hframe : SameOutside [.clock, .speed] s w := hw ▸
        (s.advance_same dt).trans ((State.setSpeed_same _ _).trans (State.updateEnd_same _) (n := [.speed]) (by decide) (by decide))
          (by decide) (by decide)
      have hserved := w.serveComposer_same
      refine ⟨_, hexec, (hserved .clock (by decide)).trans (hw ▸ rfl), fun _ => ⟨?_, ?_, hframe.trans hserved (by decide) (by decide)⟩,
        fun hle => absurd hfall (Nat.not_lt.mpr hle)⟩
      · rw [State.endHolds_of_composer_same hserved, show w.serveComposer.speed = w.speed from hserved .speed (by decide), ← hw,
          State.endHolds_updateEnd]
        rfl
      · obtain ⟨hslot, -⟩ := w.serve_slotGrows w .composer
        rwa [show w.line = s.line from hframe .line (by decide)] at hslot
    · next hreached =>
      exact ⟨_, hexec, rfl, fun h => absurd h hreached, fun _ => ⟨rfl, (s.advance_same dt).trans (State.setSpeed_same _ _)
        (by decide) (by decide), rfl⟩⟩

end Sys2Proof.Machine
end

section
/-!
PROOFS. A status body reads back as the record it was made of (Table 13-2, R61, R184).
-/
namespace Sys2Proof.Machine

/-! ### The fields of one octet -/

theorem octetField_ofNat {n : Nat} (h : n < 256) (hi lo : Nat) : octetField (BitVec.ofNat 8 n) hi lo = n / 2 ^ lo % 2 ^ (hi + 1 - lo) := by
  rw [octetField, BitVec.toNat_ofNat, Nat.mod_eq_of_lt h, Nat.shiftRight_eq_div_pow]

theorem octetDigit_ofNat {n i : Nat} {b : Bool} (hi : i < 8) (h : n / 2 ^ i % 2 = b.toNat) : octetDigit (BitVec.ofNat 8 n) i = b := by
  rw [octetDigit, BitVec.getLsbD_ofNat, Nat.testBit_eq_decide_div_mod_eq, h, decide_eq_true hi]
  cases b <;> rfl

theorem toNat_ofNat_octet {n : Nat} (h : n ≤ 255) : (BitVec.ofNat 8 n : Octet).toNat = n :=
  BitVec.toNat_ofNat n 8 ▸ Nat.mod_eq_of_lt (Nat.lt_succ_of_le h)

theorem map_toNat_ofNat_octet {l : List Nat} (h : ∀ n ∈ l, n ≤ 255) : (l.map (BitVec.ofNat 8)).map BitVec.toNat = l := by
  rw [List.map_map]
  exact (List.map_congr_left fun n hn => toNat_ofNat_octet (h n hn)).trans l.map_id

/-- The octet of the fault list: its overflow mark and its active entries. -/
theorem faultsOctet_fields (overflow : Bool) {active : Nat} (h : active < 32) :
    octetField (BitVec.ofNat 8 (overflow.toNat * 128 + active)) 4 0 = active ∧
      octetDigit (BitVec.ofNat 8 (overflow.toNat * 128 + active)) 7 = overflow := by
  have hbit := overflow.toNat_lt
  refine ⟨?_, octetDigit_ofNat (by decide) (by omega)⟩
  rw [octetField_ofNat (by omega)]
  omega

/-- The octet that says what the body carries after its fixed part. -/
theorem carriesOctet_fields (own displaced demand : Bool) {held : Nat} (h : held ≤ 8) :
    let o : Octet := BitVec.ofNat 8 (held * 16 + own.toNat * 4 + displaced.toNat * 2 + demand.toNat)
    octetField o 7 4 = held ∧ octetDigit o 0 = demand ∧ octetDigit o 1 = displaced ∧ octetDigit o 2 = own := by
  have hown := own.toNat_lt
  have hdisplaced := displaced.toNat_lt
  have hdemand := demand.toNat_lt
  refine ⟨?_, octetDigit_ofNat (by decide) (by omega), octetDigit_ofNat (by decide) (by omega), octetDigit_ofNat (by decide) (by omega)⟩
  rw [octetField_ofNat (by omega)]
  omega

theorem ShoulderCode.code_le (c : ShoulderCode) : c.code ≤ 4 := by cases c <;> decide

theorem shoulderOf_code (c : ShoulderCode) : shoulderOf c.code = some c := by cases c <;> rfl

/-- The octet of the queue flag and the shoulder state. -/
theorem queueOctet_fields (flag : Bool) (c : ShoulderCode) :
    octetDigit (BitVec.ofNat 8 (flag.toNat * 128 + c.code)) 7 = flag ∧
      shoulderOf (octetField (BitVec.ofNat 8 (flag.toNat * 128 + c.code)) 2 0) = some c := by
  have hflag := flag.toNat_lt
  have hcode := c.code_le
  refine ⟨octetDigit_ofNat (by decide) (by omega), ?_⟩
  rw [octetField_ofNat (by omega), show (flag.toNat * 128 + c.code) / 2 ^ 0 % 2 ^ (2 + 1 - 0) = c.code by omega, shoulderOf_code]

theorem AspectClass.code_le (a : AspectClass) : a.code ≤ 5 := by cases a <;> decide

theorem aspectClassOf_code (a : AspectClass) : aspectClassOf a.code = some a := by cases a <;> rfl

theorem laneViewOf_octet {v : LaneView} (h : v.aspect ≠ none) : laneViewOf v.octet = v := by
  obtain ⟨aspect, displaced, takenOver⟩ := v
  obtain ⟨a, rfl⟩ := Option.ne_none_iff_exists'.mp h
  have hcode := a.code_le
  have hdisplaced := displaced.toNat_lt
  have htaken := takenOver.toNat_lt
  have hclass : octetField (BitVec.ofNat 8 (takenOver.toNat * 128 + displaced.toNat * 64 + a.code)) 2 0 = a.code := by
    rw [octetField_ofNat (by omega)]
    omega
  simp only [laneViewOf, LaneView.octet, Option.map_some, Option.getD_some, hclass, aspectClassOf_code, LaneView.mk.injEq, true_and]
  exact ⟨octetDigit_ofNat (by decide) (by omega), octetDigit_ofNat (by decide) (by omega)⟩

theorem CommandKind.code_mem (k : CommandKind) : 1 ≤ k.code ∧ k.code ≤ 7 := by cases k <;> decide

theorem ResultCode.code_le (r : ResultCode) : r.code ≤ 5 := by cases r <;> decide

theorem resultOf_code (r : ResultCode) : resultOf r.code = some r := by cases r <;> rfl

theorem lastCommandOctet_fields (c : Option LastCommand) :
    let o := lastCommandOctet (c.map (·.kind)) (c.map (·.result))
    commandKindOf (octetField o 7 4) = c.map (·.kind) ∧
      (if octetField o 7 4 = 0 then none else resultOf (octetField o 3 0)) = c.map (·.result) := by
  cases c with
  | none => exact ⟨rfl, rfl⟩
  | some c =>
    obtain ⟨hlow, hhigh⟩ := c.kind.code_mem
    have hresult := c.result.code_le
    have hkindField : octetField (BitVec.ofNat 8 (c.kind.code * 16 + c.result.code)) 7 4 = c.kind.code := by
      rw [octetField_ofNat (by omega)]
      omega
    have hresultField : octetField (BitVec.ofNat 8 (c.kind.code * 16 + c.result.code)) 3 0 = c.result.code := by
      rw [octetField_ofNat (by omega)]
      omega
    have hkind : commandKindOf c.kind.code = some c.kind := by cases c.kind <;> rfl
    simp only [lastCommandOctet, Option.map_some, Option.getD_some, hkindField, hresultField, hkind, resultOf_code, true_and]
    exact if_neg (Nat.ne_of_gt hlow)

theorem packClosure_fields {taper extent step : Nat} (ht : taper ≤ 4) (he : extent ≤ 3) (hs : step ≤ 6) :
    octetField (packClosure taper extent step) 7 5 = taper ∧ octetField (packClosure taper extent step) 4 3 = extent ∧
      octetField (packClosure taper extent step) 2 0 = step := by
  unfold packClosure
  rw [octetField_ofNat (by omega), octetField_ofNat (by omega), octetField_ofNat (by omega)]
  omega

/-! ### The carried octets -/

/-- A closure that a station may publish as its own: its fields lie in the ranges of Table 7-1. -/
structure OwnClosure.InRange (c : OwnClosure) : Prop where
  serial : c.serial ≤ 255
  lanes : c.lanes ≠ 0
  taper_pos : 1 ≤ c.taper
  taper_le : c.taper ≤ 4
  extent : c.extent ≤ 3
  step : c.step ≤ 6

theorem closedLanes_setWidth (x : BitVec 5) : closedLanes (x.setWidth 8) = x := by
  unfold closedLanes
  exact BitVec.setWidth_setWidth_of_le x (by decide)

theorem takeCarried_map (k : Option Nat) (os : List Octet) (h : ∀ n, k = some n → n ≤ 255) :
    takeCarried k.isSome (k.toList.map (BitVec.ofNat 8) ++ os) = some (k, os) := by
  cases k with
  | none => rfl
  | some n =>
    show some (some (BitVec.ofNat 8 n : Octet).toNat, os) = _
    rw [toNat_ofNat_octet (h n rfl)]

theorem takeOwnClosure_octets (c : Option OwnClosure) (os : List Octet) (h : ∀ x, c = some x → x.InRange) :
    takeOwnClosure c.isSome (c.toList.flatMap OwnClosure.octets ++ os) = some (c, os) := by
  cases c with
  | none => rfl
  | some c =>
    have hc := h c rfl
    obtain ⟨htaper, hextent, hstep⟩ := packClosure_fields hc.taper_le hc.extent hc.step
    have hreadable : ¬(closedLanes (c.lanes.setWidth 8) = 0 ∨ 6 < octetField (packClosure c.taper c.extent c.step) 2 0) := by
      rw [closedLanes_setWidth, hstep, not_or]
      exact ⟨hc.lanes, Nat.not_lt.mpr hc.step⟩
    refine (if_neg hreadable).trans ?_
    have hclampTaper : clampTaper c.taper = c.taper := (if_neg (Nat.ne_of_gt hc.taper_pos)).trans (Nat.min_eq_left hc.taper_le)
    have hclampExtent : clampExtent c.extent = c.extent := Nat.min_eq_left hc.extent
    rw [closedLanes_setWidth, htaper, hextent, hstep, hclampTaper, hclampExtent, toNat_ofNat_octet hc.serial]
    rfl

/-- The optional octets are read in the order in which they are carried. -/
theorem readCarried_of_digits {carries : Octet} {demand displaced : Option Nat} {own : Option OwnClosure} (held : List Octet)
    (h0 : octetDigit carries 0 = demand.isSome) (h1 : octetDigit carries 1 = displaced.isSome) (h2 : octetDigit carries 2 = own.isSome)
    (hdemand : ∀ n, demand = some n → n ≤ 255) (hdisplaced : ∀ n, displaced = some n → n ≤ 255)
    (hown : ∀ c, own = some c → c.InRange) :
    readCarried carries (demand.toList.map (BitVec.ofNat 8) ++ (displaced.toList.map (BitVec.ofNat 8) ++
      (own.toList.flatMap OwnClosure.octets ++ held))) = some (demand, displaced, own, held) := by
  simp only [readCarried, h0, h1, h2, takeCarried_map _ _ hdemand, takeCarried_map _ _ hdisplaced, takeOwnClosure_octets _ _ hown]

/-! ### The whole body -/

/-- What a body of an acting station must be made of to be readable (R61, R184). -/
theorem readStatus_of_parts {m n f a carries plan q rejected last : Octet} {mode : Mode} {lanes tail held : List Octet}
    {demand displaced : Option Nat} {own : Option OwnClosure}
    (hmode : actingModeOf m.toNat = some mode) (hn : 2 ≤ n.toNat ∧ n.toNat ≤ 5) (hplan : plan.toNat ≤ 6)
    (hcount : octetField carries 7 4 ≤ 8) (hlanes : lanes.length = n.toNat)
    (hcarried : readCarried carries tail = some (demand, displaced, own, held)) (hheld : held.length = octetField carries 7 4)
    (hdemand : stepReadable demand = true) (hdisplaced : stepReadable displaced = true)
    (hrange : ∀ o ∈ held, 1 ≤ o.toNat ∧ o.toNat ≤ 62) :
    readStatus (m :: n :: f :: a :: carries :: plan :: q :: (lanes ++ rejected :: last :: tail)) =
      some { mode := mode, laneCount := n.toNat, faults := f.toNat, activeFaults := octetField a 4 0, overflow := octetDigit a 7
             planStep := some plan.toNat, demandStep := if mode = .warming then none else demand
             queueFlag := some (octetDigit q 7), shoulder := shoulderOf (octetField q 2 0), lanes := lanes.map laneViewOf
             rejected := some rejected.toNat, lastKind := commandKindOf (octetField last 7 4)
             lastResult := if octetField last 7 4 = 0 then none else resultOf (octetField last 3 0)
             displacedStep := displaced, ownClosure := own, held := held.map BitVec.toNat } := by
  have hbounds : ¬(n.toNat < 2 ∨ 5 < n.toNat ∨ 6 < plan.toNat ∨ 8 < octetField carries 7 4) := by omega
  have hall : held.all (fun o => decide (1 ≤ o.toNat ∧ o.toNat ≤ 62)) = true := by
    simpa only [List.all_eq_true, decide_eq_true_eq] using hrange
  have hdrop : (lanes ++ rejected :: last :: tail).drop n.toNat = rejected :: last :: tail := hlanes ▸ List.drop_left
  have htake : (lanes ++ rejected :: last :: tail).take n.toNat = lanes := hlanes ▸ List.take_left
  simp only [readStatus, hmode, if_neg hbounds, hdrop, htake, hcarried]
  exact if_pos ⟨hheld, hdemand, hdisplaced, hall⟩

/-- A record that an acting station can publish: what Table 13-2 has a code and a range for, and nothing else. -/
structure StatusRecord.Sendable (r : StatusRecord) : Prop where
  mode : r.mode = .warming ∨ r.mode = .running ∨ r.mode = .isolated
  laneCount : 2 ≤ r.laneCount ∧ r.laneCount ≤ 5
  faults : r.faults ≤ 255
  activeFaults : r.activeFaults < 32
  planStep : ∃ p, r.planStep = some p ∧ p ≤ 6
  demandStep : ∀ n, r.demandStep = some n → n ≤ 6
  warming : r.mode = .warming → r.demandStep = none
  queueFlag : ∃ b, r.queueFlag = some b
  shoulder : ∃ c, r.shoulder = some c
  lanes : r.lanes.length = r.laneCount ∧ ∀ v ∈ r.lanes, v.aspect ≠ none
  rejected : ∃ n, r.rejected = some n ∧ n ≤ 255
  last : ∃ c : Option LastCommand, r.lastKind = c.map (·.kind) ∧ r.lastResult = c.map (·.result)
  displacedStep : ∀ n, r.displacedStep = some n → n ≤ 6
  ownClosure : ∀ c, r.ownClosure = some c → c.InRange
  held : r.held.length ≤ 8 ∧ ∀ n ∈ r.held, 1 ≤ n ∧ n ≤ 62

theorem actingModeOf_code {m : Mode} (h : m = .warming ∨ m = .running ∨ m = .isolated) :
    m ≠ .configFault ∧ actingModeOf (BitVec.ofNat 8 m.code : Octet).toNat = some m := by
  rcases h with rfl | rfl | rfl
  · exact ⟨nofun, rfl⟩
  · exact ⟨nofun, rfl⟩
  · exact ⟨nofun, rfl⟩

theorem stepReadable_iff (k : Option Nat) : stepReadable k = true ↔ ∀ n, k = some n → n ≤ 6 := by
  cases k <;> simp [stepReadable]

/-- The carried octets of a record, in the order in which a receiver takes them. -/
def StatusRecord.carried (r : StatusRecord) : List Octet :=
  r.demandStep.toList.map (BitVec.ofNat 8) ++ (r.displacedStep.toList.map (BitVec.ofNat 8) ++
    (r.ownClosure.toList.flatMap OwnClosure.octets ++ r.held.map (BitVec.ofNat 8)))

theorem StatusRecord.body_of_acting (r : StatusRecord) (h : r.mode ≠ .configFault) :
    r.body = BitVec.ofNat 8 r.mode.code :: BitVec.ofNat 8 r.laneCount :: BitVec.ofNat 8 r.faults ::
      BitVec.ofNat 8 (r.overflow.toNat * 128 + r.activeFaults) ::
      BitVec.ofNat 8 (r.held.length * 16 + r.ownClosure.isSome.toNat * 4 + r.displacedStep.isSome.toNat * 2 + r.demandStep.isSome.toNat) ::
      BitVec.ofNat 8 (r.planStep.getD 0) ::
      BitVec.ofNat 8 ((r.queueFlag.getD false).toNat * 128 + (r.shoulder.map ShoulderCode.code).getD 0) ::
      (r.lanes.map LaneView.octet ++
        BitVec.ofNat 8 (r.rejected.getD 0) :: lastCommandOctet r.lastKind r.lastResult :: r.carried) := by
  refine (if_neg h).trans ?_
  simp only [StatusRecord.carried, List.append_assoc, List.cons_append, List.nil_append]

/-- A receiver reads from the body of a sendable record that record. -/
theorem StatusRecord.readStatus_body {r : StatusRecord} (h : r.Sendable) : readStatus r.body = some r := by
  obtain ⟨hnotFault, hmode⟩ := actingModeOf_code h.mode
  obtain ⟨hlow, hhigh⟩ := h.laneCount
  obtain ⟨plan, hplan, hplanLe⟩ := h.planStep
  obtain ⟨flag, hflag⟩ := h.queueFlag
  obtain ⟨shoulder, hshoulder⟩ := h.shoulder
  obtain ⟨hlanes, haspects⟩ := h.lanes
  obtain ⟨rejected, hrejected, hrejectedLe⟩ := h.rejected
  obtain ⟨last, hkind, hresult⟩ := h.last
  obtain ⟨hheld, hrange⟩ := h.held
  have hlaneCount : (BitVec.ofNat 8 r.laneCount : Octet).toNat = r.laneCount := toNat_ofNat_octet (by omega)
  have hplanStep : (BitVec.ofNat 8 plan : Octet).toNat = plan := toNat_ofNat_octet (by omega)
  obtain ⟨hactive, hoverflow⟩ := faultsOctet_fields r.overflow h.activeFaults
  obtain ⟨hcount, h0, h1, h2⟩ := carriesOctet_fields r.ownClosure.isSome r.displacedStep.isSome r.demandStep.isSome hheld
  obtain ⟨hqueue, hcode⟩ := queueOctet_fields flag shoulder
  obtain ⟨hkindRead, hresultRead⟩ := lastCommandOctet_fields last
  have hcarried : readCarried _ r.carried = _ := readCarried_of_digits (r.held.map (BitVec.ofNat 8)) h0 h1 h2
    (fun n hn => (h.demandStep n hn).trans (by decide)) (fun n hn => (h.displacedStep n hn).trans (by decide)) h.ownClosure
  have hviews : (r.lanes.map LaneView.octet).map laneViewOf = r.lanes := by
    rw [List.map_map]
    exact (List.map_congr_left fun v hv => laneViewOf_octet (haspects v hv)).trans r.lanes.map_id
  have horigins : ∀ o ∈ r.held.map (BitVec.ofNat 8), 1 ≤ o.toNat ∧ o.toNat ≤ 62 := by
    refine List.forall_mem_map.mpr fun n hn => ?_
    rw [toNat_ofNat_octet ((hrange n hn).2.trans (by decide))]
    exact hrange n hn
  have hdemand : (if r.mode = .warming then none else r.demandStep) = r.demandStep := by
    split
    · next hw => exact (h.warming hw).symm
    · rfl
  have hplanRange : (BitVec.ofNat 8 (r.planStep.getD 0) : Octet).toNat ≤ 6 := by rwa [hplan, Option.getD_some, hplanStep]
  rw [r.body_of_acting hnotFault, readStatus_of_parts hmode (by omega) hplanRange (by omega) (by simp [hlanes, hlaneCount])
    hcarried (by simp [hcount]) ((stepReadable_iff _).mpr h.demandStep) ((stepReadable_iff _).mpr h.displacedStep) horigins]
  simp only [hplan, hflag, hshoulder, hrejected, hkind, hresult, Option.getD_some, Option.map_some, hlaneCount, hplanStep, hactive,
    hoverflow, hqueue, hcode, hkindRead, hresultRead, hviews, hdemand, toNat_ofNat_octet h.faults, toNat_ofNat_octet hrejectedLe,
    map_toNat_ofNat_octet fun n hn => (hrange n hn).2.trans (by decide : 62 ≤ 255)]
  rw [← hplan, ← hflag, ← hshoulder, ← hrejected, ← hkind, ← hresult]

/-! ### The record that a station assembles -/

/-- The record of a station in CONFIG_FAULT: its fault list alone (R60). -/
def StatusRecord.ofFaults (faults active : Nat) (overflow : Bool) : StatusRecord :=
  { mode := .configFault, laneCount := 0, faults := faults, activeFaults := active, overflow := overflow
    planStep := none, demandStep := none, queueFlag := none, shoulder := none, lanes := [], rejected := none
    lastKind := none, lastResult := none, displacedStep := none, ownClosure := none, held := [] }

theorem StatusRecord.readStatus_ofFaults {faults active : Nat} (overflow : Bool) (hf : faults ≤ 255) (ha : active < 32) :
    readStatus (StatusRecord.ofFaults faults active overflow).body = some (.ofFaults faults active overflow) := by
  obtain ⟨hactive, hoverflow⟩ := faultsOctet_fields overflow ha
  simp only [StatusRecord.body, StatusRecord.ofFaults, if_true, readStatus, hactive, hoverflow, toNat_ofNat_octet hf]
  rfl

theorem State.statusRecord_of_configFault (s : State) (h : s.mode = .configFault) :
    s.statusRecord = .ofFaults s.faults.entries.length (s.faults.entries.countP (·.active)) s.faults.overflow := if_pos h

theorem State.acting_iff_mode (s : State) : s.acting = true ↔ s.mode = .warming ∨ s.mode = .running ∨ s.mode = .isolated := by
  unfold State.acting
  cases s.mode <;> simp [Mode.acting]

/-- The lanes of an acting station are 2 to 5 (R167). -/
theorem Station.sound.lanes {s : State} (h : s.station.sound) (ha : s.acting = true) : 2 ≤ s.cfg.laneCount ∧ s.cfg.laneCount ≤ 5 := by
  obtain ⟨-, husable, hrestored, hacting, -⟩ := h
  obtain ⟨-, g, hg, hlow, hhigh, -⟩ := husable (hrestored (hacting ha))
  rw [State.cfg, hg]
  exact ⟨hlow, hhigh⟩

theorem State.entries_length (s : State) : s.entries.length ≤ 8 := List.length_filterMap_le id s.closures.toList

theorem State.mem_heldOrigins {s : State} {n : Nat} (h : n ∈ s.heldOrigins) : ∃ c ∈ s.entries, c.origin = n := by
  obtain ⟨-, hheld⟩ := List.mem_filter.mp h
  simpa using hheld

/-- A sound closure table holds at most eight origins, each a station number (R108, R118). -/
theorem State.heldOrigins_sound {s : State} (h : s.closuresSound) :
    s.heldOrigins.length ≤ 8 ∧ ∀ n ∈ s.heldOrigins, 1 ≤ n ∧ n ≤ 62 := by
  obtain ⟨hentries, -⟩ := h
  have hsub : s.heldOrigins ⊆ s.entries.map (·.origin) := fun n hn => List.mem_map.mpr (State.mem_heldOrigins hn)
  have hnodup : s.heldOrigins.Nodup := List.nodup_range.filter _
  refine ⟨?_, fun n hn => ?_⟩
  · calc s.heldOrigins.length ≤ (s.entries.map (·.origin)).length := (hnodup.subperm hsub).length_le
      _ = s.entries.length := List.length_map _
      _ ≤ 8 := s.entries_length
  · obtain ⟨c, hc, rfl⟩ := State.mem_heldOrigins hn
    obtain ⟨-, hlow, hhigh, -⟩ := hentries c hc
    exact ⟨hlow, hhigh⟩

theorem State.ownClosure_inRange {s : State} (h : s.closuresSound) : ∀ c, s.ownClosure = some c → c.InRange := by
  obtain ⟨hentries, -⟩ := h
  intro c hc
  obtain ⟨e, he, rfl⟩ := Option.map_eq_some_iff.mp hc
  obtain ⟨-, -, -, hserial, hlanes, hlow, hhigh, hextent, hstep⟩ := hentries e (List.mem_of_find?_eq_some he)
  exact ⟨hserial, hlanes, hlow, hhigh, hextent, hstep⟩

theorem State.displacedStep_le {s : State} (h : s.speed.planStep ≤ 6) : ∀ n, s.displacedStep = some n → n ≤ 6 := by
  unfold State.displacedStep
  split
  · exact fun n hn => Option.some.inj hn ▸ h
  · nofun

/-- An acting station in a sound state assembles a sendable record. -/
theorem State.statusRecord_sendable {s : State} (ha : s.acting = true) (hs : s.station.sound) (hc : s.closuresSound)
    (hd : s.speed.demand ≤ 6) (hp : s.speed.planStep ≤ 6) (hf : s.faults.entries.length ≤ 16) (hr : s.line.rejected ≤ 255) :
    s.statusRecord.Sendable := by
  have hmode := s.acting_iff_mode.mp ha
  have hlanes := hs.lanes ha
  rw [State.statusRecord, if_neg (actingModeOf_code hmode).1]
  exact {
    mode := hmode
    laneCount := hlanes
    faults := hf.trans (by decide)
    activeFaults := Nat.lt_of_le_of_lt (List.countP_le_length.trans hf) (by decide)
    planStep := ⟨_, rfl, hp⟩
    demandStep := fun n hn => by
      split at hn
      · exact nomatch hn
      · exact Option.some.inj hn ▸ hd
    warming := fun hw => if_pos hw
    queueFlag := ⟨_, rfl⟩
    shoulder := ⟨_, rfl⟩
    lanes := ⟨(List.length_map _).trans (s.laneList_length hlanes.2), List.forall_mem_map.mpr fun _ _ => nofun⟩
    rejected := ⟨_, rfl, hr⟩
    last := ⟨_, rfl, rfl⟩
    displacedStep := State.displacedStep_le hp
    ownClosure := State.ownClosure_inRange hc
    held := State.heldOrigins_sound hc }

/-- Settles O16: the record of CONFIG_FAULT is four octets, and that of an acting station is sendable. -/
theorem statusBodyReadsBackAsSent : Obligations.StatusBodyReadsBackAsSent := by
  intro s hm hstation hclosures hsteps hspeed hfaults hline
  obtain ⟨hdemand, -⟩ := hsteps
  obtain ⟨-, hplan, -⟩ := hspeed
  obtain ⟨hlength, -⟩ := hfaults
  obtain ⟨-, hrejected, -⟩ := hline
  by_cases hfault : s.mode = .configFault
  · rw [s.statusRecord_of_configFault hfault]
    exact StatusRecord.readStatus_ofFaults _ (hlength.trans (by decide))
      (Nat.lt_of_le_of_lt (List.countP_le_length.trans hlength) (by decide))
  · have hacting : s.acting = true := by
      rw [s.acting_iff_mode]
      cases h : s.mode with
      | starting => exact absurd h hm
      | configFault => exact absurd h hfault
      | warming => exact .inl rfl
      | running => exact .inr (.inl rfl)
      | isolated => exact .inr (.inr rfl)
    exact StatusRecord.readStatus_body (State.statusRecord_sendable hacting hstation hclosures hdemand hplan hlength hrejected)

end Sys2Proof.Machine
end

section
/-!
PROOFS. What speed control reads of the other blocks, and what it makes of it when it takes its reports (R82 to R87, R92, R103): the
layer of the sound plan step.
-/
namespace Sys2Proof.Machine
-- One proof at a time: the threads of parallel proofs exceed the memory limit of the check.
set_option Elab.async false

/-! ### What the readers are told of each block -/

/-- Two states agree in what speed control and the queue monitor read of a block (R85, R92, R103): of the neighbour table the
content of its entries, of their own records what other commands write there. -/
def Block.told (b : Block) (s t : State) : Prop :=
  match b with
  | .station => t.mode = s.mode
  | .neighbours => t.neighbours.entries.map Neighbour.content = s.neighbours.entries.map Neighbour.content
  | .closures => t.closures = s.closures
  | .queue => t.queue.state = s.queue.state
  | .speed => t.speed.demand = s.speed.demand ∧ t.speed.override = s.speed.override
  | _ => True

theorem Block.told_refl (b : Block) (s : State) : b.told s s := by
  cases b <;> simp [Block.told]

theorem Block.told_trans {b : Block} {s t u : State} (h : b.told s t) (k : b.told t u) : b.told s u := by
  cases b
  case station | neighbours | closures | queue => exact Eq.trans k h
  case speed => exact ⟨k.1.trans h.1, k.2.trans h.2⟩
  all_goals trivial

theorem Block.told_symm {b : Block} {s t : State} (h : b.told s t) : b.told t s := by
  cases b
  case station | neighbours | closures | queue => exact Eq.symm h
  case speed => exact ⟨h.1.symm, h.2.symm⟩
  all_goals trivial

theorem Block.told_of_same {b : Block} {s t : State} (h : b.same s t) : b.told s t := by
  cases b
  case station => exact congrArg Station.mode h
  case neighbours => exact congrArg (fun x : Neighbours => x.entries.map Neighbour.content) h
  case closures => exact h
  case queue => exact congrArg QueueMonitor.state h
  case speed => exact ⟨congrArg Speed.demand h, congrArg Speed.override h⟩
  all_goals trivial

/-- Where nothing is reported, every block tells the same (R63, R85). -/
theorem State.told_of_not_reported {s before : State} (h : s.reported before = false) (b : Block) : b.told before s := by
  simp only [State.reported, decide_eq_false_iff_not, not_or, not_not] at h
  obtain ⟨hmode, hentries, hclosures, hqueue, hdemand, hoverride, -⟩ := h
  cases b
  case station => exact hmode
  case neighbours => exact hentries
  case closures => exact hclosures
  case queue => exact hqueue
  case speed => exact ⟨hdemand, hoverride⟩
  all_goals trivial

/-! ### Entries as their readers see them -/

/-- An entry without its arrival and its age, which no reader sees (R63, R65). -/
def Neighbour.seen (e : Neighbour) : Neighbour := { e with arrival := 0, state := .live }

theorem map_seen_of_map_content {l m : List Neighbour} (h : m.map Neighbour.content = l.map Neighbour.content) :
    m.map Neighbour.seen = l.map Neighbour.seen := by
  have hseen : Neighbour.seen =
      (fun c : Nat × StatusRecord × Bool => ⟨c.1, c.2.1, 0, .live, c.2.2⟩) ∘ Neighbour.content := rfl
  rw [hseen, ← List.map_map, h, List.map_map]

/-- A choice among entries that looks at their numbers alone finds the same entry as its readers see it. -/
theorem foldl_map_seen {keep : Option Neighbour → Neighbour → Option Neighbour}
    (h : ∀ b e, keep (b.map Neighbour.seen) e.seen = (keep b e).map Neighbour.seen) (l : List Neighbour) :
    (l.map Neighbour.seen).foldl keep none = (l.foldl keep none).map Neighbour.seen := by
  rw [List.foldl_map]
  exact List.foldl_hom (Option.map Neighbour.seen) (init := none) h

theorem nearer_seen (b : Option Neighbour) (e : Neighbour) : nearer (b.map Neighbour.seen) e.seen = (nearer b e).map Neighbour.seen := by
  cases b with
  | none => rfl
  | some b =>
    show (if e.station < b.station then some e.seen else some b.seen) = (if e.station < b.station then some e else some b).map _
    split <;> rfl

theorem nearerUp_seen (b : Option Neighbour) (e : Neighbour) :
    nearerUp (b.map Neighbour.seen) e.seen = (nearerUp b e).map Neighbour.seen := by
  cases b with
  | none => rfl
  | some b =>
    show (if b.station < e.station then some e.seen else some b.seen) = (if b.station < e.station then some e else some b).map _
    split <;> rfl

theorem view_of_map_seen {a b : Option Neighbour} (h : b.map Neighbour.seen = a.map Neighbour.seen) :
    b.bind Neighbour.view = a.bind Neighbour.view := by
  have hseen (o : Option Neighbour) : o.bind Neighbour.view = (o.map Neighbour.seen).bind Neighbour.view := by cases o <;> rfl
  rw [hseen b, hseen a, h]

section
variable {s t : State} (ho : t.own = s.own) (hn : Block.neighbours.told s t)
include ho hn

theorem State.downView_congr : t.downView = s.downView := by
  have hnear (u : State) : u.nearestDown.map Neighbour.seen =
      ((u.neighbours.entries.map Neighbour.seen).filter fun e => decide (u.own < e.station)).foldl nearer none := by
    rw [List.filter_map]
    exact (foldl_map_seen nearer_seen _).symm
  exact view_of_map_seen (by rw [hnear, hnear, map_seen_of_map_content hn, ho])

theorem State.upView_congr : t.upView = s.upView := by
  have hnear (u : State) : u.nearestUp.map Neighbour.seen =
      ((u.neighbours.entries.map Neighbour.seen).filter fun e => decide (e.station < u.own)).foldl nearerUp none := by
    rw [List.filter_map]
    exact (foldl_map_seen nearerUp_seen _).symm
  exact view_of_map_seen (by rw [hnear, hnear, map_seen_of_map_content hn, ho])

theorem State.map_funnelTerm_congr : t.neighbours.entries.map t.funnelTerm = s.neighbours.entries.map s.funnelTerm := by
  have hseen (u : State) : u.neighbours.entries.map u.funnelTerm = (u.neighbours.entries.map Neighbour.seen).map u.funnelTerm := by
    rw [List.map_map]
    rfl
  have hterm : t.funnelTerm = s.funnelTerm := by
    funext e
    rw [State.funnelTerm, State.funnelTerm, ho]
  rw [hseen, hseen, map_seen_of_map_content hn, hterm]

theorem State.queueAhead_congr (hc : t.cfg = s.cfg) : t.queueAhead = s.queueAhead := by
  have hseen (u : State) : u.queueAhead = (u.neighbours.entries.map Neighbour.seen).any (fun e =>
      decide (u.own < e.station ∧ e.station ≤ u.own + u.cfg.warningDistance) && (e.view.bind (·.queueFlag)) == some true) := by
    rw [List.any_map]
    rfl
  rw [hseen, hseen, map_seen_of_map_content hn, ho, hc]

end

/-! ### Speed control in tune with its terms -/

/-- The queue term, the bound and the END condition are as their inputs give them (R82, R92, R103). -/
structure State.Attuned (s : State) : Prop where
  term : s.queue.term = s.queueTerm
  bound : s.speed.bound = s.lowerBound
  condition : s.speed.endCondition = s.endHolds

/-- Two states with one own number and one configuration, and with what the queue monitor and speed control have derived from
their inputs the same. -/
structure State.SameDerived (s t : State) : Prop where
  own : t.own = s.own
  cfg : t.cfg = s.cfg
  term : t.queue.term = s.queue.term
  bound : t.speed.bound = s.speed.bound
  planStep : t.speed.planStep = s.speed.planStep
  condition : t.speed.endCondition = s.speed.endCondition

theorem State.SameDerived.refl (s : State) : s.SameDerived s := ⟨rfl, rfl, rfl, rfl, rfl, rfl⟩

theorem State.SameDerived.trans {s t u : State} (h : s.SameDerived t) (k : t.SameDerived u) : s.SameDerived u :=
  ⟨k.own.trans h.own, k.cfg.trans h.cfg, k.term.trans h.term, k.bound.trans h.bound, k.planStep.trans h.planStep,
    k.condition.trans h.condition⟩

theorem State.entries_congr {s t : State} (h : Block.closures.told s t) : t.entries = s.entries :=
  congrArg (fun c : Slots (Option Closure) => c.toList.filterMap id) h

theorem State.applying_congr {s t : State} (ho : t.own = s.own) (h : Block.closures.told s t) : t.applying = s.applying := by
  rw [State.applying, State.applying, ho, State.entries_congr h]

theorem State.acting_of_told {s t : State} (h : Block.station.told s t) : t.acting = s.acting := congrArg Mode.acting h

/-- The terms of the lower bound are made of what the blocks tell and of what is derived (Table 5-3). -/
theorem State.lowerBound_congr {s t : State} (h : s.SameDerived t) (ht : ∀ b : Block, b.told s t) : t.lowerBound = s.lowerBound := by
  obtain ⟨hdemand, hoverride⟩ := ht .speed
  have hmode : t.mode = s.mode := ht .station
  rw [State.lowerBound, State.lowerBound, State.boundTerms, State.boundTerms, hmode, hdemand, hoverride, h.term, h.cfg,
    State.map_funnelTerm_congr h.own (ht .neighbours), State.applying_congr h.own (ht .closures),
    State.downView_congr h.own (ht .neighbours)]

theorem State.SameDerived.attuned {s t : State} (h : s.SameDerived t) (ht : ∀ b : Block, b.told s t) (ha : s.Attuned) : t.Attuned where
  term := by
    have hstate : t.queue.state = s.queue.state := ht .queue
    rw [h.term, ha.term, State.queueTerm, State.queueTerm, hstate, State.queueAhead_congr h.own (ht .neighbours) h.cfg]
  bound := by rw [h.bound, ha.bound, State.lowerBound_congr h ht]
  condition := by
    rw [h.condition, ha.condition, State.endHolds, State.endHolds, h.planStep, h.term, State.applying_congr h.own (ht .closures),
      State.upView_congr h.own (ht .neighbours)]

/-! ### Steps in range -/

/-- The steps that a record supplies to its readers lie in 0 to 6 (R61, R82). -/
structure StatusRecord.StepsInRange (r : StatusRecord) : Prop where
  planStep : ∀ k, r.planStep = some k → k ≤ 6
  displacedStep : ∀ k, r.displacedStep = some k → k ≤ 6
  ownClosure : ∀ c, r.ownClosure = some c → c.step ≤ 6

/-- The steps of the configuration and of the closures lie in 0 to 6 (R82, R108, R167). -/
structure State.Capped (s : State) : Prop where
  queueStep : s.cfg.queueStep ≤ 6
  isolationStep : s.cfg.isolationStep ≤ 6
  closures : ∀ c ∈ s.entries, c.step ≤ 6

/-- Every step that can become a term lies in 0 to 6, those of configuration and closures while the station acts; and the plan
step lies there, not below the bound (R82, R86). -/
structure State.InRange (s : State) : Prop where
  steps : s.stepsSound
  capped : s.acting = true → s.Capped
  bound : s.speed.bound ≤ s.speed.planStep
  planStep : s.speed.planStep ≤ 6

theorem State.stepsSound_congr {s t : State} (hs : Block.speed.told s t) (hn : Block.neighbours.told s t) (h : s.stepsSound) :
    t.stepsSound := by
  obtain ⟨hdemand, hoverride, hentries⟩ := h
  have hseen := map_seen_of_map_content hn
  refine ⟨hs.1 ▸ hdemand, hs.2 ▸ hoverride, fun e he => ?_⟩
  obtain ⟨x, hx, hxe⟩ := List.mem_map.mp (hseen ▸ List.mem_map_of_mem he : e.seen ∈ s.neighbours.entries.map Neighbour.seen)
  have hrecord : x.record = e.record := (congrArg Neighbour.record hxe : x.seen.record = e.seen.record)
  rw [← hrecord]
  exact hentries x hx

theorem State.Capped.congr {s t : State} (hc : t.cfg = s.cfg) (ht : Block.closures.told s t) (h : s.Capped) : t.Capped :=
  ⟨hc ▸ h.queueStep, hc ▸ h.isolationStep, State.entries_congr ht ▸ h.closures⟩

theorem State.SameDerived.inRange {s t : State} (h : s.SameDerived t) (ht : ∀ b : Block, b.told s t) (hr : s.InRange) : t.InRange where
  steps := State.stepsSound_congr (ht .speed) (ht .neighbours) hr.steps
  capped ha := (hr.capped (State.acting_of_told (ht .station) ▸ ha)).congr h.cfg (ht .closures)
  bound := h.bound ▸ h.planStep ▸ hr.bound
  planStep := h.planStep ▸ hr.planStep

/-- In an acting station no term lies above 6 (R82). -/
theorem State.lowerBound_le_six {s : State} (hr : s.InRange) (ha : s.acting = true) : s.lowerBound ≤ 6 := by
  obtain ⟨hdemand, hoverride, hentries⟩ := hr.steps
  have hcap := hr.capped ha
  obtain ⟨-, h0 | hterm⟩ := s.lowerBound_spec
  · omega
  · rcases hterm with ⟨-, h⟩ | ⟨e, he, -, -, p, hp, h⟩ | ⟨c, hc, h⟩ | ⟨-, h⟩ | ⟨o, ho, h⟩ | ⟨e, he, -, h⟩ | ⟨-, h⟩
    · exact h ▸ hdemand
    · have := (hentries e he).1 p hp
      omega
    · exact h ▸ hcap.closures c hc.1
    · exact h ▸ hcap.queueStep
    · exact h ▸ hoverride o ho
    · have hmem : e ∈ s.neighbours.entries := (s.nearestDown_spec.1 e he).1
      exact (hentries e hmem).2 _ h
    · exact h ▸ hcap.isolationStep

/-! ### The readers -/

theorem State.SameDerived.of_same {l : List Block} {s t : State} (h : SameOutside l s t)
    (hl : Block.station ∉ l ∧ Block.queue ∉ l ∧ Block.speed ∉ l := by decide) : s.SameDerived t :=
  have hstation : t.station = s.station := h .station hl.1
  have hqueue : t.queue = s.queue := h .queue hl.2.1
  have hspeed : t.speed = s.speed := h .speed hl.2.2
  ⟨State.own_congr hstation, State.cfg_congr hstation, congrArg QueueMonitor.term hqueue, congrArg Speed.bound hspeed,
    congrArg Speed.planStep hspeed, congrArg Speed.endCondition hspeed⟩

/-- What leaves the blocks that tell as they are tells the same. -/
theorem told_of_sameOutside {l : List Block} {s t : State} (h : SameOutside l s t)
    (hl : ∀ b ∈ [Block.station, .neighbours, .closures, .queue, .speed], b ∉ l := by decide) (b : Block) : b.told s t := by
  cases b
  case station | neighbours | closures | queue | speed => exact Block.told_of_same (h _ (hl _ (by decide)))
  all_goals trivial

theorem State.Served.told {s t : State} (h : s.Served t) (b : Block) : b.told s t := by
  cases b
  case station => exact h.mode
  case neighbours => exact Block.told_of_same (h.same .neighbours (by decide))
  case closures => exact h.same .closures (by decide)
  case queue => exact h.queueState
  case speed => exact ⟨h.demand, (congrArg (fun u => u.speed.override) h.eq).trans rfl⟩
  all_goals trivial

/-- A reader writes nothing of what the blocks tell. -/
theorem State.serve_told (s before : State) (r : Reader) (b : Block) : b.told s (s.serve before r) := by
  by_cases hr : r = .shoulder
  · subst hr
    show b.told s (s.serveShoulder before)
    exact told_of_sameOutside (s.serveShoulder_same before) (by decide) b
  · have hserved : s.Served (s.serve before r) := by
      cases r with
      | queue => rfl
      | speed => exact s.serveSpeed_served
      | plan => exact State.served_of_composer_same s.servePlan_same
      | composer => exact State.served_of_composer_same s.serveComposer_same
      | shoulder => exact absurd rfl hr
    exact hserved.told b

theorem State.Attuned.serveQueue {s : State} (h : s.Attuned) : s.serveQueue = s := by
  rw [State.serveQueue, ← h.term]
  rfl

theorem State.Attuned.serveSpeed {s : State} (h : s.Attuned) : s.serveSpeed = s := by
  have hbound : s.applyBound = s := if_pos h.bound.symm
  rw [State.serveSpeed, hbound, State.updateEnd, ← h.condition]
  rfl

/-- The composer and the shoulder controller derive nothing that speed control reads. -/
theorem State.serve_sameDerived (s before : State) (r : Reader) (hq : r ≠ .queue) (hs : r ≠ .speed) :
    s.SameDerived (s.serve before r) := by
  cases r with
  | queue => exact absurd rfl hq
  | speed => exact absurd rfl hs
  | plan =>
    show s.SameDerived s.servePlan
    exact .of_same s.servePlan_same
  | composer =>
    show s.SameDerived s.serveComposer
    exact .of_same s.serveComposer_same
  | shoulder =>
    show s.SameDerived (s.serveShoulder before)
    exact .of_same (s.serveShoulder_same before)

/-- Readers that have nothing new to take leave speed control in tune. -/
theorem State.Attuned.serve {s : State} (h : s.Attuned) (before : State) (r : Reader) : (s.serve before r).Attuned := by
  by_cases hq : r = .queue
  · subst hq
    show s.serveQueue.Attuned
    rw [h.serveQueue]
    exact h
  · by_cases hs : r = .speed
    · subst hs
      show s.serveSpeed.Attuned
      rw [h.serveSpeed]
      exact h
    · exact (s.serve_sameDerived before r hq hs).attuned (s.serve_told before r) h

theorem State.applyBound_planStep_le {s : State} (hr : s.InRange) (ha : s.acting = true) : s.applyBound.speed.planStep ≤ 6 := by
  rcases s.applyBound_cases with ⟨-, e⟩ | ⟨-, -, e⟩ | ⟨-, -, -, e⟩
  · rw [e]
    exact hr.planStep
  · rw [e]
    exact State.lowerBound_le_six hr ha
  · rw [e]
    exact hr.planStep

theorem State.InRange.serveQueue {s : State} (hr : s.InRange) : s.serveQueue.InRange where
  steps := hr.steps
  capped := fun ha => State.Capped.congr (s := s) rfl rfl (hr.capped ha)
  bound := hr.bound
  planStep := hr.planStep

theorem State.InRange.serveSpeed {s : State} (hr : s.InRange) (ha : s.acting = true) : s.serveSpeed.InRange where
  steps := State.stepsSound_congr (s.serveSpeed_served.told .speed) (s.serveSpeed_served.told .neighbours) hr.steps
  capped := fun _ => State.Capped.congr (State.cfg_congr s.serveSpeed_served.station) (s.serveSpeed_served.told .closures)
    (hr.capped ha)
  bound := by
    rw [s.serveSpeed_speed]
    show s.applyBound.speed.bound ≤ s.applyBound.speed.planStep
    exact (s.applyBound_le hr.bound).2
  planStep := by
    rw [s.serveSpeed_speed]
    show s.applyBound.speed.planStep ≤ 6
    exact State.applyBound_planStep_le hr ha

/-- A reader keeps the steps in range while the station acts. -/
theorem State.InRange.serve {s : State} (hr : s.InRange) (ha : s.acting = true) (before : State) (r : Reader) :
    (s.serve before r).InRange := by
  by_cases hq : r = .queue
  · subst hq
    exact hr.serveQueue
  · by_cases hs : r = .speed
    · subst hs
      exact hr.serveSpeed ha
    · exact (s.serve_sameDerived before r hq hs).inRange (s.serve_told before r) hr

/-- Speed control that takes its reports is in tune with its terms, if the queue monitor has taken its own (R82, R92). -/
theorem State.serveSpeed_attuned {s : State} (h : s.queue.term = s.queueTerm) : s.serveSpeed.Attuned where
  term := by
    have hsame := s.serveSpeed_same
    have hstation : s.serveSpeed.station = s.station := hsame .station (by decide)
    have hqueue : s.serveSpeed.queue = s.queue := hsame .queue (by decide)
    rw [State.queueTerm, hqueue, State.queueAhead_congr (State.own_congr hstation)
      (Block.told_of_same (hsame .neighbours (by decide))) (State.cfg_congr hstation)]
    exact h
  bound := by
    rw [s.lowerBound_serveSpeed, s.serveSpeed_speed]
    rcases s.applyBound_cases with ⟨hb, e⟩ | ⟨-, -, e⟩ | ⟨-, -, -, e⟩
    · rw [e]
      exact hb.symm
    · rw [e]
      rfl
    · rw [e]
      rfl
  condition := by
    have hholds : s.serveSpeed.endHolds = s.applyBound.endHolds := by
      rw [State.serveSpeed, State.endHolds_updateEnd]
    rw [hholds, s.serveSpeed_speed]

theorem State.serveQueue_term (s : State) : s.serveQueue.queue.term = s.serveQueue.queueTerm := rfl

theorem State.Attuned.serveComposer {s : State} (h : s.Attuned) : s.serveComposer.Attuned := by
  have hderived : s.SameDerived s.serveComposer := .of_same s.serveComposer_same
  have hserved : s.Served s.serveComposer := State.served_of_composer_same s.serveComposer_same
  exact hderived.attuned hserved.told h

/-- When every reader has taken its reports, speed control is in tune with its terms, whatever it was before (R82, R92, R103). -/
theorem State.serveEvery_attuned (s before : State) : (s.serveEvery before).Attuned := by
  unfold State.serveEvery
  exact (State.serveSpeed_attuned (State.serveQueue_term _)).serveComposer

end Sys2Proof.Machine
end

section
/-!
PROOFS. Steps that tell the readers something, and the plan step while such a step is under way (R38, R62, R82 to R87).
-/
namespace Sys2Proof.Machine
-- One proof at a time: the threads of parallel proofs exceed the memory limit of the check.
set_option Elab.async false

/-! ### What a block tells when it acts -/

/-- A block has acted: nothing derived has changed, nothing is told but of the blocks of a list, and the steps stay in range. -/
structure State.Tells (l : List Block) (s t : State) : Prop where
  derived : s.SameDerived t
  told : ∀ b, b ∉ l → b.told s t
  inRange : s.InRange → t.InRange

theorem State.Tells.refl (l : List Block) (s : State) : State.Tells l s s := ⟨.refl s, fun b _ => b.told_refl s, id⟩

theorem State.Tells.trans {l : List Block} {s t u : State} (h : State.Tells l s t) (k : State.Tells l t u) : State.Tells l s u :=
  ⟨h.derived.trans k.derived, fun b hb => Block.told_trans (h.told b hb) (k.told b hb), k.inRange ∘ h.inRange⟩

/-- What tells nothing may stand before what tells something. -/
theorem State.Tells.after {l : List Block} {s t u : State} (h : State.Tells l t u) (e : State.Tells [] s t) : State.Tells l s u :=
  State.Tells.trans ⟨e.derived, fun b _ => e.told b List.not_mem_nil, e.inRange⟩ h

/-- And it may stand behind. -/
theorem State.Tells.before {l : List Block} {s t u : State} (h : State.Tells l s t) (e : State.Tells [] t u) : State.Tells l s u :=
  h.trans ⟨e.derived, fun b _ => e.told b List.not_mem_nil, e.inRange⟩

/-- Of the blocks that an action touches only those that tell something count. -/
theorem State.Tells.narrow {l m : List Block} {s t : State} (h : State.Tells l s t)
    (hl : ∀ b ∈ [Block.station, .neighbours, .closures, .queue, .speed], b ∈ l → b ∈ m := by decide) : State.Tells m s t := by
  refine ⟨h.derived, fun b hb => ?_, h.inRange⟩
  cases b
  case station | neighbours | closures | queue | speed => exact h.told _ fun hb' => hb (hl _ (by decide) hb')
  all_goals trivial

theorem State.Tells.of_told {s t : State} (h : s.SameDerived t) (ht : ∀ b : Block, b.told s t) : State.Tells [] s t :=
  ⟨h, fun b _ => ht b, h.inRange ht⟩

/-- Work in the blocks that tell nothing. -/
theorem State.Tells.of_same {l : List Block} {s t : State} (h : SameOutside l s t)
    (hl : ∀ b ∈ [Block.station, .neighbours, .closures, .queue, .speed], b ∉ l := by decide) : State.Tells [] s t :=
  .of_told (.of_same h ⟨hl _ (by decide), hl _ (by decide), hl _ (by decide)⟩) (told_of_sameOutside h hl)

theorem State.Tells.of_eq {s t : State} (hs : t.station = s.station) (hn : t.neighbours = s.neighbours) (hc : t.closures = s.closures)
    (hq : t.queue = s.queue) (hp : t.speed = s.speed) : State.Tells [] s t := by
  refine .of_told ⟨State.own_congr hs, State.cfg_congr hs, congrArg QueueMonitor.term hq, congrArg Speed.bound hp,
    congrArg Speed.planStep hp, congrArg Speed.endCondition hp⟩ fun b => ?_
  cases b
  case station => exact congrArg Station.mode hs
  case neighbours => exact Block.told_of_same (b := .neighbours) hn
  case closures => exact hc
  case queue => exact congrArg QueueMonitor.state hq
  case speed => exact ⟨congrArg Speed.demand hp, congrArg Speed.override hp⟩
  all_goals trivial

theorem State.Tells.foldl {α : Type} {l : List Block} {f : State → α → State} (h : ∀ (s : State) a, State.Tells l s (f s a))
    (as : List α) (s : State) : State.Tells l s (as.foldl f s) := by
  induction as generalizing s with
  | nil => exact .refl l s
  | cons a as ih => exact (h s a).trans (ih (f s a))

theorem State.advance_tells (s : State) (dt : Nat) : State.Tells [] s (s.advance dt) := .of_same (s.advance_same dt)

theorem State.tryCommit_tells (s : State) : State.Tells [] s s.tryCommit := .of_same s.tryCommit_same

/-! ### A step under way -/

/-- Between commands: the steps are in range, and while the station acts its speed control is in tune with its terms. -/
structure State.Paced (s : State) : Prop where
  inRange : s.InRange
  attuned : s.acting = true → s.Attuned

/-- A configuration whose check it has passed gives its steps in 0 to 6, and so do the closures (R108, R167). -/
theorem State.capped_of_sound {s : State} (hs : s.station.sound) (hc : s.closuresSound) (hcheck : s.station.check = .usable) :
    s.Capped := by
  obtain ⟨-, husable, -⟩ := hs
  obtain ⟨-, g, hg, -, -, hqueue, hisolation, -⟩ := husable hcheck
  have hcfg : s.cfg = g := by rw [State.cfg, hg, Option.getD_some]
  refine ⟨hcfg ▸ hqueue, hcfg ▸ hisolation, fun c hmem => ?_⟩
  obtain ⟨-, -, -, -, -, -, -, -, hstep⟩ := hc.1 c hmem
  exact hstep

theorem State.paced_of_sound {s : State} (hs : s.station.sound) (hc : s.closuresSound) (ht : s.stepsSound) (hp : s.speedSound) :
    s.Paced := by
  obtain ⟨hbound, hplan, hacting⟩ := hp
  refine ⟨⟨ht, fun ha => ?_, hbound, hplan⟩, fun ha => ?_⟩
  · obtain ⟨-, -, hrestored, hacts, -⟩ := id hs
    exact State.capped_of_sound hs hc (hrestored (hacts ha))
  · obtain ⟨hterm, hlower, hend⟩ := hacting ha
    exact ⟨hterm, hlower, hend⟩

theorem State.Paced.sound {s : State} (h : s.Paced) : s.stepsSound ∧ s.speedSound :=
  ⟨h.inRange.steps, h.inRange.bound, h.inRange.planStep, fun ha => ⟨(h.attuned ha).term, (h.attuned ha).bound, (h.attuned ha).condition⟩⟩

theorem State.Paced.of_tells {s t : State} (h : s.Paced) (k : State.Tells [] s t) : t.Paced :=
  have ht (b : Block) : b.told s t := k.told b List.not_mem_nil
  ⟨k.inRange h.inRange, fun ha => k.derived.attuned ht (h.attuned ((State.acting_of_told (ht .station)) ▸ ha))⟩

/-- A step that began in `before` has told of some blocks, readers may have taken reports meanwhile, and speed control is in tune
with its terms as soon as there is nothing to report. -/
structure State.UnderWay (before : State) (l : List Block) (s : State) : Prop where
  told : ∀ b, b ∉ l → b.told before s
  inRange : s.InRange
  attuned : s.acting = true → (∀ b : Block, b.told before s) → s.Attuned

theorem State.Paced.underWay {s : State} (h : s.Paced) : State.UnderWay s [] s :=
  ⟨fun b _ => b.told_refl s, h.inRange, fun ha _ => h.attuned ha⟩

/-- Blocks that have told nothing before act: what they tell takes back nothing that was told. -/
theorem State.UnderWay.act {before s t : State} {l m : List Block} (h : State.UnderWay before l s) (k : State.Tells m s t)
    (hd : ∀ b ∈ l, b ∉ m := by decide) : State.UnderWay before (l ++ m) t where
  told b hb := Block.told_trans (h.told b fun hl => hb (List.mem_append_left m hl)) (k.told b fun hm => hb (List.mem_append_right l hm))
  inRange := k.inRange h.inRange
  attuned ha hall := by
    have hbefore (b : Block) : b.told before s := by
      by_cases hb : b ∈ l
      · exact Block.told_trans (hall b) (Block.told_symm (k.told b (hd b hb)))
      · exact h.told b hb
    have hstep (b : Block) : b.told s t := Block.told_trans (Block.told_symm (hbefore b)) (hall b)
    exact k.derived.attuned hstep (h.attuned (State.acting_of_told (hstep .station) ▸ ha) hbefore)

theorem State.UnderWay.serve {before s : State} {l : List Block} (h : State.UnderWay before l s) (ha : s.acting = true) (r : Reader) :
    State.UnderWay before l (s.serve before r) where
  told b hb := Block.told_trans (h.told b hb) (s.serve_told before r b)
  inRange := h.inRange.serve ha before r
  attuned _ hall := (h.attuned ha fun b => Block.told_trans (hall b) (Block.told_symm (s.serve_told before r b))).serve before r

theorem State.UnderWay.serveAll {before s : State} {l : List Block} (h : State.UnderWay before l s) (ha : s.acting = true)
    (rs : List Reader) : State.UnderWay before l (s.serveAll before rs) ∧ (s.serveAll before rs).acting = true := by
  induction rs generalizing s with
  | nil => exact ⟨h, ha⟩
  | cons r rs ih => exact ih (h.serve ha r) ((State.acting_of_told (s.serve_told before r .station)).trans ha)

theorem State.UnderWay.serveSome {before s : State} {l : List Block} (h : State.UnderWay before l s) (rs : List Reader) :
    State.UnderWay before l (s.serveSome before rs) := by
  unfold State.serveSome
  split
  · next hc => exact (h.serveAll (Bool.and_eq_true _ _ ▸ hc).1 rs).1
  · exact h

/-- Two blocks act in either order, with readers served between them (R38, R62). -/
theorem State.UnderWay.inOrder {before s : State} {l m n : List Block} (h : State.UnderWay before l s) (o : Order)
    {f g : State → State} (hf : ∀ t, State.Tells m t (f t)) (hg : ∀ t, State.Tells n t (g t))
    (hlm : ∀ b ∈ l, b ∉ m := by decide) (hln : ∀ b ∈ l, b ∉ n := by decide) (hmn : ∀ b ∈ m, b ∉ n := by decide) :
    ∃ k, State.UnderWay before k (s.inOrder before o f g) := by
  have hthird {p q : List Block} (hlq : ∀ b ∈ l, b ∉ q) (hpq : ∀ b ∈ p, b ∉ q) : ∀ b ∈ l ++ p, b ∉ q := fun b hb =>
    (List.mem_append.mp hb).elim (hlq b) (hpq b)
  rcases s.inOrder_cases before o f g with ⟨-, e⟩ | ⟨-, e⟩
  · rw [e]
    exact ⟨_, ((h.act (hf s) hlm).serveSome o.between).act (hg _) (hthird hln hmn)⟩
  · rw [e]
    exact ⟨_, ((h.act (hg s) hln).serveSome o.between).act (hf _) (hthird hlm fun b hb hm => hmn b hm hb)⟩

/-- When the reports of the step have been taken, speed control is in tune with its terms again. -/
theorem State.UnderWay.settle {before s : State} {l : List Block} (h : State.UnderWay before l s) (late : List Reader) :
    (s.settle before late).Paced := by
  rcases s.settle_cases before late with ⟨ha, -, e⟩ | ⟨hn, e⟩
  · obtain ⟨hlate, hacting⟩ := h.serveAll ha late
    have hevery := hlate.serveAll hacting [.shoulder, .queue, .speed, .composer]
    rw [← State.serveEvery_eq] at hevery
    rw [e]
    exact ⟨hevery.1.inRange, fun _ => State.serveEvery_attuned _ before⟩
  · rw [e]
    refine ⟨h.inRange, fun ha => h.attuned ha fun b => State.told_of_not_reported ?_ b⟩
    exact hn.resolve_left fun hf => nomatch ha.symm.trans hf

/-- A step that acts once and is settled. -/
theorem State.Paced.settle {s t : State} {l : List Block} (h : s.Paced) (k : State.Tells l s t) (late : List Reader) :
    (t.settle s late).Paced := (h.underWay.act k nofun).settle late

end Sys2Proof.Machine
end

section
/-!
PROOFS. What the operations of each block tell speed control, and that they keep the steps in range (R61, R77 to R82, R89, R97 to
R100, R111, R113 to R115).
-/
namespace Sys2Proof.Machine
-- One proof at a time: the threads of parallel proofs exceed the memory limit of the check.
set_option Elab.async false

/-! ### Writes to one block -/

/-- The steps stay in range where the mode goes on acting, or not, and every new step is in range. -/
theorem State.InRange.of_derived {s t : State} (hr : s.InRange) (h : s.SameDerived t) (ha : t.acting = s.acting) (hsteps : t.stepsSound)
    (hc : ∀ c ∈ t.entries, c ∈ s.entries ∨ c.step ≤ 6) : t.InRange where
  steps := hsteps
  capped hat := by
    have hcap := hr.capped (ha ▸ hat)
    exact ⟨h.cfg ▸ hcap.queueStep, h.cfg ▸ hcap.isolationStep, fun c hm => (hc c hm).elim (hcap.closures c) id⟩
  bound := h.bound ▸ h.planStep ▸ hr.bound
  planStep := h.planStep ▸ hr.planStep

theorem State.setQueue_tells (s : State) (x : QueueMonitor) (h : x.term = s.queue.term) : State.Tells [.queue] s (s.setQueue x) :=
  have hd : s.SameDerived (s.setQueue x) := ⟨rfl, rfl, h, rfl, rfl, rfl⟩
  ⟨hd, fun b hb => Block.told_of_same (s.setQueue_same x b hb), fun hr => hr.of_derived hd rfl hr.steps fun _ => .inl⟩

theorem State.setSpeed_tells (s : State) (x : Speed) (hb : x.bound = s.speed.bound) (hp : x.planStep = s.speed.planStep)
    (he : x.endCondition = s.speed.endCondition) (hd : s.speed.demand ≤ 6 → x.demand ≤ 6)
    (ho : ∀ o, x.override = some o → s.speed.override = some o ∨ o.step ≤ 6) : State.Tells [.speed] s (s.setSpeed x) := by
  have hderived : s.SameDerived (s.setSpeed x) := ⟨rfl, rfl, rfl, hb, hp, he⟩
  refine ⟨hderived, fun b hb => Block.told_of_same (s.setSpeed_same x b hb), fun hr => hr.of_derived hderived rfl ?_ fun _ => .inl⟩
  obtain ⟨hdemand, hoverride, hentries⟩ := hr.steps
  exact ⟨hd hdemand, fun o h => (ho o h).elim (hoverride o) id, hentries⟩

theorem State.setNeighbours_tells (s : State) (x : Neighbours)
    (h : ∀ e ∈ x.entries, (∃ d ∈ s.neighbours.entries, e.record = d.record) ∨ e.record.StepsInRange) :
    State.Tells [.neighbours] s (s.setNeighbours x) := by
  have hd : s.SameDerived (s.setNeighbours x) := ⟨rfl, rfl, rfl, rfl, rfl, rfl⟩
  refine ⟨hd, fun b hb => Block.told_of_same (s.setNeighbours_same x b hb), fun hr => hr.of_derived hd rfl ?_ fun _ => .inl⟩
  obtain ⟨hdemand, hoverride, hentries⟩ := hr.steps
  refine ⟨hdemand, hoverride, fun e he => ?_⟩
  rcases h e he with ⟨d, hm, heq⟩ | hstep
  · rw [heq]
    exact hentries d hm
  · exact ⟨hstep.planStep, hstep.displacedStep⟩

/-- A neighbour table whose entries keep their content tells nothing. -/
theorem State.setNeighbours_tells_nothing (s : State) (x : Neighbours)
    (h : x.entries.map Neighbour.content = s.neighbours.entries.map Neighbour.content) : State.Tells [] s (s.setNeighbours x) := by
  refine .of_told ⟨rfl, rfl, rfl, rfl, rfl, rfl⟩ fun b => ?_
  by_cases hb : b = .neighbours
  · subst hb
    exact h
  · exact Block.told_of_same (s.setNeighbours_same x b (by simpa using hb))

theorem State.setMode_tells (s : State) (m : Mode) (h : m.acting = s.acting) : State.Tells [.station] s (s.setMode m) :=
  have hd : s.SameDerived (s.setMode m) := ⟨rfl, rfl, rfl, rfl, rfl, rfl⟩
  ⟨hd, fun b hb => Block.told_of_same (s.setMode_same m b hb), fun hr => hr.of_derived hd h hr.steps fun _ => .inl⟩

/-- Station control that keeps its mode, its number and its configuration tells nothing. -/
theorem State.setStation_tells (s : State) (x : Station) (hm : x.mode = s.station.mode) (hs : x.straps = s.station.straps)
    (hc : x.config = s.station.config) : State.Tells [] s (s.setStation x) := by
  have hown : (s.setStation x).own = s.own := by
    unfold State.own
    rw [State.setStation_station, hs]
  have hcfg : (s.setStation x).cfg = s.cfg := by
    unfold State.cfg
    rw [State.setStation_station, hc]
  refine .of_told ⟨hown, hcfg, rfl, rfl, rfl, rfl⟩ fun b => ?_
  by_cases hb : b = .station
  · subst hb
    exact hm
  · exact Block.told_of_same (s.setStation_same x b (by simpa using hb))

theorem State.record_tells (s : State) (kind : CommandKind) (r : ResultCode) : State.Tells [] s (s.record kind r) :=
  s.setStation_tells _ rfl rfl rfl

/-! ### The detector unit -/

/-- Nothing that the detector unit does is told to speed control. -/
theorem State.DetectorWork.tells {s t : State} (h : s.DetectorWork t) : State.Tells [] s t := by
  have hsame := h.same
  have hspeed : t.speed = s.speed := hsame .speed (by decide)
  refine .of_told ⟨State.own_congr h.station, h.cfg, (congrArg (fun u => u.queue.term) h.eq).trans rfl, congrArg Speed.bound hspeed,
    congrArg Speed.planStep hspeed, congrArg Speed.endCondition hspeed⟩ fun b => ?_
  by_cases hb : b ∈ [Block.detector, .trace, .requests, .faults, .queue]
  · cases b
    case queue => exact h.queueState
    case detector | trace | requests | faults => trivial
    all_goals exact absurd hb (by decide)
  · exact Block.told_of_same (hsame b hb)

theorem State.abortCheck_tells (s : State) : State.Tells [] s s.abortCheck := .of_same s.abortCheck_same

theorem State.settleMode_tells (s : State) (k : Lane) (moment : Tick) : State.Tells [] s (s.settleMode k moment) := by
  unfold State.settleMode
  dsimp only
  split
  · exact .refl _ s
  · generalize hu : List.foldl _ _ _ = u
    have hwork : State.Tells [] s u := by
      rw [← hu]
      exact State.Tells.after (.foldl (fun t a => (t.completeVehicle_laneWork k a).work.tells) _ _) (State.DetectorWork.tells rfl)
    split
    · exact hwork.trans u.abortCheck_tells
    · exact hwork

theorem State.takeOnEdge_tells (s : State) (l : Loop) (on : Tick) : State.Tells [] s (s.takeOnEdge l on) := by
  unfold State.takeOnEdge
  dsimp only
  generalize hu : (if l.lane = .l1 then _ else _) = u
  have hedge : State.Tells [] s u := by
    subst hu
    split
    · refine State.Tells.trans ?_ (State.abortCheck_tells _)
      split
      · exact (s.setLane_work _ _).tells
      · exact .refl _ s
    · split
      · exact (s.setLane_work _ _).tells
      · exact .refl _ s
  split
  · exact hedge.trans (u.appendArrival_laneWork l.lane on).work.tells
  · exact hedge.trans ((u.setLane_work l.lane _).trans (State.drainArrivals_laneWork _ l.lane).work).tells
  · exact hedge.trans (u.setLane_work l.lane _).tells
  · exact hedge.trans (u.setLane_work l.lane _).tells
  · exact hedge

theorem State.qualify_tells (s : State) (l : Loop) (p : Presence) : State.Tells [] s (s.qualify l p) := by
  unfold State.qualify
  dsimp only
  split
  · exact (State.takeOnEdge_tells _ l p.on).after (s.setLane_work l.lane _).tells
  · exact (s.setLane_work l.lane _).tells

theorem State.qualifyInOrder_tells (s : State) (l : Loop) (p : Presence) : State.Tells [] s (s.qualifyInOrder l p) := by
  rcases s.qualifyInOrder_cases l p with ⟨q, -, -, -, -, -, e⟩ | ⟨-, e⟩
  · exact e ▸ (s.qualify_tells _ q).trans (State.qualify_tells _ l p)
  · exact e ▸ s.qualify_tells l p

theorem State.releaseSingle_tells (s : State) (k : Lane) (pairedCounts : Bool) : State.Tells [] s (s.releaseSingle k pairedCounts) := by
  unfold State.releaseSingle
  split
  · exact .refl _ s
  · dsimp only
    split
    · exact ((s.setLane_work k _).trans (State.completeVehicle_laneWork _ k _).work).tells
    · exact ((s.setLane_work k _).trans (State.completeSingle_laneWork _ k _).work).tells

theorem State.takeRelease_tells (s : State) (l : Loop) : State.Tells [] s (s.takeRelease l) := by
  unfold State.takeRelease
  dsimp only
  generalize hu : (if (s.detector.lanes.get l.lane).mode.counting = some l.side then _ else _) = u
  have hcount : State.Tells [] s u := by
    subst hu
    split
    · exact (s.setLane_work _ _).tells
    · exact .refl _ s
  split
  · exact hcount.trans ((u.setLane_work l.lane _).trans (State.drainArrivals_laneWork _ l.lane).work).tells
  · exact hcount.trans (u.releaseSingle_tells l.lane true)
  · exact hcount.trans (u.releaseSingle_tells l.lane false)
  · exact hcount

theorem State.releaseQualified_tells (s : State) (l : Loop) : State.Tells [] s (s.releaseQualified l) := by
  unfold State.releaseQualified
  dsimp only
  split
  · exact (State.takeRelease_tells _ l).after (s.setLane_work l.lane _).tells
  · exact (s.setLane_work l.lane _).tells
  · exact (State.settleMode_tells _ l.lane _).after (State.DetectorWork.tells rfl)

theorem State.closeInterval_tells (s : State) (stop : Tick) (lanes : List Lane) (loops : List Loop) :
    State.Tells [] s (s.closeInterval stop lanes loops) := by
  have hmodes (u : State) : State.Tells [] u (u.remeasured stop) :=
    (State.Tells.foldl (fun t k => t.settleMode_tells k stop) u.laneList u).trans (State.DetectorWork.tells rfl)
  rw [s.closeInterval_eq]
  exact ((s.opened_work stop lanes loops).tells.trans (hmodes _)).trans (State.setDetector_work _ _).tells

/-! ### The queue monitor and the demand -/

/-- The shock trigger may make the queue PRESENT (R100). -/
theorem State.fireShock_tells (s : State) : State.Tells [.queue] s s.fireShock := by
  unfold State.fireShock
  dsimp only
  split
  · exact (s.setQueue_tells { s.queue with state := .present, confirm := 0, clearCount := 0, firedAt := some s.clock } rfl).before
      (.of_same (State.flagUrgent_same _))
  · exact s.setQueue_tells _ rfl

theorem State.watchRecord_tells (s : State) (r : VehicleRecord) : State.Tells [.queue] s (s.watchRecord r) := by
  have hrun (n : Nat) : State.Tells [] s (s.setRun r.lane n) := (s.setRun_work r.lane n).tells
  unfold State.watchRecord
  split
  · split
    · exact .refl _ s
    · dsimp only
      split
      · split
        · exact (State.fireShock_tells _).after (hrun _)
        · exact (hrun _).narrow
      · exact (hrun 0).narrow
  · exact (hrun 0).narrow

theorem State.finishRecord_tells (s : State) (r : VehicleRecord) : State.Tells [.queue] s (s.finishRecord r) :=
  ((State.watchRecord_tells _ r).after (s.setTrace_work _).tells).before (.of_same (State.countLong_same _ r))

theorem State.evaluateQueue_tells (s : State) : State.Tells [.queue] s s.evaluateQueue := by
  have hterm : s.judgedQueue.term = s.queue.term :=
    (congrArg QueueMonitor.term (s.queue.judged_term s.queue.term s.queueCondition s.cfg.confirmCount s.cfg.clearDwell s.clock)).trans rfl
  have htaken : State.Tells [.queue] s s.queueTaken := s.setQueue_tells _ hterm
  rw [s.evaluateQueue_eq]
  split
  · exact htaken
  · exact htaken.before (.of_same (State.flagUrgent_same _))

/-- An evaluation moves the demand step and its dwell counter alone, and never above 6 (R78 to R80). -/
theorem State.moveDemand_spec (s : State) :
    s.moveDemand.bound = s.speed.bound ∧ s.moveDemand.planStep = s.speed.planStep ∧
      s.moveDemand.endCondition = s.speed.endCondition ∧ s.moveDemand.override = s.speed.override ∧
      (s.speed.demand ≤ 6 → s.moveDemand.demand ≤ 6) := by
  unfold State.moveDemand
  dsimp only
  split
  · exact ⟨rfl, rfl, rfl, rfl, fun _ => s.candidate_spec.1⟩
  · split
    · split
      · exact ⟨rfl, rfl, rfl, rfl, fun h => (Nat.sub_le _ 1).trans h⟩
      · exact ⟨rfl, rfl, rfl, rfl, id⟩
    · exact ⟨rfl, rfl, rfl, rfl, id⟩

theorem State.evaluateDemand_tells (s : State) : State.Tells [.speed] s s.evaluateDemand := by
  unfold State.evaluateDemand
  dsimp only
  split
  · have hlost : State.Tells [.speed] s (s.setSpeed { s.speed with dwell := 0, detectionLost := true }) :=
      s.setSpeed_tells _ rfl rfl rfl id fun _ => .inl
    split
    · exact hlost
    · exact hlost.before (.of_same (State.raiseFault_same _ _ _))
  · obtain ⟨hbound, hplan, hend, hoverride, hdemand⟩ := s.moveDemand_spec
    have hmoved : State.Tells [.speed] s (s.setSpeed { s.moveDemand with detectionLost := false }) :=
      s.setSpeed_tells _ hbound hplan hend hdemand fun o h => .inl (hoverride ▸ h)
    split
    · exact hmoved.before (.of_same (State.endFault_same _ _ _))
    · exact hmoved

theorem State.takeMeasures_tells (s : State) : State.Tells [.speed] s s.takeMeasures := by
  unfold State.takeMeasures
  split
  · exact s.evaluateDemand_tells
  · exact .refl _ s

theorem State.markEvaluation_tells (s : State) : State.Tells [] s s.markEvaluation := by
  unfold State.markEvaluation
  split
  · exact s.setStation_tells _ rfl rfl rfl
  · exact .refl _ s

/-- An override record is set or removed (R89, R90). -/
theorem State.setOverride_tells (s : State) (r : Option Override) (h : ∀ o, r = some o → o.step ≤ 6) :
    State.Tells [.speed] s (s.setOverride r) := s.setSpeed_tells _ rfl rfl rfl id fun o ho => .inr (h o ho)

theorem State.takeOverride_tells (s : State) (step legend minutes : Nat) :
    State.Tells [.speed] s (s.takeOverride step legend minutes).1 := by
  unfold State.takeOverride
  split
  · exact .refl _ s
  · next hstep =>
    split
    · exact .refl _ s
    · split
      · exact s.setOverride_tells none nofun
      · refine s.setOverride_tells _ fun o ho => ?_
        cases ho
        exact Nat.le_of_not_lt hstep

/-! ### The closure table -/

theorem Slots.mem_toList {α : Type} (t : Slots α) (x : α) : x ∈ t.toList ↔ ∃ p, t.get p = x := by
  constructor
  · intro h
    simp only [Slots.toList, List.mem_cons, List.not_mem_nil, or_false] at h
    rcases h with h | h | h | h | h | h | h | h
    · exact ⟨.p1, h.symm⟩
    · exact ⟨.p2, h.symm⟩
    · exact ⟨.p3, h.symm⟩
    · exact ⟨.p4, h.symm⟩
    · exact ⟨.p5, h.symm⟩
    · exact ⟨.p6, h.symm⟩
    · exact ⟨.p7, h.symm⟩
    · exact ⟨.p8, h.symm⟩
  · rintro ⟨p, rfl⟩
    cases p <;> simp [Slots.toList, Slots.get]

theorem State.mem_entries (s : State) (c : Closure) : c ∈ s.entries ↔ ∃ p, s.closures.get p = some c := by
  simp [State.entries, Slots.mem_toList]

/-- A changed position brings at most its own content (R117). -/
theorem State.mem_entries_putClosure {s : State} {p : Pos} {x : Option Closure} {c : Closure} (h : c ∈ (s.putClosure p x).entries) :
    c ∈ s.entries ∨ x = some c := by
  obtain ⟨q, hq⟩ := (State.mem_entries _ c).mp h
  rw [s.putClosure_closures] at hq
  by_cases hqp : q = p
  · subst hqp
    exact .inr ((Slots.get_set ..).symm.trans hq)
  · exact .inl ((s.mem_entries c).mpr ⟨q, (Slots.get_set_of_ne _ _ hqp).symm.trans hq⟩)

theorem State.putClosure_tells (s : State) (p : Pos) (x : Option Closure) (h : ∀ c, x = some c → c.step ≤ 6) :
    State.Tells [.closures] s (s.putClosure p x) := by
  have hsame := s.putClosure_same p x
  have hderived : s.SameDerived (s.putClosure p x) := .of_same hsame
  have htold (b : Block) (hb : b ∉ [Block.closures, .retention, .shoulder, .faults, .line]) : b.told s (s.putClosure p x) :=
    Block.told_of_same (hsame b hb)
  refine State.Tells.narrow ⟨hderived, htold, fun hr => ?_⟩
  exact hr.of_derived hderived (State.acting_of_told (htold .station (by decide)))
    (State.stepsSound_congr (htold .speed (by decide)) (htold .neighbours (by decide)) hr.steps)
    fun c hc => (State.mem_entries_putClosure hc).imp_right (h c)

theorem State.insertClosure_tells (s : State) (c : Closure) (h : c.step ≤ 6) : State.Tells [.closures] s (s.insertClosure c) := by
  unfold State.insertClosure
  split
  · exact s.putClosure_tells _ _ fun x hx => Option.some.inj hx ▸ h
  · exact .refl _ s

theorem State.learnClosure_tells (s : State) (c : Closure) (h : c.step ≤ 6) : State.Tells [.closures] s (s.learnClosure c) := by
  unfold State.learnClosure
  split
  · exact s.insertClosure_tells c h
  · split
    · split
      · exact .refl _ s
      · exact s.putClosure_tells _ _ fun x hx => Option.some.inj hx ▸ h
    · exact s.putClosure_tells _ _ fun x hx => Option.some.inj hx ▸ h

theorem State.absentClosure_tells (s : State) (n : Nat) : State.Tells [.closures] s (s.absentClosure n) := by
  unfold State.absentClosure
  split
  · split
    · exact s.putClosure_tells _ _ nofun
    · exact .refl _ s
  · exact .refl _ s

theorem State.learn_tells (s : State) (n : Nat) {r : StatusRecord} (h : r.StepsInRange) : State.Tells [.closures] s (s.learn n r) := by
  unfold State.learn
  split
  · split
    · next c hc =>
      split
      · exact s.learnClosure_tells _ (h.ownClosure c hc)
      · exact s.absentClosure_tells n
    · exact s.absentClosure_tells n
  · exact .refl _ s

theorem State.closeSet_tells (s : State) (c : Closure) (h : c.step ≤ 6) : State.Tells [.closures] s (s.closeSet c).1 := by
  unfold State.closeSet
  split
  · exact .refl _ s
  · split
    · exact s.insertClosure_tells c h
    · refine s.putClosure_tells _ _ fun x hx => ?_
      split at hx
      · exact Option.some.inj hx ▸ h
      · cases hx

theorem State.closeClear_tells (s : State) (origin serial : Nat) : State.Tells [.closures] s (s.closeClear origin serial).1 := by
  unfold State.closeClear
  split
  · exact .refl _ s
  · split
    · exact .refl _ s
    · split
      · exact s.putClosure_tells _ _ nofun
      · exact .refl _ s

/-! ### The neighbour table -/

theorem takeOwnClosure_step {carried : Bool} {os rest : List Octet} {c : OwnClosure}
    (h : takeOwnClosure carried os = some (some c, rest)) : c.step ≤ 6 := by
  unfold takeOwnClosure at h
  split at h
  · split at h
    · split at h
      · cases h
      · next hstep =>
        cases h
        exact Nat.le_of_not_lt fun h6 => hstep (.inr h6)
    · cases h
  · cases h

theorem readCarried_step {carries : Octet} {os held : List Octet} {demand displaced : Option Nat} {own : Option OwnClosure}
    (h : readCarried carries os = some (demand, displaced, own, held)) : ∀ c, own = some c → c.step ≤ 6 := by
  rintro c rfl
  unfold readCarried at h
  split at h
  · cases h
  · split at h
    · cases h
    · split at h
      · cases h
      · next own' os' hown =>
        cases h
        exact takeOwnClosure_step hown

/-- The steps of a readable status body lie in 0 to 6 (R61). -/
theorem readStatus_stepsInRange {body : List Octet} {r : StatusRecord} (h : readStatus body = some r) : r.StepsInRange := by
  unfold readStatus at h
  split at h
  · split at h
    · cases h
      exact ⟨nofun, nofun, nofun⟩
    · cases h
  · split at h
    · cases h
    · split at h
      · cases h
      · next hplan =>
        split at h
        · split at h
          · cases h
          · next hcarried =>
            split at h
            · next hread =>
              cases h
              obtain ⟨-, -, hdisplaced, -⟩ := hread
              refine ⟨fun k hk => ?_, (stepReadable_iff _).mp hdisplaced, readCarried_step hcarried⟩
              cases hk
              omega
            · cases h
        · cases h
  · cases h

theorem State.storeRecord_tells (s : State) (n : Nat) {r : StatusRecord} (h : r.StepsInRange) :
    State.Tells [.neighbours] s (s.storeRecord n r) := by
  unfold State.storeRecord
  split
  · refine s.setNeighbours_tells _ fun e he => ?_
    rcases eq_or_mem_of_mem_putEntry he with rfl | hm
    · exact .inr h
    · exact .inl ⟨e, hm, rfl⟩
  · exact .refl _ s

theorem State.makeStale_tells (s : State) (n : Nat) : State.Tells [] s (s.makeStale n) := by
  refine s.setNeighbours_tells_nothing _ ?_
  rw [List.map_map]
  refine List.map_congr_left fun e _ => ?_
  show Neighbour.content (if e.station = n then { e with state := .stale } else e) = e.content
  split <;> rfl

theorem State.removeEntry_tells (s : State) (n : Nat) : State.Tells [.neighbours] s (s.removeEntry n) :=
  s.setNeighbours_tells _ fun e he => .inl ⟨e, List.mem_of_mem_filter he, rfl⟩

theorem State.becomeIsolated_tells (s : State) : State.Tells [.station] s s.becomeIsolated := by
  have hcondition : State.Tells [] s (s.setNeighbours { s.neighbours with isolation := true }) := s.setNeighbours_tells_nothing _ rfl
  unfold State.becomeIsolated
  dsimp only
  split
  · next hm =>
    have ha : s.acting = true := congrArg Mode.acting hm
    refine State.Tells.after ?_ hcondition
    exact State.setMode_tells _ .isolated ha.symm
  · exact hcondition.narrow

theorem State.noteArrival_tells (s : State) (n : Nat) : State.Tells [.station] s (s.noteArrival n) := by
  unfold State.noteArrival
  split
  · next ha =>
    dsimp only
    have htimer : State.Tells [] s (s.setNeighbours
        { s.neighbours with isolation := false, isolationTimer := some (s.clock + s.cfg.isolationTime * second) }) :=
      s.setNeighbours_tells_nothing _ rfl
    refine State.Tells.before ?_ (.of_same (State.endFault_same _ _ _))
    split
    · refine State.Tells.after ?_ htimer
      exact State.setMode_tells _ .running ha.symm
    · exact htimer.narrow
  · exact .refl _ s

/-! ### The owners of the other commands, the sign channels and the restore -/

theorem State.acknowledgeKey_tells (s : State) (code unit : Nat) : State.Tells [] s (s.acknowledgeKey code unit).1 := by
  unfold State.acknowledgeKey
  split
  · exact .of_eq rfl rfl rfl rfl rfl
  · exact .refl _ s

theorem State.answer_tells (s : State) (bodies : List (List Octet)) : State.Tells [] s (s.answer bodies).1 := by
  unfold State.answer
  split
  · exact .refl _ s
  · exact .of_same (s.enqueue_same bodies)

theorem State.startTrace_tells (s : State) (lane count : Nat) : State.Tells [] s (s.startTrace lane count).1 := by
  unfold State.startTrace
  split
  · exact .refl _ s
  · split
    · exact (s.setTrace_work _).tells
    · exact .refl _ s

/-- A command that is obeyed tells what its owner tells (R175, R176). -/
theorem State.obey_tells {l : List Block} (s : State) (c : Command) (inFault : Bool) {owner : State → State × ResultCode}
    (h : ∀ t : State, State.Tells l t (owner t).1) : State.Tells l s (s.obey c inFault owner) := by
  unfold State.obey
  split
  · split
    · exact (h s).before (State.record_tells _ _ _)
    · exact (State.Tells.refl l s).before (s.record_tells _ _)
  · exact .refl _ s

theorem State.clearReason_tells (s : State) (c : Chan) (raised : Option FaultKind) (endFirst : Bool) :
    State.Tells [] s (s.clearReason c raised endFirst) := by
  unfold State.clearReason
  split
  · exact .of_same (s.exchangeFaults_same _ _ _ _)
  · exact .of_same (s.endFault_same _ _)
  · exact .of_same (s.raiseFault_same _ _)
  · exact .refl _ s

theorem State.prove_tells (s : State) (c : Chan) (raised : Option FaultKind) (endFirst : Bool) :
    State.Tells [] s (s.prove c raised endFirst) :=
  (s.clearReason_tells c raised endFirst).trans (.of_same (State.setChannel_same _ c _))

theorem State.retry_tells (s : State) (c : Chan) : State.Tells [] s (s.retry c) :=
  (State.Tells.of_same (s.beginAttempt_same c)).trans (.of_same (State.noteDisplacement_same _ _))

end Sys2Proof.Machine
end

section
/-!
PROOFS. The outcome of a command keeps the plan step in range and speed control in tune with its terms (R82 to R87, R92): the
reception of frames, the commands of the centre, the line and the neighbour table.
-/
namespace Sys2Proof.Machine
-- One proof at a time: the threads of parallel proofs exceed the memory limit of the check.
set_option Elab.async false

/-! ### The outcome of a command -/

/-- A command's outcome keeps the steps in range and speed control in tune. -/
def PaceKept (s : State) (r : Result) : Prop := ∀ t, r = .next t → s.Paced → t.Paced

theorem State.Paced.advance {s : State} (h : s.Paced) (dt : Nat) : (s.advance dt).Paced := h.of_tells (s.advance_tells dt)

theorem PaceKept.next {s t : State} {dt : Nat} (h : (s.advance dt).Paced → t.Paced) : PaceKept s (.next t) := by
  rintro _ ⟨⟩ hs
  exact h (hs.advance dt)

/-- A command that tells nothing. -/
theorem PaceKept.quiet {s t : State} {dt : Nat} (h : State.Tells [] (s.advance dt) t) : PaceKept s (.next t) :=
  .next fun hs => hs.of_tells h

theorem PaceKept.idle {s : State} {dt : Nat} : PaceKept s (.next (s.advance dt)) := .quiet (.refl _ _)

/-- A command that works in blocks which tell nothing. -/
theorem PaceKept.aside {s t : State} {dt : Nat} {l : List Block} (h : SameOutside l (s.advance dt) t)
    (hl : ∀ b ∈ [Block.station, .neighbours, .closures, .queue, .speed], b ∉ l := by decide) : PaceKept s (.next t) :=
  .quiet (.of_same h hl)

/-- A command whose step is told to the readers. -/
theorem PaceKept.settled {s t : State} {dt : Nat} {l : List Block} {late : List Reader} (h : State.Tells l (s.advance dt) t) :
    PaceKept s (.next (t.settle (s.advance dt) late)) := .next fun hs => hs.settle h late

theorem PaceKept.guarded {s t : State} {dt : Nat} {c : Prop} [Decidable c] (h : c → PaceKept s (.next t)) :
    PaceKept s (if c then .next t else .next (s.advance dt)) := by
  split
  · next hc => exact h hc
  · exact .idle

theorem PaceKept.setLine {s : State} {dt : Nat} {x : Line} : PaceKept s (.next ((s.advance dt).setLine x)) :=
  .aside ((s.advance dt).setLine_same x)

theorem State.loseFrame_tells (s : State) : State.Tells [] s s.loseFrame := .of_same (s.setLine_same _)

/-! ### The reception of a frame -/

/-- A frame that is heard tells the mode of its arrival, and then what its delivery tells. -/
theorem State.Paced.receive {s : State} (hp : s.Paced) (f : Frame) (o : Order) {deliver : State → State}
    (h : ∀ u, State.UnderWay s [.station] u → ∃ l, State.UnderWay s l (deliver u)) : (s.receive f o deliver).Paced := by
  unfold State.receive
  split
  · split
    · exact hp.of_tells s.loseFrame_tells
    · have hidle : State.Tells [] s (s.setLine (s.line.toIdle s.clock)) := .of_same (s.setLine_same _)
      obtain ⟨l, hdelivered⟩ := h _ ((hp.underWay.act ((State.noteArrival_tells _ f.source.toNat).after hidle) nofun).serveSome o.early)
      exact hdelivered.settle o.late
  · exact hp

theorem State.heard_paced (s : State) (dt : Nat) (f : Frame) :
    PaceKept s (.next ((s.advance dt).receive f Order.plain (fun t => t))) :=
  .next fun hs => hs.receive f Order.plain fun _ hu => ⟨_, hu⟩

/-- A readable status record tells the neighbour table and the closure table, in either order (R62, R113). -/
theorem State.UnderWay.takeStatus {before s : State} (h : State.UnderWay before [.station] s) (n : Nat) (body : List Octet) (o : Order) :
    ∃ l, State.UnderWay before l (s.takeStatus before n body o) := by
  unfold State.takeStatus
  split
  · split
    · next r hr =>
      have hsteps := readStatus_stepsInRange hr
      exact h.inOrder o (fun t => t.storeRecord_tells n hsteps) (fun t => t.learn_tells n hsteps)
    · exact ⟨_, h⟩
  · exact ⟨_, h⟩

theorem execStatusFrame_paced (dt : Nat) (cls : BitVec 2) (source : BitVec 6) (body : List Octet) (o : Order) (s : State) :
    PaceKept s (execStatusFrame dt cls source body o s) :=
  .next fun hs => hs.receive _ o fun _ hu => hu.takeStatus source.toNat body o

/-! ### The commands of the centre -/

/-- A command is obeyed by an owner that tells what the arrival of the command has not told (R175, R176). -/
theorem State.command_paced (s : State) (dt : Nat) (c : Command) (body : List Octet) (o : Order) (inFault : Bool) (l : List Block)
    {owner : State → State × ResultCode} (h : ∀ t : State, State.Tells l t (owner t).1) (hl : Block.station ∉ l := by decide) :
    PaceKept s (.next ((s.advance dt).command c body o inFault owner)) :=
  .next fun hs => hs.receive _ o fun u hu =>
    ⟨_, hu.act (u.obey_tells c inFault h) fun _ hb => List.mem_singleton.mp hb ▸ hl⟩

theorem execCommandNotAddressed_paced (dt : Nat) (kind : BitVec 4) (body : List Octet) (s : State) :
    PaceKept s (execCommandNotAddressed dt kind body s) := by
  unfold execCommandNotAddressed
  dsimp only
  split
  · split
    · split
      · exact .idle
      · exact s.heard_paced dt _
    · exact s.heard_paced dt _
  · exact .idle

theorem execCloseSet_paced (dt : Nat) (origin serial lanes taper extent step : Octet) (o : Order) (s : State) :
    PaceKept s (execCloseSet dt origin serial lanes taper extent step o s) :=
  s.command_paced dt _ _ o false [.closures] fun t => t.closeSet_tells _ (Nat.min_le_right _ 6)

theorem execShoulderOtherAction_paced (dt : Nat) (low high action : Octet) (s : State) :
    PaceKept s (execShoulderOtherAction dt low high action s) := by
  unfold execShoulderOtherAction
  dsimp only
  split
  · exact .idle
  · exact s.command_paced dt _ _ _ _ [] fun t => by rw [t.takeOtherAction_eq]; exact .refl _ t

theorem execFaultAck_paced (dt : Nat) (station kind unit : Octet) (s : State) : PaceKept s (execFaultAck dt station kind unit s) := by
  unfold execFaultAck
  dsimp only
  split
  · exact .idle
  · exact s.command_paced dt _ _ _ _ [] fun t => t.acknowledgeKey_tells _ _

theorem execRequestOtherType_paced (dt : Nat) (station type lane count : Octet) (s : State) :
    PaceKept s (execRequestOtherType dt station type lane count s) := by
  unfold execRequestOtherType
  dsimp only
  split
  · exact .idle
  · exact s.command_paced dt _ _ _ _ [] (State.Tells.refl _)

/-! ### The line interface -/

theorem execTransmitStart_paced (dt : Nat) (s : State) : PaceKept s (execTransmitStart dt s) := by
  unfold execTransmitStart
  dsimp only
  split
  · split
    · exact .setLine
    · exact .idle
  · exact .idle

theorem execArbitrationLost_paced (dt : Nat) (mark : LostMark) (s : State) : PaceKept s (execArbitrationLost dt mark s) := by
  unfold execArbitrationLost
  dsimp only
  split
  · exact .guarded fun _ => .setLine
  · exact .idle

theorem execTransmitAbort_paced (dt : Nat) (cause : AbortCause) (s : State) : PaceKept s (execTransmitAbort dt cause s) := by
  unfold execTransmitAbort
  dsimp only
  split
  · exact .guarded fun _ => .setLine
  · exact .idle

theorem execTransmitComplete_paced (sent : SentMarks) (s : State) : PaceKept s (execTransmitComplete sent s) := by
  unfold execTransmitComplete
  dsimp only
  split
  · exact .guarded fun _ => .setLine
  · exact .idle

theorem execArbitrationWon_paced (sent : SentMarks) (s : State) : PaceKept s (execArbitrationWon sent s) := by
  unfold execArbitrationWon
  dsimp only
  split
  · exact .guarded fun _ => .setLine
  · exact .idle

theorem execLapse_paced (dt : Nat) (holds : List Nat) (s : State) : PaceKept s (execLapse dt holds s) := by
  unfold execLapse
  dsimp only
  split
  · exact .guarded fun _ => .quiet ((State.loseFrame_tells _).trans (.of_same (State.setLine_same _ _)))
  · exact .idle

theorem execFrameAborted_paced (dt : Nat) (holds : List Nat) (s : State) : PaceKept s (execFrameAborted dt holds s) := by
  unfold execFrameAborted
  dsimp only
  split
  · exact .quiet (State.loseFrame_tells _)
  · exact .idle

theorem execFrameLengthRejected_paced (dt : Nat) (holds : List Nat) (s : State) : PaceKept s (execFrameLengthRejected dt holds s) := by
  unfold execFrameLengthRejected
  dsimp only
  split
  · exact .quiet (State.loseFrame_tells _)
  · exact .idle

theorem execFirstHoldWrongClass_paced (dt held : Nat) (s : State) : PaceKept s (execFirstHoldWrongClass dt held s) := by
  unfold execFirstHoldWrongClass
  dsimp only
  split
  · exact .setLine
  · exact .idle

theorem State.stuckIsolated_tells (s : State) (holds : List Nat) : State.Tells [.station] s (s.stuckIsolated holds) := by
  have hmade : State.Tells [] s (s.madeLineStuck holds) := .of_same (s.madeLineStuck_same holds)
  unfold State.stuckIsolated
  split
  · exact (State.becomeIsolated_tells _).after hmade
  · exact hmade.narrow

theorem execLineStuck_paced (dt : Nat) (holds : List Nat) (o : Order) (s : State) : PaceKept s (execLineStuck dt holds o s) := by
  have hsettled : PaceKept s (.next (((s.advance dt).stuckIsolated holds).settle (s.advance dt) o.late)) :=
    .settled ((s.advance dt).stuckIsolated_tells holds)
  exact .guarded fun _ => hsettled

theorem execLineStuckEnd_paced (dt : Nat) (s : State) : PaceKept s (execLineStuckEnd dt s) :=
  .guarded fun _ => .quiet ((State.Tells.of_same (State.setLine_same _ _)).trans (.of_same (State.endFault_same _ _ _)))

/-! ### The neighbour table -/

theorem execNeighbourExpiry_paced (dt : Nat) (station : Nat) (s : State) : PaceKept s (execNeighbourExpiry dt station s) := by
  unfold execNeighbourExpiry
  dsimp only
  split
  · exact .guarded fun _ => .quiet ((s.advance dt).makeStale_tells station)
  · exact .idle

theorem execNeighbourRemoval_paced (dt : Nat) (station : Nat) (o : Order) (s : State) :
    PaceKept s (execNeighbourRemoval dt station o s) := by
  unfold execNeighbourRemoval
  dsimp only
  split
  · exact .guarded fun _ => .settled (((s.advance dt).removeEntry_tells station).before (.of_same (State.raiseFault_same _ _ _)))
  · exact .idle

theorem execIsolationTimerExpiry_paced (dt : Nat) (o : Order) (s : State) : PaceKept s (execIsolationTimerExpiry dt o s) :=
  .guarded fun _ => .settled ((State.becomeIsolated_tells _).after ((s.advance dt).setNeighbours_tells_nothing _ rfl))

end Sys2Proof.Machine
end

section
/-!
PROOFS. The outcome of the other commands keeps the plan step in range and speed control in tune with its terms (R82 to R87, R92):
the detector unit, the sign channels, speed control itself and station control.
-/
namespace Sys2Proof.Machine
-- One proof at a time: the threads of parallel proofs exceed the memory limit of the check.
set_option Elab.async false

/-! ### The detector unit and the arithmetic unit -/

theorem State.setInput_tells (s : State) (l : Loop) (level : Bool) : State.Tells [] s (s.setInput l level) :=
  .of_same (s.setInput_same l level)

theorem execLoopPresenceStart_paced (dt : Nat) (l : Loop) (s : State) : PaceKept s (execLoopPresenceStart dt l s) := by
  have hinput := (s.advance dt).setInput_tells l true
  unfold execLoopPresenceStart
  dsimp only
  split
  · exact .idle
  · split
    · exact .quiet (hinput.trans (.of_same (State.setLoop_same _ l _)))
    · exact .quiet hinput

theorem execQualifiedOnEdge_paced (dt : Nat) (l : Loop) (s : State) : PaceKept s (execQualifiedOnEdge dt l s) := by
  unfold execQualifiedOnEdge
  dsimp only
  split
  · exact .guarded fun _ => .settled ((s.advance dt).qualifyInOrder_tells l _)
  · exact .idle

theorem execReleaseEdge_paced (dt : Nat) (l : Loop) (s : State) : PaceKept s (execReleaseEdge dt l s) := by
  have hinput := (s.advance dt).setInput_tells l false
  unfold execReleaseEdge
  dsimp only
  split
  · split
    · split
      · next p _ =>
        split
        · exact .settled (hinput.trans (State.releaseQualified_tells _ l))
        · split
          · exact .settled ((hinput.trans (State.qualifyInOrder_tells _ l p)).trans (State.releaseQualified_tells _ l))
          · exact .quiet (hinput.trans (.of_same (State.setLoop_same _ l _)))
      · exact .quiet hinput
    · exact .quiet hinput
  · exact .idle

theorem execPresenceTimeout_paced (dt : Nat) (l : Loop) (endFirst : Bool) (s : State) :
    PaceKept s (execPresenceTimeout dt l endFirst s) := by
  have hstuck (c : Prop) [Decidable c] (x : LoopRecord) (d : LaneDetector) : State.Tells [] (s.advance dt)
      (if c then ((s.advance dt).setLoop l x).setLane l.lane d else (s.advance dt).setLoop l x) := by
    have hloop : State.Tells [] (s.advance dt) ((s.advance dt).setLoop l x) := .of_same (State.setLoop_same _ l x)
    split
    · exact hloop.trans (State.setLane_work _ _ _).tells
    · exact hloop
  unfold execPresenceTimeout
  dsimp only
  split
  · refine .guarded fun _ => .settled ((State.settleMode_tells _ _ _).after ?_)
    split
    · exact (hstuck _ _ _).trans (.of_same (State.raiseFault_same _ _ _))
    · exact (hstuck _ _ _).trans (.of_same (State.exchangeFaults_same _ _ _ _ _))
    · exact hstuck _ _ _
  · exact .idle

theorem execPairingDeadline_paced (dt : Nat) (k : Lane) (s : State) : PaceKept s (execPairingDeadline dt k s) :=
  .guarded fun _ => .quiet (((s.advance dt).setArrivals_laneWork k _).trans (State.drainArrivals_laneWork _ k)).work.tells

theorem execIntervalEnd_paced (dt : Nat) (lanes : List Lane) (loops : List Loop) (s : State) :
    PaceKept s (execIntervalEnd dt lanes loops s) := by
  unfold execIntervalEnd
  dsimp only
  split
  · exact .guarded fun _ => .settled ((s.advance dt).closeInterval_tells _ lanes loops)
  · exact .idle

theorem execVehicleRequestCompletion_paced (dt : Nat) (o : Order) (s : State) : PaceKept s (execVehicleRequestCompletion dt o s) := by
  unfold execVehicleRequestCompletion
  dsimp only
  split
  · exact .settled ((State.finishRecord_tells _ _).after (.of_same (State.setRequests_same _ _)))
  · exact .idle

theorem State.computeMeasures_tells (s : State) : State.Tells [] s s.computeMeasures := .of_eq rfl rfl rfl rfl rfl

/-- The station evaluation tells the demand and the queue state, in either order (R38, R96). -/
theorem State.UnderWay.completeInterval {before s : State} (h : State.UnderWay before [] s) (k : Lane) (x : Snapshot)
    (rest : List Request) (o : Order) (hb : before = s) : ∃ l, State.UnderWay before l (s.completeInterval k x rest o) := by
  subst hb
  have hrecord : State.Tells [] before (before.recorded k x rest) := .of_same (before.recorded_same k x rest)
  unfold State.completeInterval
  dsimp only
  split
  · have hmeasures : State.Tells [] before (before.recorded k x rest).computeMeasures.markEvaluation :=
      (hrecord.trans (State.computeMeasures_tells _)).trans (State.markEvaluation_tells _)
    exact (h.act hmeasures).inOrder o State.takeMeasures_tells State.evaluateQueue_tells
  · exact ⟨_, h.act hrecord⟩

theorem execIntervalRequestCompletion_paced (dt : Nat) (o : Order) (s : State) :
    PaceKept s (execIntervalRequestCompletion dt o s) := by
  unfold execIntervalRequestCompletion
  dsimp only
  split
  · next k x rest _ =>
    refine .next (dt := dt) fun hs => ?_
    obtain ⟨l, hdone⟩ := hs.underWay.completeInterval k x rest o rfl
    exact hdone.settle o.late
  · exact .idle

theorem execTraceFramePlaced_paced (dt : Nat) (s : State) : PaceKept s (execTraceFramePlaced dt s) :=
  .guarded fun _ => .quiet ((State.setTrace_work _ _).tells.trans (.of_same (State.enqueue_same _ _)))

/-! ### The shoulder and the sign channels -/

theorem execCheckTimerExpiry_paced (dt : Nat) (s : State) : PaceKept s (execCheckTimerExpiry dt s) :=
  .guarded fun _ => .settled (.of_same (State.moveShoulder_same _ _))

theorem execClearanceTimerExpiry_paced (dt : Nat) (s : State) : PaceKept s (execClearanceTimerExpiry dt s) :=
  .guarded fun _ => .settled (.of_same (State.moveShoulder_same _ _))

theorem State.identify_tells (s : State) (c : Chan) : State.Tells [] s (s.identify c) := .of_eq rfl rfl rfl rfl rfl

theorem State.sendAgain_tells (s : State) (c : Chan) : State.Tells [] s (s.sendAgain c) := .of_eq rfl rfl rfl rfl rfl

theorem State.markIdentified_tells (s : State) (c : Chan) : State.Tells [] s (s.markIdentified c) := .of_same (s.setChannel_same c _)

theorem State.enterMismatch_tells (s : State) (c : Chan) (endFirst : Bool) : State.Tells [] s (s.enterMismatch c endFirst) :=
  .of_same (s.enterMismatch_same c endFirst)

theorem State.enterFailed_tells (s : State) (c : Chan) (reason : FailureReason) (endFirst : Bool) :
    State.Tells [] s (s.enterFailed c reason endFirst) := .of_same (s.enterFailed_same c reason endFirst)

theorem execIdentity_paced (dt : Nat) (c : Chan) (kind : Octet) (check : BitVec 16) (endFirst : Bool) (s : State) :
    PaceKept s (execIdentity dt c kind check endFirst s) := by
  have hmismatch := (s.advance dt).enterMismatch_tells c endFirst
  unfold execIdentity
  dsimp only
  split
  · split
    · split
      · exact .quiet (State.identify_tells _ c)
      · exact .quiet hmismatch
    · split
      · split
        · exact .quiet (State.markIdentified_tells _ c)
        · exact .quiet (hmismatch.trans (State.tryCommit_tells _))
      · exact .idle
  · exact .idle

theorem execIdentificationDeadline_paced (dt : Nat) (c : Chan) (s : State) : PaceKept s (execIdentificationDeadline dt c s) :=
  .guarded fun _ => .quiet (State.enterFailed_tells _ c _ _)

theorem execProvingReport_paced (dt : Nat) (c : Chan) (set result : Octet) (check : BitVec 16) (endFirst : Bool) (s : State) :
    PaceKept s (execProvingReport dt c set result check endFirst s) := by
  unfold execProvingReport
  dsimp only
  split
  · split
    · exact .quiet ((State.prove_tells _ c _ endFirst).trans (State.tryCommit_tells _))
    · exact .quiet ((State.prove_tells _ c _ endFirst).trans (State.tryCommit_tells _))
    · exact .quiet ((State.enterFailed_tells _ c _ endFirst).trans (State.tryCommit_tells _))
    · exact .idle
  · exact .idle

theorem execProvingDeadline_paced (dt : Nat) (c : Chan) (endFirst : Bool) (s : State) :
    PaceKept s (execProvingDeadline dt c endFirst s) :=
  .guarded fun _ => .quiet ((State.enterFailed_tells _ c _ endFirst).trans (State.tryCommit_tells _))

theorem execRetryTimerExpiry_paced (dt : Nat) (c : Chan) (s : State) : PaceKept s (execRetryTimerExpiry dt c s) :=
  .guarded fun _ => .quiet ((s.advance dt).retry_tells c)

theorem execRestartNotice_paced (dt : Nat) (c : Chan) (kind : Octet) (check : BitVec 16) (endFirst : Bool) (s : State) :
    PaceKept s (execRestartNotice dt c kind check endFirst s) := by
  have hmismatch := (s.advance dt).enterMismatch_tells c endFirst
  have hblank : PaceKept s (.next ((s.advance dt).send [(s.advance dt).blankMessage c])) := .aside (State.send_same _ _)
  have hagain : PaceKept s (.next (if kind = expectedKind c then ((s.advance dt).markIdentified c).retry c
      else (s.advance dt).enterMismatch c endFirst)) := by
    split
    · exact .quiet ((State.markIdentified_tells (s.advance dt) c).trans (State.retry_tells _ c))
    · exact .quiet hmismatch
  unfold execRestartNotice
  dsimp only
  split
  · split
    · exact hblank
    · split
      · split
        · exact .idle
        · split
          · exact .quiet (State.identify_tells _ c)
          · exact .quiet hmismatch
        · split
          · exact .quiet (State.sendAgain_tells _ c)
          · exact .quiet (hmismatch.trans (State.tryCommit_tells _))
        · exact hagain
        · exact hagain
        · exact hblank
      · exact .idle
  · exact .idle

/-! ### Speed control -/

/-- At its expiry the hold lets the plan step fall to the bound, which the terms still give (R87). -/
theorem State.Paced.fall {s : State} (h : s.Paced) (ha : s.acting = true) : s.fall.updateEnd.Paced := by
  have hattuned := h.attuned ha
  have hcapped (hf : s.fall.updateEnd.acting = true) : s.fall.updateEnd.Capped := .congr (s := s) rfl rfl (h.inRange.capped hf)
  refine ⟨⟨h.inRange.steps, hcapped, le_refl _, h.inRange.bound.trans h.inRange.planStep⟩, fun _ => ⟨hattuned.term, ?_, rfl⟩⟩
  have hbound : s.fall.updateEnd.lowerBound = s.lowerBound := s.lowerBound_setSpeed _ rfl rfl
  rw [hbound, ← hattuned.bound]
  rfl

theorem execHoldExpiry_paced (dt : Nat) (s : State) : PaceKept s (execHoldExpiry dt s) := by
  unfold execHoldExpiry
  dsimp only
  split
  · next hc =>
    rw [Bool.and_eq_true] at hc
    split
    · exact .next fun hs => (hs.fall hc.1).of_tells (.of_same (State.serveComposer_same _))
    · exact .quiet (.of_told ⟨rfl, rfl, rfl, rfl, rfl, rfl⟩ fun b => by cases b <;> trivial)
  · exact .idle

theorem execOverride_paced (dt : Nat) (low high step legend : Octet) (minutes : BitVec 16) (o : Order) (s : State) :
    PaceKept s (execOverride dt low high step legend minutes o s) :=
  s.command_paced dt _ _ o false [.speed] fun t => t.takeOverride_tells _ _ _

theorem execOverrideExpiry_paced (dt : Nat) (o : Order) (s : State) : PaceKept s (execOverrideExpiry dt o s) :=
  .guarded fun _ => .settled ((s.advance dt).setOverride_tells none nofun)

end Sys2Proof.Machine
end

section
/-!
PROOFS. The sound plan step (R82 to R87, R92): station control, and every command.
-/
namespace Sys2Proof.Machine
-- One proof at a time: the threads of parallel proofs exceed the memory limit of the check.
set_option Elab.async false

/-! ### Station control outside WARMING, RUNNING and ISOLATED -/

/-- While the station does not act, only the steps that it holds count. -/
theorem State.Paced.atRest {s t : State} {l : List Block} (hp : s.Paced) (h : SameOutside l s t) (ha : t.acting = false)
    (hl : Block.neighbours ∉ l ∧ Block.speed ∉ l := by decide) : t.Paced := by
  have hacts : t.acting ≠ true := fun h => nomatch h.symm.trans ha
  have hspeed : t.speed = s.speed := h .speed hl.2
  have hsteps := State.stepsSound_congr (Block.told_of_same (h .speed hl.2)) (Block.told_of_same (h .neighbours hl.1)) hp.inRange.steps
  exact ⟨⟨hsteps, fun h => absurd h hacts, hspeed ▸ hp.inRange.bound, hspeed ▸ hp.inRange.planStep⟩, fun h => absurd h hacts⟩

/-- A reset holds no step but 0 (R174). -/
theorem State.restart_paced (s : State) (straps : Straps) : PaceKept s (.next (s.restart straps)) := by
  rintro _ ⟨⟩ -
  have hspeed : (s.restart straps).speed = Speed.reset := by
    unfold State.restart
    dsimp only
    split <;> rfl
  have hneighbours : (s.restart straps).neighbours = Neighbours.reset := by
    unfold State.restart
    dsimp only
    split <;> rfl
  have hmode : (s.restart straps).mode = .starting := by
    unfold State.restart
    dsimp only
    split <;> rfl
  have hacts : (s.restart straps).acting ≠ true := by
    rw [State.acting, hmode]
    exact nofun
  refine ⟨⟨?_, fun h => absurd h hacts, ?_, ?_⟩, fun h => absurd h hacts⟩
  · unfold State.stepsSound
    rw [hspeed, hneighbours]
    exact ⟨Nat.zero_le 6, fun _ h => (nomatch h), fun _ h => absurd h List.not_mem_nil⟩
  · rw [hspeed]
    exact le_refl 0
  · rw [hspeed]
    exact Nat.zero_le 6

theorem State.handOver_same (s : State) : SameOutside [.signs] s s.handOver := by
  have hchannel (t : State) (c : Chan) : SameOutside [.signs] t (t.handOverChannel c) := by
    unfold State.handOverChannel
    split
    · exact (t.setChannel_same c _).trans (State.send_same _ _) (fun _ h => h) (by decide)
    · exact t.setChannel_same c _
  refine SameOutside.trans (m := [.signs]) (l := [.signs]) ?_ (.foldl hchannel Chan.all _) (fun _ h => h) (fun _ h => h)
  intro b hb
  cases b
  case signs => exact absurd (by decide) hb
  all_goals rfl

/-- After the start-up check the station is starting or in CONFIG_FAULT (R165 to R167). -/
theorem execStartUpCheck_paced (dt : Nat) (image : List Octet) (s : State) : PaceKept s (execStartUpCheck dt image s) := by
  have hfault (u : State) (hu : SameOutside [.station, .faults] (s.advance dt) u) : PaceKept s (.next u.enterConfigFault) := by
    obtain ⟨hstation, -, -, -, -, hsame⟩ := u.enterConfigFault_spec
    have hrest : u.enterConfigFault.acting = false := congrArg (fun c : Station => c.mode.acting) hstation
    exact .next fun hs => hs.atRest (hu.trans hsame (n := [.station, .faults, .signs, .line, .free]) (by decide) (by decide)) hrest
  unfold execStartUpCheck
  dsimp only
  split
  · next hc =>
    simp only [Bool.and_eq_true, beq_iff_eq] at hc
    have hm : s.mode = .starting := hc.1.1
    split
    · unfold State.judgeImage
      dsimp only
      rw [State.raiseImageFaults_eq]
      split
      · generalize hu : State.setStation _ _ = u
        have hjudged : SameOutside [.station, .faults] (s.advance dt) u := by
          subst hu
          intro b hb
          cases b
          case station | faults => exact absurd (by decide) hb
          all_goals rfl
        have hmode : u.mode = s.mode := by
          subst hu
          rfl
        have hrest : u.handOver.acting = false := by
          rw [State.acting_of_told (Block.told_of_same (u.handOver_same .station (by decide))), State.acting, hmode, hm]
          rfl
        exact .next fun hs => hs.atRest (hjudged.trans u.handOver_same (n := [.station, .faults, .signs]) (by decide) (by decide)) hrest
      · refine hfault _ fun b hb => ?_
        cases b
        case station | faults => exact absurd (by decide) hb
        all_goals rfl
    · exact hfault _ ((State.raiseFault_same _ _ _).mono (by decide))
  · exact .idle

theorem State.restoreSlot_same (s : State) (p : Pos) : SameOutside [.faults, .retention, .closures] s (s.restoreSlot p) := by
  unfold State.restoreSlot
  split
  · exact .refl _ s
  · exact (s.markDirty_same p).mono (by decide)
  · exact (s.raiseFault_same _ _).trans (State.markDirty_same _ p) (by decide) (by decide)
  · exact (s.setClosures_same _).mono (by decide)

/-- The restore ends in the mode in which it began (R173). -/
theorem execRestoreComplete_paced (dt : Nat) (s : State) : PaceKept s (execRestoreComplete dt s) := by
  have hslots : SameOutside [.faults, .retention, .closures] (s.advance dt) (Pos.all.foldl State.restoreSlot (s.advance dt)) :=
    .foldl State.restoreSlot_same _ _
  unfold execRestoreComplete
  dsimp only
  generalize Pos.all.foldl State.restoreSlot (s.advance dt) = u at hslots ⊢
  refine .guarded fun hc => ?_
  simp only [Bool.and_eq_true, beq_iff_eq] at hc
  have hm : s.mode = .starting := hc.1.1
  generalize hv : u.setStation { u.station with restored := true } = v
  have hrestored : SameOutside [.faults, .retention, .closures, .station] (s.advance dt) v :=
    hslots.trans (hv ▸ u.setStation_same _) (by decide) (by decide)
  have hmode : v.mode = s.mode := by
    subst hv
    have hstation : u.station = s.station := hslots .station (by decide)
    show u.station.mode = s.station.mode
    rw [hstation]
  have hrest : v.startWrite.acting = false := by
    rw [State.acting_of_told (Block.told_of_same (v.startWrite_same .station (by decide))), State.acting, hmode, hm]
    rfl
  exact .next fun hs => hs.atRest (hrestored.trans v.startWrite_same (fun _ h => h) (by decide)) hrest

/-! ### WARMING and its end -/

/-- The entry into WARMING begins to act with sound steps, and its report lets speed control take up its terms (R86, R168). -/
theorem execWarmingEntry_paced (dt : Nat) (s : State) (hstation : s.station.sound) (hclosures : s.closuresSound) :
    PaceKept s (execWarmingEntry dt s) := by
  refine .guarded fun hc => .next (dt := dt) fun hs => ?_
  simp only [Bool.and_eq_true, beq_iff_eq] at hc
  have hm : (s.advance dt).mode = .starting := hc.1.1.1
  have hstarted : State.UnderWay (s.advance dt) [.station] (s.advance dt).warmingStarted := by
    refine ⟨fun b hb => ?_, ⟨hs.inRange.steps, fun _ => ?_, hs.inRange.bound, hs.inRange.planStep⟩, fun _ hall => ?_⟩
    · cases b
      case station => exact absurd (List.mem_singleton.mpr rfl) hb
      case speed => exact ⟨rfl, rfl⟩
      case neighbours | closures | queue => exact rfl
      all_goals trivial
    · exact .congr (s := s) rfl rfl (State.capped_of_sound hstation hclosures hc.1.1.2)
    · have hmode : (s.advance dt).warmingStarted.mode = (s.advance dt).mode := hall .station
      exact nomatch hmode.trans hm
  exact hstarted.settle []

theorem execWarmUpTimerExpiry_paced (dt : Nat) (s : State) : PaceKept s (execWarmUpTimerExpiry dt s) :=
  .guarded fun _ => .quiet ((s.advance dt).setStation_tells _ rfl rfl rfl)

theorem State.exited_tells (s : State) (h : s.acting = true) : State.Tells [.station] s s.exited := by
  unfold State.exited
  split <;> exact s.setMode_tells _ h.symm

/-- The exit tells the mode and then, at an evaluation of the same moment, the demand (R71, R77, R169). -/
theorem execWarmingExit_paced (dt : Nat) (modeFirst : Bool) (o : Order) (s : State) : PaceKept s (execWarmingExit dt modeFirst o s) := by
  refine .guarded fun hc => .next (dt := dt) fun hs => ?_
  simp only [Bool.and_eq_true, beq_iff_eq] at hc
  have ha : (s.advance dt).acting = true := congrArg Mode.acting hc.1.1
  have hexited := hs.underWay.act (State.exited_tells _ ha) nofun
  split
  · exact ((hexited.serveSome o.between).act (State.evaluateDemand_tells _)).settle o.late
  · exact hexited.settle o.late

theorem execSlotWriteCompletion_paced (dt : Nat) (s : State) : PaceKept s (execSlotWriteCompletion dt s) := by
  unfold execSlotWriteCompletion
  dsimp only
  split
  · exact .guarded fun _ => .quiet ((State.Tells.of_same (State.setRetention_same _ _)).trans (.of_same (State.startWrite_same _)))
  · exact .idle

/-! ### Every command -/

theorem exec_paceKept (i : Instr) (s : State) (hstation : s.station.sound) (hclosures : s.closuresSound) : PaceKept s (exec i s) := by
  cases i with
  | powerOnReset straps => exact s.restart_paced straps
  | resetPin straps => exact s.restart_paced straps
  | startUpCheck dt image => exact execStartUpCheck_paced dt image s
  | restoreComplete dt => exact execRestoreComplete_paced dt s
  | warmingEntry dt => exact execWarmingEntry_paced dt s hstation hclosures
  | warmUpTimerExpiry dt => exact execWarmUpTimerExpiry_paced dt s
  | warmingExit dt modeFirst o => exact execWarmingExit_paced dt modeFirst o s
  | loopPresenceStart dt l => exact execLoopPresenceStart_paced dt l s
  | qualifiedOnEdge dt l => exact execQualifiedOnEdge_paced dt l s
  | releaseEdge dt l => exact execReleaseEdge_paced dt l s
  | presenceTimeout dt l endFirst => exact execPresenceTimeout_paced dt l endFirst s
  | pairingDeadline dt k => exact execPairingDeadline_paced dt k s
  | intervalEnd dt lanes loops => exact execIntervalEnd_paced dt lanes loops s
  | vehicleRequestCompletion dt o => exact execVehicleRequestCompletion_paced dt o s
  | intervalRequestCompletion dt o => exact execIntervalRequestCompletion_paced dt o s
  | traceFramePlaced dt => exact execTraceFramePlaced_paced dt s
  | idleGap dt => exact .guarded fun _ => .setLine
  | transmitStart dt => exact execTransmitStart_paced dt s
  | arbitrationLost dt mark => exact execArbitrationLost_paced dt mark s
  | transmitAbort dt cause => exact execTransmitAbort_paced dt cause s
  | abortHoldEnd dt => exact .guarded fun _ => .setLine
  | transmitComplete sent => exact execTransmitComplete_paced sent s
  | publicationTimerExpiry dt => exact .guarded fun _ => .setLine
  | lapse dt holds => exact execLapse_paced dt holds s
  | frameAborted dt holds => exact execFrameAborted_paced dt holds s
  | frameRejected dt cls kind source body check => exact .guarded fun _ => .quiet (State.loseFrame_tells _)
  | lineStuck dt holds o => exact execLineStuck_paced dt holds o s
  | lineStuckEnd dt => exact execLineStuckEnd_paced dt s
  | statusFrame dt cls source body o => exact execStatusFrame_paced dt cls source body o s
  | reportFrameHeard dt cls source body => exact s.heard_paced dt _
  | neighbourExpiry dt station => exact execNeighbourExpiry_paced dt station s
  | neighbourRemoval dt station o => exact execNeighbourRemoval_paced dt station o s
  | isolationTimerExpiry dt o => exact execIsolationTimerExpiry_paced dt o s
  | holdExpiry dt => exact execHoldExpiry_paced dt s
  | override dt low high step legend minutes o => exact execOverride_paced dt low high step legend minutes o s
  | overrideExpiry dt o => exact execOverrideExpiry_paced dt o s
  | closeSet dt origin serial lanes taper extent step o => exact execCloseSet_paced dt origin serial lanes taper extent step o s
  | closeClear dt origin serial o => exact s.command_paced dt _ _ _ _ [.closures] fun t => t.closeClear_tells _ _
  | shoulderOpen dt low high o => exact s.command_paced dt _ _ _ _ [] fun t => .of_same t.takeOpen_work.same
  | shoulderClose dt low high o => exact s.command_paced dt _ _ _ _ [] fun t => .of_same t.takeClose_work.same
  | checkTimerExpiry dt => exact execCheckTimerExpiry_paced dt s
  | clearanceTimerExpiry dt => exact execClearanceTimerExpiry_paced dt s
  | faultAck dt station kind unit => exact execFaultAck_paced dt station kind unit s
  | faultAckAll dt station unit => exact s.command_paced dt _ _ _ _ [] fun _ => .of_eq rfl rfl rfl rfl rfl
  | requestFaults dt station lane count => exact s.command_paced dt _ _ _ _ [] fun t => t.answer_tells _
  | requestLanes dt station lane count => exact s.command_paced dt _ _ _ _ [] fun t => t.answer_tells _
  | requestTrace dt station lane count => exact s.command_paced dt _ _ _ _ [] fun t => t.startTrace_tells _ _
  | identity dt c kind check endFirst => exact execIdentity_paced dt c kind check endFirst s
  | identificationDeadline dt c => exact execIdentificationDeadline_paced dt c s
  | provingReport dt c set result check endFirst => exact execProvingReport_paced dt c set result check endFirst s
  | provingDeadline dt c endFirst => exact execProvingDeadline_paced dt c endFirst s
  | retryTimerExpiry dt c => exact execRetryTimerExpiry_paced dt c s
  | restartNotice dt c kind check endFirst => exact execRestartNotice_paced dt c kind check endFirst s
  | slotWriteCompletion dt => exact execSlotWriteCompletion_paced dt s
  | frameLengthRejected dt holds => exact execFrameLengthRejected_paced dt holds s
  | firstHoldWrongClass dt held => exact execFirstHoldWrongClass_paced dt held s
  | arbitrationWon sent => exact execArbitrationWon_paced sent s
  | commandNotAddressed dt kind body => exact execCommandNotAddressed_paced dt kind body s
  | shoulderOtherAction dt low high action => exact execShoulderOtherAction_paced dt low high action s
  | requestOtherType dt station type lane count => exact execRequestOtherType_paced dt station type lane count s

/-- Settles O12: between commands speed control is in tune with its terms, and every command ends there again. -/
theorem planStepIsNeverBelowItsBound : Obligations.PlanStepIsNeverBelowItsBound := by
  intro s t hstation hclosures hsteps hspeed ht
  have hpaced := State.paced_of_sound hstation hclosures hsteps hspeed
  unfold step at ht
  split at ht
  · next i rest _ =>
    have hrest : (s.setPending rest).Paced := State.paced_of_sound hstation hclosures hsteps hspeed
    exact (exec_paceKept i (s.setPending rest) hstation hclosures t ht hrest).sound
  · cases ht
    exact hpaced.sound

end Sys2Proof.Machine
end

section
/-!
PROOFS. The override record of speed control: its command and its expiry (R89, R90, R175, R176, log 15).
-/
namespace Sys2Proof.Machine
-- One proof at a time: the threads of parallel proofs exceed the memory limit of the check.
set_option Elab.async false

theorem exec_override_eq (dt : Nat) (low high step legend : Octet) (minutes : BitVec 16) (o : Order) (s : State) :
    exec (.override dt low high step legend minutes o) s = execOverride dt low high step legend minutes o s := rfl

theorem exec_overrideExpiry_eq (dt : Nat) (o : Order) (s : State) : exec (.overrideExpiry dt o) s = execOverrideExpiry dt o s := rfl

/-! ### What the owner makes of the record (R89) -/

/-- The record that an accepted OVERRIDE leaves: none for duration 0, and else one that ends after at most 240 minutes. -/
def overrideRecord (now step : Nat) (legend : Legend) (minutes : Nat) : Option Override :=
  if minutes = 0 then none else some { step := step, legend := legend, expires := now + min minutes 240 * 60 * second }

theorem State.takeOverride_refused (s : State) {step legend minutes : Nat} (h : 6 < step ∨ legendOf legend = none) :
    s.takeOverride step legend minutes = (s, .refusedRange) := by
  unfold State.takeOverride
  split
  · rfl
  · next hstep => rw [h.resolve_left hstep]

theorem State.takeOverride_accepted (s : State) {step legend minutes : Nat} {l : Legend} (hs : step ≤ 6) (hl : legendOf legend = some l) :
    s.takeOverride step legend minutes = (s.setOverride (overrideRecord s.clock step l minutes), .accepted) := by
  unfold State.takeOverride overrideRecord
  rw [if_neg (Nat.not_lt.mpr hs), hl]
  dsimp only
  split <;> rfl

/-- A range in which the station's number lies addresses it (R175). -/
theorem State.atOwner_addresses_override (s : State) (dt : Nat) (o : Order) (ha : s.acting = true) {low high : Nat}
    (step legend minutes : Nat) (hl : low ≤ s.own) (hu : s.own ≤ high) :
    (s.atOwner dt o).addresses (.override low high step legend minutes) = true := by
  unfold State.addresses
  rw [s.atOwner_own dt o ha]
  exact decide_eq_true ⟨hl, hu⟩

/-- Before the owner takes the command, the demand and the record are as they were. -/
theorem State.atOwner_speed (s : State) (dt : Nat) (o : Order) (ha : s.acting = true) :
    (s.atOwner dt o).speed.demand = s.speed.demand ∧ (s.atOwner dt o).speed.override = s.speed.override := by
  have harrived : Block.speed.told s (s.advance dt).arrived :=
    Block.told_of_same (((s.advance_same dt).trans (State.arrived_same _) (n := [.clock, .line, .neighbours, .station, .faults])
      (by decide) (by decide)) .speed (by decide))
  exact Block.told_trans harrived ((s.atOwner_served dt o ha).told .speed)

theorem State.atOwner_clock (s : State) (dt : Nat) (o : Order) (ha : s.acting = true) : (s.atOwner dt o).clock = s.clock + dt :=
  (s.atOwner_served dt o ha).clock.trans ((s.advance dt).arrived_same .clock (by decide))

/-! ### A command whose owner is speed control (R175, R176) -/

/-- What a command leaves behind that was handed over, and whose owner has made `w` of the state: speed control at most. -/
theorem State.commanded_of_speed (s w : State) (dt : Nat) (o : Order) (kind : CommandKind) (r : ResultCode) (ha : s.acting = true)
    (hw : SameOutside [.speed] (s.atOwner dt o) w) :
    let t := (w.record kind r).settle (s.advance dt) o.late
    s.commanded dt kind r t ∧ Block.speed.told w t ∧ Line.slotOnly (s.line.toIdle (s.clock + dt)) t.line ∧
      t.faults = s.faults.close .neighbourLost 63 ∧ SameOutside (andReaders [.clock, .station, .neighbours, .faults]) s t := by
  intro t
  obtain ⟨-, hneighbours, hfaults, hline, -⟩ := (s.advance dt).arrived_spec ha
  have hserved := s.atOwner_served dt o ha
  have hstation : w.station = { s.station with mode := s.mode.heard } := (hw .station (by decide)).trans (s.atOwner_station dt o ha)
  have hset : (w.record kind r).Served t := by
    refine (w.record kind r).settle_served _ o.late fun h => ?_
    have hm : w.station.mode = .isolated := h
    rw [hstation] at hm
    exact absurd hm (Mode.heard_ne_isolated _)
  have hclock : w.clock = s.clock + dt := (hw .clock (by decide)).trans (s.atOwner_clock dt o ha)
  have hslot : Line.slotOnly (s.line.toIdle (s.clock + dt)) w.line := by
    have hserve := (s.advance dt).arrived.serveSome_mayFlag (s.advance dt) o.early
    rw [hline] at hserve
    rw [show w.line = (s.atOwner dt o).line from hw .line (by decide)]
    exact Line.mayFlag_slotOnly hserve
  refine ⟨⟨hset.clock.trans hclock, ?_, ?_⟩, hset.told .speed, ?_, ?_, ?_⟩
  · exact (hset.same .neighbours (by decide)).trans ((hw .neighbours (by decide)).trans
      ((hserved.same .neighbours (by decide)).trans hneighbours))
  · rw [hset.station, State.record, State.setStation_station, hstation]
  · exact Line.slotOnly_trans hslot (Line.mayFlag_slotOnly ((w.record kind r).settle_mayFlag (s.advance dt) o.late))
  · exact hset.faults.trans ((hw .faults (by decide)).trans (hserved.faults.trans hfaults))
  · exact (((s.atOwner_same dt o ha).trans hw (fun _ x => x) (by decide)).trans (w.record_same kind r) (fun _ x => x)
      (by decide)).trans hset.same (fun _ x => x) (by decide)

/-- An OVERRIDE that is heard and addresses the station is handed to speed control, and its result is recorded. -/
theorem exec_override_of_heard {dt : Nat} {low high step legend : Octet} {minutes : BitVec 16} {o : Order} {s : State}
    (ha : s.acting = true) (ho : s.own ≠ 63) (hl : low.toNat ≤ s.own) (hu : s.own ≤ high.toNat)
    (hh : s.canHear (commandFrame .override [low, high, step, legend, highOctet minutes, lowOctet minutes]) = true) :
    exec (.override dt low high step legend minutes o) s =
      let w := (s.atOwner dt o).takeOverride step.toNat legend.toNat minutes.toNat
      .next ((w.1.record .override w.2).settle (s.advance dt) o.late) := by
  have hact : ((s.atOwner dt o).acting || false) = true := by rw [s.atOwner_acting dt o ha, Bool.true_or]
  have hcommand := (s.advance dt).command_of_addressed
    (.override low.toNat high.toNat step.toNat legend.toNat minutes.toNat)
    [low, high, step, legend, highOctet minutes, lowOctet minutes] o false
    (fun t => t.takeOverride step.toNat legend.toNat minutes.toNat) ho hh hact
    (s.atOwner_addresses_override dt o ha _ _ _ hl hu)
  exact (exec_override_eq ..).trans (congrArg Host.Outcome.next hcommand)

/-! ### The expiry (R90) -/

/-- When the remaining time has run out, the record goes, and every reader takes the report of it. -/
theorem exec_overrideExpiry_of_due {dt : Nat} {o : Order} {s : State} {r : Override} (ha : s.acting = true)
    (hr : s.speed.override = some r) (hd : r.expires ≤ s.clock + dt) :
    exec (.overrideExpiry dt o) s = .next (((s.advance dt).setOverride none).settle (s.advance dt) o.late) := by
  refine (exec_overrideExpiry_eq dt o s).trans (if_pos ?_)
  have hacting : (s.advance dt).acting = true := ha
  have hdue : (s.advance dt).due ((s.advance dt).speed.override.map (·.expires)) = true := by
    rw [show (s.advance dt).speed.override = some r from hr]
    exact decide_eq_true hd
  rw [hacting, hdue]
  rfl

theorem State.settle_removedOverride_attuned (s : State) (late : List Reader) {r : Override} (ha : s.acting = true)
    (hr : s.speed.override = some r) : ((s.setOverride none).settle s late).Attuned := by
  have hreported : (s.setOverride none).reported s = true := by
    have hchanged : (s.setOverride none).speed.override ≠ s.speed.override := hr ▸ nofun
    simp [State.reported, hchanged]
  rcases (s.setOverride none).settle_cases s late with ⟨-, -, e⟩ | ⟨hidle | hquiet, -⟩
  · rw [e]
    exact State.serveEvery_attuned _ s
  · exact nomatch ha.symm.trans hidle
  · exact nomatch hreported.symm.trans hquiet

/-- Settles O46: the command by what its owner makes of the record, the expiry by the report that the removed record is. -/
theorem overrideSetsItsRecordUntilItExpires : Obligations.OverrideSetsItsRecordUntilItExpires := by
  constructor
  · intro dt low high step legend minutes o s ha ho hl hu hh
    have hexec := exec_override_of_heard (dt := dt) (o := o) ha ho hl hu hh
    obtain ⟨hdemand, hoverride⟩ := s.atOwner_speed dt o ha
    by_cases hbad : 6 < step.toNat ∨ legendOf legend.toNat = none
    · rw [State.takeOverride_refused _ hbad] at hexec
      obtain ⟨hcommanded, htold, hslot, hfaults, hsame⟩ :=
        s.commanded_of_speed (s.atOwner dt o) dt o .override .refusedRange ha (.refl _ _)
      refine ⟨_, hexec, ?_, fun _ => htold.2.trans hoverride, fun l hs hlegend => ?_, htold.1.trans hdemand, hfaults, hslot, hsame⟩
      · rw [if_pos hbad]
        exact hcommanded
      · rcases hbad with h | h
        · omega
        · exact nomatch hlegend.symm.trans h
    · obtain ⟨hstep, hknown⟩ := not_or.mp hbad
      obtain ⟨k, hk⟩ := Option.ne_none_iff_exists'.mp hknown
      rw [State.takeOverride_accepted _ (Nat.le_of_not_lt hstep) hk] at hexec
      obtain ⟨hcommanded, htold, hslot, hfaults, hsame⟩ :=
        s.commanded_of_speed ((s.atOwner dt o).setOverride _) dt o .override .accepted ha (State.setSpeed_same _ _)
      refine ⟨_, hexec, ?_, fun h => absurd h hbad, fun l _ hlegend => ?_, htold.1.trans hdemand, hfaults, hslot, hsame⟩
      · rw [if_neg hbad]
        exact hcommanded
      · refine htold.2.trans ?_
        show overrideRecord (s.atOwner dt o).clock step.toNat k minutes.toNat = _
        rw [overrideRecord, s.atOwner_clock dt o ha, Option.some.inj (hk.symm.trans hlegend)]
        have hzero : minutes.toNat = 0 ↔ minutes = 0 := ⟨fun h => BitVec.eq_of_toNat_eq h, fun h => h ▸ rfl⟩
        simp only [hzero]
  · intro dt o s r ha hr hd
    have hattuned := (s.advance dt).settle_removedOverride_attuned o.late ha hr
    have hserved : ((s.advance dt).setOverride none).Served (((s.advance dt).setOverride none).settle (s.advance dt) o.late) :=
      State.settle_served _ _ o.late (State.notEntered_of_station rfl)
    obtain ⟨hdemand, hoverride⟩ := hserved.told .speed
    refine ⟨_, exec_overrideExpiry_of_due ha hr hd, hserved.clock, hoverride, hdemand, hattuned.bound, hattuned.condition,
      (State.settle_slotGrows _ _ o.late).1, ?_⟩
    exact ((s.advance_same dt).trans (State.setSpeed_same _ _) (n := [.clock, .speed]) (by decide) (by decide)).trans hserved.same
      (by decide) (by decide)

end Sys2Proof.Machine
end

section
/-!
PROOFS. The closure table, its slots, and what their soundness reads of station control: the operations of the other blocks leave
them as they are (R106 to R109, R171 to R173).
-/
namespace Sys2Proof.Machine
-- One proof at a time: the threads of parallel proofs exceed the memory limit of the check.
set_option Elab.async false

/-! ### The same closures held -/

/-- Two states with one closure table, one retention store, one own number and one mark of the restore, in the same mode or in two
modes in which the station acts. -/
structure State.SameHeld (s t : State) : Prop where
  closures : t.closures = s.closures
  retention : t.retention = s.retention
  own : t.own = s.own
  restored : t.station.restored = s.station.restored
  mode : t.mode = s.mode ∨ (s.acting = true ∧ t.acting = true)

theorem State.SameHeld.refl (s : State) : s.SameHeld s := ⟨rfl, rfl, rfl, rfl, .inl rfl⟩

theorem State.SameHeld.acting {s t : State} (h : s.SameHeld t) : t.acting = s.acting := by
  rcases h.mode with hm | ⟨hs, ht⟩
  · exact congrArg Mode.acting hm
  · exact ht.trans hs.symm

theorem State.SameHeld.trans {s t u : State} (h : s.SameHeld t) (k : t.SameHeld u) : s.SameHeld u where
  closures := k.closures.trans h.closures
  retention := k.retention.trans h.retention
  own := k.own.trans h.own
  restored := k.restored.trans h.restored
  mode := by
    rcases h.mode with hm | ⟨hs, ht⟩
    · exact k.mode.imp (·.trans hm) fun ⟨ha, hb⟩ => ⟨h.acting ▸ ha, hb⟩
    · exact .inr ⟨hs, k.acting.trans ht⟩

/-- Steps outside station control, the closure table and its slots. -/
theorem State.SameHeld.of_eq {s t : State} (hs : t.station = s.station) (hc : t.closures = s.closures)
    (hr : t.retention = s.retention) : s.SameHeld t :=
  ⟨hc, hr, State.own_congr hs, congrArg Station.restored hs, .inl (congrArg Station.mode hs)⟩

theorem State.SameHeld.of_same {l : List Block} {s t : State} (h : SameOutside l s t)
    (hl : ∀ b ∈ [Block.station, .closures, .retention], b ∉ l := by decide) : s.SameHeld t :=
  .of_eq (h .station (hl _ (by decide))) (h .closures (hl _ (by decide))) (h .retention (hl _ (by decide)))

theorem State.DetectorWork.sameHeld {s t : State} (h : s.DetectorWork t) : s.SameHeld t := .of_same h.same

/-- A change of station control that leaves its number, its mode and its mark of the restore. -/
theorem State.SameHeld.setStation {s : State} {x : Station} (hs : x.straps = s.station.straps) (hr : x.restored = s.station.restored)
    (hm : x.mode = s.station.mode) : s.SameHeld (s.setStation x) := by
  refine ⟨rfl, rfl, ?_, hr, .inl hm⟩
  unfold State.own
  rw [State.setStation_station, hs]

/-- The station goes on acting in another mode. -/
theorem State.SameHeld.setMode {s : State} {m : Mode} (ha : s.acting = true) (hm : m.acting = true) : s.SameHeld (s.setMode m) :=
  ⟨rfl, rfl, rfl, rfl, .inr ⟨ha, hm⟩⟩

theorem State.SameHeld.foldl {α : Type} {f : State → α → State} (h : ∀ (s : State) a, s.SameHeld (f s a)) (l : List α)
    (s : State) : s.SameHeld (l.foldl f s) := by
  induction l generalizing s with
  | nil => exact .refl s
  | cons a as ih => exact (h s a).trans (ih (f s a))

theorem State.SameHeld.settle {s t before : State} {late : List Reader} (h : s.SameHeld t) : s.SameHeld (t.settle before late) :=
  h.trans (.of_same (t.settle_same before late))

theorem State.SameHeld.tryCommit {s t : State} (h : s.SameHeld t) : s.SameHeld t.tryCommit := h.trans (.of_same t.tryCommit_same)

theorem State.SameHeld.serveSome {s t before : State} {rs : List Reader} (h : s.SameHeld t) : s.SameHeld (t.serveSome before rs) :=
  h.trans (.of_same (t.serveSome_same before rs))

theorem State.inOrder_sameHeld (s before : State) (o : Order) {f g : State → State} (hf : ∀ t : State, t.SameHeld (f t))
    (hg : ∀ t : State, t.SameHeld (g t)) : s.SameHeld (s.inOrder before o f g) := by
  rcases s.inOrder_cases before o f g with ⟨-, e⟩ | ⟨-, e⟩
  · exact e ▸ (hf s).serveSome.trans (hg _)
  · exact e ▸ (hg s).serveSome.trans (hf _)

/-! ### The detector unit and the arithmetic unit -/

theorem State.takeOnEdge_sameHeld (s : State) (l : Loop) (on : Tick) : s.SameHeld (s.takeOnEdge l on) := by
  unfold State.takeOnEdge
  dsimp only
  generalize hu : (if l.lane = .l1 then _ else _) = u
  have hmark (c : Prop) [Decidable c] (d : LaneDetector) : s.SameHeld (if c then s.setLane l.lane d else s) := by
    split
    · exact .of_same (s.setLane_same l.lane d)
    · exact .refl s
  have hedge : s.SameHeld u := by
    subst hu
    split
    · exact (hmark _ _).trans (.of_same (State.abortCheck_same _))
    · exact hmark _ _
  split
  · exact hedge.trans (u.appendArrival_laneWork l.lane on).work.sameHeld
  · exact hedge.trans ((u.setArrivals_laneWork l.lane _).trans (State.drainArrivals_laneWork _ l.lane)).work.sameHeld
  · exact hedge.trans (u.setArrivals_laneWork l.lane _).work.sameHeld
  · exact hedge.trans (u.setArrivals_laneWork l.lane _).work.sameHeld
  · exact hedge

theorem State.qualify_sameHeld (s : State) (l : Loop) (p : Presence) : s.SameHeld (s.qualify l p) := by
  have hloop (x : LoopRecord) : s.SameHeld (s.setLoop l x) := .of_same (s.setLoop_same l x)
  unfold State.qualify
  dsimp only
  split
  · exact (hloop _).trans (State.takeOnEdge_sameHeld _ l p.on)
  · exact hloop _

theorem State.qualifyInOrder_sameHeld (s : State) (l : Loop) (p : Presence) : s.SameHeld (s.qualifyInOrder l p) := by
  rcases s.qualifyInOrder_cases l p with ⟨q, -, -, -, -, -, e⟩ | ⟨-, e⟩
  · exact e ▸ (s.qualify_sameHeld _ q).trans (State.qualify_sameHeld _ l p)
  · exact e ▸ s.qualify_sameHeld l p

theorem State.releaseSingle_sameHeld (s : State) (k : Lane) (pairedCounts : Bool) : s.SameHeld (s.releaseSingle k pairedCounts) := by
  unfold State.releaseSingle
  split
  · exact .refl s
  · dsimp only
    have hlist := (s.setArrivals_laneWork k []).work.sameHeld
    split
    · exact hlist.trans (State.completeVehicle_laneWork _ k _).work.sameHeld
    · exact hlist.trans (State.completeSingle_laneWork _ k _).work.sameHeld

theorem State.takeRelease_sameHeld (s : State) (l : Loop) : s.SameHeld (s.takeRelease l) := by
  unfold State.takeRelease
  dsimp only
  generalize hu : (if (s.detector.lanes.get l.lane).mode.counting = some l.side then _ else _) = u
  have hcount : s.SameHeld u := by
    subst hu
    split
    · exact .of_same (s.setLane_same l.lane _)
    · exact .refl s
  split
  · exact hcount.trans ((u.setArrivals_laneWork l.lane _).trans (State.drainArrivals_laneWork _ l.lane)).work.sameHeld
  · exact hcount.trans (u.releaseSingle_sameHeld l.lane true)
  · exact hcount.trans (u.releaseSingle_sameHeld l.lane false)
  · exact hcount

theorem State.releaseQualified_sameHeld (s : State) (l : Loop) : s.SameHeld (s.releaseQualified l) := by
  have hloop (u : State) (x : LoopRecord) : u.SameHeld (u.setLoop l x) := .of_same (u.setLoop_same l x)
  unfold State.releaseQualified
  dsimp only
  split
  · exact (hloop s _).trans (State.takeRelease_sameHeld _ l)
  · exact hloop s _
  · exact (((hloop s _).trans (hloop _ _)).trans (.of_same (State.endFault_same _ _ _))).trans
      (.of_same (State.settleMode_same _ l.lane _))

theorem State.closeInterval_sameHeld (s : State) (stop : Tick) (lanes : List Lane) (loops : List Loop) :
    s.SameHeld (s.closeInterval stop lanes loops) := by
  have hmodes (u : State) : u.SameHeld (u.remeasured stop) :=
    (State.SameHeld.foldl (fun t k => .of_same (t.settleMode_same k stop)) u.laneList u).trans (State.DetectorWork.sameHeld rfl)
  rw [s.closeInterval_eq]
  exact ((s.opened_work stop lanes loops).sameHeld.trans (hmodes _)).trans (.of_same (State.setDetector_same _ _))

theorem State.evaluateQueue_sameHeld (s : State) : s.SameHeld s.evaluateQueue :=
  (State.SameHeld.of_same s.queueTaken_same).trans (.of_same s.evaluateQueue_served.same)

theorem State.evaluateDemand_sameHeld (s : State) : s.SameHeld s.evaluateDemand := by
  unfold State.evaluateDemand
  dsimp only
  split <;> split <;> exact .of_eq rfl rfl rfl

theorem State.takeMeasures_sameHeld (s : State) : s.SameHeld s.takeMeasures := by
  unfold State.takeMeasures
  split
  · exact s.evaluateDemand_sameHeld
  · exact .refl s

theorem State.markEvaluation_sameHeld (s : State) : s.SameHeld s.markEvaluation := by
  unfold State.markEvaluation
  split
  · exact .setStation rfl rfl rfl
  · exact .refl s

theorem State.completeInterval_sameHeld (s : State) (k : Lane) (x : Snapshot) (rest : List Request) (o : Order) :
    s.SameHeld (s.completeInterval k x rest o) := by
  have hrecord : s.SameHeld (s.recorded k x rest) := .of_same (s.recorded_same k x rest)
  have hmeasures (t : State) : t.SameHeld t.computeMeasures.markEvaluation :=
    State.SameHeld.trans (t := t.computeMeasures) (.of_eq rfl rfl rfl) t.computeMeasures.markEvaluation_sameHeld
  unfold State.completeInterval
  dsimp only
  split
  · exact (hrecord.trans (hmeasures _)).trans
      (State.inOrder_sameHeld _ s o State.takeMeasures_sameHeld State.evaluateQueue_sameHeld)
  · exact hrecord

/-! ### Sign channels -/

theorem State.clearReason_sameHeld (s : State) (c : Chan) (raised : Option FaultKind) (endFirst : Bool) :
    s.SameHeld (s.clearReason c raised endFirst) := by
  unfold State.clearReason
  split
  · exact .of_same (s.exchangeFaults_same _ _ _ _)
  · exact .of_same (s.endFault_same _ _)
  · exact .of_same (s.raiseFault_same _ _)
  · exact .refl s

theorem State.prove_sameHeld (s : State) (c : Chan) (raised : Option FaultKind) (endFirst : Bool) :
    s.SameHeld (s.prove c raised endFirst) :=
  (s.clearReason_sameHeld c raised endFirst).trans (.of_same (State.setChannel_same _ c _))

theorem State.retry_sameHeld (s : State) (c : Chan) : s.SameHeld (s.retry c) :=
  (State.SameHeld.of_same (s.beginAttempt_same c)).trans (.of_same (State.noteDisplacement_same _ _))

/-! ### Modes and isolation (R70, R71, R169) -/

theorem State.becomeIsolated_sameHeld (s : State) (ha : s.acting = true) : s.SameHeld s.becomeIsolated := by
  have hcondition : s.SameHeld (s.setNeighbours { s.neighbours with isolation := true }) := .of_same (s.setNeighbours_same _)
  unfold State.becomeIsolated
  dsimp only
  split
  · exact hcondition.trans (.setMode ha rfl)
  · exact hcondition

theorem State.stuckIsolated_sameHeld (s : State) (holds : List Nat) : s.SameHeld (s.stuckIsolated holds) := by
  have hmade : s.SameHeld (s.madeLineStuck holds) := .of_same (s.madeLineStuck_same holds)
  unfold State.stuckIsolated
  split
  · next ha => exact hmade.trans (State.becomeIsolated_sameHeld _ (hmade.acting.trans ha))
  · exact hmade

theorem State.noteArrival_sameHeld (s : State) (n : Nat) : s.SameHeld (s.noteArrival n) := by
  unfold State.noteArrival
  split
  · next ha =>
    dsimp only
    refine State.SameHeld.trans ?_ (.of_same (State.endFault_same _ _ _))
    split
    · exact (State.SameHeld.of_same (s.setNeighbours_same _)).trans (.setMode ha rfl)
    · exact .of_same (s.setNeighbours_same _)
  · exact .refl s

theorem State.arrivedFrom_sameHeld (s : State) (n : Nat) : s.SameHeld (s.arrivedFrom n) :=
  (State.SameHeld.of_same (s.setLine_same _)).trans (State.noteArrival_sameHeld _ n)

theorem State.exited_sameHeld (s : State) (ha : s.acting = true) : s.SameHeld s.exited := by
  unfold State.exited
  split <;> exact .setMode ha rfl

/-! ### The reception of a frame and the owners of commands -/

theorem State.loseFrame_sameHeld (s : State) : s.SameHeld s.loseFrame := .of_same (s.setLine_same _)

/-- What the delivery of a frame keeps, its reception keeps. -/
theorem State.receive_sameHeld (s : State) (f : Frame) (o : Order) {deliver : State → State} (h : ∀ t : State, t.SameHeld (deliver t)) :
    s.SameHeld (s.receive f o deliver) := by
  unfold State.receive
  split
  · split
    · exact s.loseFrame_sameHeld
    · exact ((s.arrivedFrom_sameHeld f.source.toNat).serveSome.trans (h _)).settle
  · exact .refl s

theorem State.record_sameHeld (s : State) (kind : CommandKind) (r : ResultCode) : s.SameHeld (s.record kind r) :=
  .setStation rfl rfl rfl

theorem State.obey_sameHeld (s : State) (c : Command) (inFault : Bool) {owner : State → State × ResultCode}
    (h : ∀ t : State, t.SameHeld (owner t).1) : s.SameHeld (s.obey c inFault owner) := by
  unfold State.obey
  split
  · split
    · exact (h s).trans (State.record_sameHeld _ _ _)
    · exact s.record_sameHeld _ _
  · exact .refl s

theorem State.takeOverride_sameHeld (s : State) (step legend minutes : Nat) : s.SameHeld (s.takeOverride step legend minutes).1 := by
  unfold State.takeOverride
  split
  · exact .refl s
  · split
    · exact .refl s
    · split <;> exact .of_eq rfl rfl rfl

theorem State.acknowledgeKey_sameHeld (s : State) (code unit : Nat) : s.SameHeld (s.acknowledgeKey code unit).1 := by
  unfold State.acknowledgeKey
  split <;> exact .of_eq rfl rfl rfl

theorem State.answer_sameHeld (s : State) (bodies : List (List Octet)) : s.SameHeld (s.answer bodies).1 := by
  unfold State.answer
  split
  · exact .refl s
  · exact .of_same (s.enqueue_same bodies)

theorem State.startTrace_sameHeld (s : State) (lane count : Nat) : s.SameHeld (s.startTrace lane count).1 := by
  unfold State.startTrace
  split
  · exact .refl s
  · split <;> exact .of_eq rfl rfl rfl

end Sys2Proof.Machine
end

section
/-!
PROOFS. Every command but a reset, the start of the station and those that carry a closure or complete a write leaves the closure table
and its slots alone (R106 to R109, R171 to R173).
-/
namespace Sys2Proof.Machine
-- One proof at a time: the threads of parallel proofs exceed the memory limit of the check.
set_option Elab.async false

/-! ### The outcome of a command -/

/-- A command's outcome leaves the closures held. -/
def HeldLeft (s : State) (r : Result) : Prop := ∀ t, r = .next t → s.SameHeld t

theorem HeldLeft.next {s t : State} {dt : Nat} (h : (s.advance dt).SameHeld t) : HeldLeft s (.next t) := by
  rintro _ ⟨⟩
  exact State.SameHeld.trans (.of_same (s.advance_same dt)) h

/-- A command that writes other blocks alone. -/
theorem HeldLeft.aside {s t : State} (hs : t.station = s.station) (hc : t.closures = s.closures) (hr : t.retention = s.retention) :
    HeldLeft s (.next t) := by
  rintro _ ⟨⟩
  exact .of_eq hs hc hr

/-- A command whose condition does not hold lets time pass. -/
theorem HeldLeft.idle {s : State} {dt : Nat} : HeldLeft s (.next (s.advance dt)) := .aside rfl rfl rfl

theorem HeldLeft.guarded {s t : State} {dt : Nat} {c : Prop} [Decidable c] (h : c → (s.advance dt).SameHeld t) :
    HeldLeft s (if c then .next t else .next (s.advance dt)) := by
  split
  · next hc => exact .next (h hc)
  · exact .idle

/-! ### The line interface and the neighbour table -/

theorem execLineStuck_heldLeft (dt : Nat) (holds : List Nat) (o : Order) (s : State) : HeldLeft s (execLineStuck dt holds o s) := by
  have hstuck : (s.advance dt).SameHeld (((s.advance dt).stuckIsolated holds).settle (s.advance dt) o.late) :=
    (State.stuckIsolated_sameHeld _ holds).settle
  exact .guarded fun _ => hstuck

theorem execNeighbourRemoval_heldLeft (dt : Nat) (station : Nat) (o : Order) (s : State) :
    HeldLeft s (execNeighbourRemoval dt station o s) := by
  unfold execNeighbourRemoval
  dsimp only
  split
  · have hremoved : (s.advance dt).SameHeld (((s.advance dt).removeEntry station).raiseFault .neighbourLost station) :=
      (State.SameHeld.of_same (State.setNeighbours_same _ _)).trans (.of_same (State.raiseFault_same _ _ _))
    exact .guarded fun _ => hremoved.settle
  · exact .idle

theorem execIsolationTimerExpiry_heldLeft (dt : Nat) (o : Order) (s : State) : HeldLeft s (execIsolationTimerExpiry dt o s) := by
  refine .guarded fun hc => ?_
  have ha : (s.advance dt).acting = true := (Bool.and_eq_true_iff.mp hc).left
  have htimer := State.SameHeld.of_same ((s.advance dt).setNeighbours_same { (s.advance dt).neighbours with isolationTimer := none })
  exact (htimer.trans (State.becomeIsolated_sameHeld _ ha)).settle

/-! ### The commands of the centre -/

theorem State.command_heldLeft (s : State) (dt : Nat) (c : Command) (body : List Octet) (o : Order) (inFault : Bool)
    {owner : State → State × ResultCode} (h : ∀ t : State, t.SameHeld (owner t).1) :
    HeldLeft s (.next ((s.advance dt).command c body o inFault owner)) :=
  .next ((s.advance dt).receive_sameHeld _ o fun t => t.obey_sameHeld c inFault h)

theorem State.heard_heldLeft (s : State) (dt : Nat) (f : Frame) :
    HeldLeft s (.next ((s.advance dt).receive f Order.plain (fun t => t))) :=
  .next ((s.advance dt).receive_sameHeld f Order.plain State.SameHeld.refl)

theorem execCommandNotAddressed_heldLeft (dt : Nat) (kind : BitVec 4) (body : List Octet) (s : State) :
    HeldLeft s (execCommandNotAddressed dt kind body s) := by
  unfold execCommandNotAddressed
  dsimp only
  split
  · split
    · split
      · exact .idle
      · exact s.heard_heldLeft dt _
    · exact s.heard_heldLeft dt _
  · exact .idle

theorem execShoulderOtherAction_heldLeft (dt : Nat) (low high action : Octet) (s : State) :
    HeldLeft s (execShoulderOtherAction dt low high action s) := by
  unfold execShoulderOtherAction
  dsimp only
  split
  · exact .idle
  · exact s.command_heldLeft dt _ _ _ _ fun t => by rw [t.takeOtherAction_eq]; exact .refl t

theorem execFaultAck_heldLeft (dt : Nat) (station kind unit : Octet) (s : State) :
    HeldLeft s (execFaultAck dt station kind unit s) := by
  unfold execFaultAck
  dsimp only
  split
  · exact .idle
  · exact s.command_heldLeft dt _ _ _ _ fun t => t.acknowledgeKey_sameHeld _ _

theorem execRequestOtherType_heldLeft (dt : Nat) (station type lane count : Octet) (s : State) :
    HeldLeft s (execRequestOtherType dt station type lane count s) := by
  unfold execRequestOtherType
  dsimp only
  split
  · exact .idle
  · exact s.command_heldLeft dt _ _ _ _ State.SameHeld.refl

/-! ### The detector unit and the arithmetic unit -/

theorem execQualifiedOnEdge_heldLeft (dt : Nat) (l : Loop) (s : State) : HeldLeft s (execQualifiedOnEdge dt l s) := by
  unfold execQualifiedOnEdge
  dsimp only
  split
  · exact .guarded fun _ => ((s.advance dt).qualifyInOrder_sameHeld l _).settle
  · exact .idle

theorem execReleaseEdge_heldLeft (dt : Nat) (l : Loop) (s : State) : HeldLeft s (execReleaseEdge dt l s) := by
  have hinput : (s.advance dt).SameHeld ((s.advance dt).setInput l false) := .of_same ((s.advance dt).setInput_same l false)
  unfold execReleaseEdge
  dsimp only
  split
  · split
    · split
      · next p _ =>
        split
        · exact .next (hinput.trans (State.releaseQualified_sameHeld _ l)).settle
        · split
          · exact .next ((hinput.trans (State.qualifyInOrder_sameHeld _ l p)).trans (State.releaseQualified_sameHeld _ l)).settle
          · exact .aside rfl rfl rfl
      · exact .next hinput
    · exact .next hinput
  · exact .idle

theorem execPresenceTimeout_heldLeft (dt : Nat) (l : Loop) (endFirst : Bool) (s : State) :
    HeldLeft s (execPresenceTimeout dt l endFirst s) := by
  have hstuck (c : Prop) [Decidable c] (x : LoopRecord) (d : LaneDetector) : (s.advance dt).SameHeld
      (if c then ((s.advance dt).setLoop l x).setLane l.lane d else (s.advance dt).setLoop l x) := by
    split <;> exact .of_eq rfl rfl rfl
  unfold execPresenceTimeout
  dsimp only
  split
  · refine .guarded fun _ => State.SameHeld.settle (State.SameHeld.trans ?_ (.of_same (State.settleMode_same _ _ _)))
    split
    · exact (hstuck _ _ _).trans (.of_same (State.raiseFault_same _ _ _))
    · exact (hstuck _ _ _).trans (.of_same (State.exchangeFaults_same _ _ _ _ _))
    · exact hstuck _ _ _
  · exact .idle

theorem execPairingDeadline_heldLeft (dt : Nat) (k : Lane) (s : State) : HeldLeft s (execPairingDeadline dt k s) :=
  .guarded fun _ => (((s.advance dt).setArrivals_laneWork k _).trans (State.drainArrivals_laneWork _ k)).work.sameHeld

theorem execIntervalEnd_heldLeft (dt : Nat) (lanes : List Lane) (loops : List Loop) (s : State) :
    HeldLeft s (execIntervalEnd dt lanes loops s) := by
  unfold execIntervalEnd
  dsimp only
  split
  · exact .guarded fun _ => ((s.advance dt).closeInterval_sameHeld _ lanes loops).settle
  · exact .idle

theorem execVehicleRequestCompletion_heldLeft (dt : Nat) (o : Order) (s : State) :
    HeldLeft s (execVehicleRequestCompletion dt o s) := by
  unfold execVehicleRequestCompletion
  dsimp only
  split
  · exact .next ((State.SameHeld.of_same (State.setRequests_same _ _)).trans (.of_same (State.finishRecord_same _ _))).settle
  · exact .idle

theorem execIntervalRequestCompletion_heldLeft (dt : Nat) (o : Order) (s : State) :
    HeldLeft s (execIntervalRequestCompletion dt o s) := by
  unfold execIntervalRequestCompletion
  dsimp only
  split
  · next k x rest _ => exact .next ((s.advance dt).completeInterval_sameHeld k x rest o).settle
  · exact .idle

/-! ### Sign channels, speed control and the end of WARMING -/

theorem execIdentity_heldLeft (dt : Nat) (c : Chan) (kind : Octet) (check : BitVec 16) (endFirst : Bool) (s : State) :
    HeldLeft s (execIdentity dt c kind check endFirst s) := by
  have hmismatch : (s.advance dt).SameHeld ((s.advance dt).enterMismatch c endFirst) := .of_same (State.enterMismatch_same _ c endFirst)
  unfold execIdentity
  dsimp only
  split
  · split
    · split
      · exact .aside rfl rfl rfl
      · exact .next hmismatch
    · split
      · split
        · exact .aside rfl rfl rfl
        · exact .next hmismatch.tryCommit
      · exact .idle
  · exact .idle

theorem execProvingReport_heldLeft (dt : Nat) (c : Chan) (set result : Octet) (check : BitVec 16) (endFirst : Bool) (s : State) :
    HeldLeft s (execProvingReport dt c set result check endFirst s) := by
  unfold execProvingReport
  dsimp only
  split
  · split
    · exact .next ((s.advance dt).prove_sameHeld c _ endFirst).tryCommit
    · exact .next ((s.advance dt).prove_sameHeld c _ endFirst).tryCommit
    · exact .next (State.SameHeld.of_same ((s.advance dt).enterFailed_same c _ endFirst)).tryCommit
    · exact .idle
  · exact .idle

theorem execRestartNotice_heldLeft (dt : Nat) (c : Chan) (kind : Octet) (check : BitVec 16) (endFirst : Bool) (s : State) :
    HeldLeft s (execRestartNotice dt c kind check endFirst s) := by
  have hmismatch : (s.advance dt).SameHeld ((s.advance dt).enterMismatch c endFirst) := .of_same (State.enterMismatch_same _ c endFirst)
  have hagain : HeldLeft s (.next (if kind = expectedKind c then ((s.advance dt).markIdentified c).retry c
      else (s.advance dt).enterMismatch c endFirst)) := by
    split
    · exact .next ((State.SameHeld.of_same (State.setChannel_same _ c _)).trans (State.retry_sameHeld _ c))
    · exact .next hmismatch
  unfold execRestartNotice
  dsimp only
  split
  · split
    · exact .aside rfl rfl rfl
    · split
      · split
        · exact .idle
        · split
          · exact .aside rfl rfl rfl
          · exact .next hmismatch
        · split
          · exact .aside rfl rfl rfl
          · exact .next hmismatch.tryCommit
        · exact hagain
        · exact hagain
        · exact .aside rfl rfl rfl
      · exact .idle
  · exact .idle

theorem execHoldExpiry_heldLeft (dt : Nat) (s : State) : HeldLeft s (execHoldExpiry dt s) := by
  have hfall : (s.advance dt).SameHeld (s.advance dt).fall.updateEnd := .of_eq rfl rfl rfl
  unfold execHoldExpiry
  dsimp only
  split
  · split
    · exact .next (hfall.trans (.of_same (State.serveComposer_same _)))
    · exact .aside rfl rfl rfl
  · exact .idle

theorem execWarmingExit_heldLeft (dt : Nat) (modeFirst : Bool) (o : Order) (s : State) :
    HeldLeft s (execWarmingExit dt modeFirst o s) := by
  refine .guarded fun hc => ?_
  simp only [Bool.and_eq_true, beq_iff_eq] at hc
  obtain ⟨⟨hwarming, -⟩, -⟩ := hc
  have hexited : (s.advance dt).SameHeld (s.advance dt).exited := State.exited_sameHeld _ (congrArg Mode.acting hwarming)
  refine State.SameHeld.settle ?_
  split
  · exact hexited.serveSome.trans (State.evaluateDemand_sameHeld _)
  · exact hexited

/-! ### Every command -/

/-- The commands that may change the closure table or its slots, the own number, or whether the station has been restored and acts. -/
def mayChangeHeld (i : Instr) : Bool :=
  match i with
  | .powerOnReset _ => true
  | .resetPin _ => true
  | .startUpCheck _ _ => true
  | .restoreComplete _ => true
  | .warmingEntry _ => true
  | .statusFrame _ _ _ _ _ => true
  | .closeSet _ _ _ _ _ _ _ _ => true
  | .closeClear _ _ _ _ => true
  | .slotWriteCompletion _ => true
  | _ => false

/-- Every other command leaves the closures held. -/
theorem exec_heldLeft (i : Instr) (s : State) (h : mayChangeHeld i = false) : HeldLeft s (exec i s) := by
  cases i with
  | powerOnReset | resetPin | startUpCheck | restoreComplete | warmingEntry | statusFrame | closeSet | closeClear | slotWriteCompletion =>
    cases h
  | loopPresenceStart | traceFramePlaced | idleGap | transmitStart | arbitrationLost | transmitAbort | abortHoldEnd | transmitComplete
  | publicationTimerExpiry | lapse | frameAborted | frameRejected | lineStuckEnd | neighbourExpiry | frameLengthRejected
  | firstHoldWrongClass | arbitrationWon =>
    dsimp only [exec, execLoopPresenceStart, execTraceFramePlaced, execIdleGap, execTransmitStart, execArbitrationLost, execTransmitAbort,
      execAbortHoldEnd, execTransmitComplete, execPublicationTimerExpiry, execLapse, execFrameAborted, execFrameRejected,
      execLineStuckEnd, execNeighbourExpiry, execFrameLengthRejected, execFirstHoldWrongClass, execArbitrationWon]
    repeat' split
    all_goals exact .aside rfl rfl rfl
  | warmUpTimerExpiry dt => exact .guarded fun _ => .setStation rfl rfl rfl
  | warmingExit dt modeFirst o => exact execWarmingExit_heldLeft dt modeFirst o s
  | qualifiedOnEdge dt l => exact execQualifiedOnEdge_heldLeft dt l s
  | releaseEdge dt l => exact execReleaseEdge_heldLeft dt l s
  | presenceTimeout dt l endFirst => exact execPresenceTimeout_heldLeft dt l endFirst s
  | pairingDeadline dt k => exact execPairingDeadline_heldLeft dt k s
  | intervalEnd dt lanes loops => exact execIntervalEnd_heldLeft dt lanes loops s
  | vehicleRequestCompletion dt o => exact execVehicleRequestCompletion_heldLeft dt o s
  | intervalRequestCompletion dt o => exact execIntervalRequestCompletion_heldLeft dt o s
  | lineStuck dt holds o => exact execLineStuck_heldLeft dt holds o s
  | reportFrameHeard dt cls source body => exact s.heard_heldLeft dt _
  | neighbourRemoval dt station o => exact execNeighbourRemoval_heldLeft dt station o s
  | isolationTimerExpiry dt o => exact execIsolationTimerExpiry_heldLeft dt o s
  | holdExpiry dt => exact execHoldExpiry_heldLeft dt s
  | override dt low high step legend minutes o => exact s.command_heldLeft dt _ _ _ _ fun t => t.takeOverride_sameHeld _ _ _
  | overrideExpiry dt o => exact .guarded fun _ => (State.SameHeld.of_same (State.setSpeed_same _ _)).settle
  | shoulderOpen dt low high o => exact s.command_heldLeft dt _ _ _ _ fun t => .of_same t.takeOpen_work.same
  | shoulderClose dt low high o => exact s.command_heldLeft dt _ _ _ _ fun t => .of_same t.takeClose_work.same
  | checkTimerExpiry dt => exact .guarded fun _ => (State.SameHeld.of_same (State.moveShoulder_same _ _)).settle
  | clearanceTimerExpiry dt => exact .guarded fun _ => (State.SameHeld.of_same (State.moveShoulder_same _ _)).settle
  | faultAck dt station kind unit => exact execFaultAck_heldLeft dt station kind unit s
  | faultAckAll dt station unit => exact s.command_heldLeft dt _ _ _ _ fun _ => .of_eq rfl rfl rfl
  | requestFaults dt station lane count => exact s.command_heldLeft dt _ _ _ _ fun t => t.answer_sameHeld _
  | requestLanes dt station lane count => exact s.command_heldLeft dt _ _ _ _ fun t => t.answer_sameHeld _
  | requestTrace dt station lane count => exact s.command_heldLeft dt _ _ _ _ fun t => t.startTrace_sameHeld _ _
  | identity dt c kind check endFirst => exact execIdentity_heldLeft dt c kind check endFirst s
  | identificationDeadline dt c => exact .guarded fun _ => .of_same (State.enterFailed_same _ c _ _)
  | provingReport dt c set result check endFirst => exact execProvingReport_heldLeft dt c set result check endFirst s
  | provingDeadline dt c endFirst => exact .guarded fun _ => (State.SameHeld.of_same (State.enterFailed_same _ c _ endFirst)).tryCommit
  | retryTimerExpiry dt c => exact .guarded fun _ => (s.advance dt).retry_sameHeld c
  | restartNotice dt c kind check endFirst => exact execRestartNotice_heldLeft dt c kind check endFirst s
  | commandNotAddressed dt kind body => exact execCommandNotAddressed_heldLeft dt kind body s
  | shoulderOtherAction dt low high action => exact execShoulderOtherAction_heldLeft dt low high action s
  | requestOtherType dt station type lane count => exact execRequestOtherType_heldLeft dt station type lane count s

end Sys2Proof.Machine
end

section
/-!
PROOFS. The closure table by its positions (R106, R108 to R112, R114, R115): what is found in it, and what learning, absence and the
closure commands make of it.
-/
namespace Sys2Proof.Machine
-- One proof at a time: the threads of parallel proofs exceed the memory limit of the check.
set_option Elab.async false

/-! ### What is held, and where -/

theorem Pos.mem_all (p : Pos) : p ∈ Pos.all := by cases p <;> decide

theorem Slots.get_set_eq {α : Type} (t : Slots α) (p q : Pos) (v : α) : (t.set p v).get q = if q = p then v else t.get q := by
  split
  · next h => exact h ▸ Slots.get_set t p v
  · next h => exact Slots.get_set_of_ne t v h

theorem Slots.toList_eq_map {α : Type} (t : Slots α) : t.toList = Pos.all.map t.get := rfl

theorem State.positionOf_eq_some {s : State} {n : Nat} {p : Pos} (h : s.positionOf n = some p) :
    ∃ c, s.closures.get p = some c ∧ c.origin = n := by
  have hfound := List.find?_some h
  cases hc : s.closures.get p with
  | none => simp [hc] at hfound
  | some c => exact ⟨c, rfl, by simpa [hc] using hfound⟩

theorem State.positionOf_eq_none {s : State} {n : Nat} :
    s.positionOf n = none ↔ ∀ p c, s.closures.get p = some c → c.origin ≠ n := by
  unfold State.positionOf
  rw [List.find?_eq_none]
  constructor
  · intro h p c hc
    simpa [hc] using h p (Pos.mem_all p)
  · intro h p _
    cases hc : s.closures.get p with
    | none => simp
    | some c => simpa using h p c hc

theorem State.holding_eq_some {s : State} {n : Nat} {p : Pos} {c : Closure} :
    s.holding n = some (p, c) ↔ s.positionOf n = some p ∧ s.closures.get p = some c := by
  simp [State.holding, Option.bind_eq_some_iff]

/-- An origin without an entry has no position, and the other way about. -/
theorem State.holding_eq_none {s : State} {n : Nat} : s.holding n = none ↔ s.positionOf n = none := by
  unfold State.holding
  cases hp : s.positionOf n with
  | none => simp
  | some p =>
    obtain ⟨c, hc, -⟩ := State.positionOf_eq_some hp
    simp [hc]

theorem State.origin_of_holding {s : State} {n : Nat} {p : Pos} {c : Closure} (h : s.holding n = some (p, c)) : c.origin = n := by
  obtain ⟨hp, hc⟩ := State.holding_eq_some.mp h
  obtain ⟨d, hd, horigin⟩ := State.positionOf_eq_some hp
  exact Option.some.inj (hd.symm.trans hc) ▸ horigin

theorem State.positionOf_congr {s t : State} (h : t.closures = s.closures) (n : Nat) : t.positionOf n = s.positionOf n := by
  unfold State.positionOf
  rw [h]

theorem State.freePosition_congr {s t : State} (h : t.closures = s.closures) : t.freePosition = s.freePosition := by
  unfold State.freePosition
  rw [h]

theorem State.holding_congr {s t : State} (h : t.closures = s.closures) (n : Nat) : t.holding n = s.holding n := by
  unfold State.holding
  rw [State.positionOf_congr h, h]

/-! ### Learning and authoritative absence (R114, R115) -/

theorem State.learnClosure_of_free {s : State} {c : Closure} (h : s.holding c.origin = none) : s.learnClosure c = s.insertClosure c := by
  unfold State.learnClosure
  rw [h]

/-- A closure learned for a held origin takes its entry's place, and with an equal serial its source (R114). -/
theorem State.learnClosure_of_held {s : State} {c held : Closure} {p : Pos} (h : s.holding c.origin = some (p, held)) :
    (s.learnClosure c).closures =
      s.closures.set p (some { c with source := if held.serial = c.serial then held.source else c.source }) := by
  unfold State.learnClosure
  rw [h]
  dsimp only
  split
  · split
    · next heq =>
      rw [← heq, ← (State.holding_eq_some.mp h).2, Slots.set_get]
    · exact s.putClosure_closures _ _
  · exact s.putClosure_closures _ _

theorem State.absentClosure_of_free {s : State} {n : Nat} (h : s.holding n = none) : s.absentClosure n = s := by
  unfold State.absentClosure
  rw [h]

theorem State.absentClosure_of_held {s : State} {n : Nat} {p : Pos} {held : Closure} (h : s.holding n = some (p, held)) :
    (s.absentClosure n).closures = if held.source = .learned then s.closures.set p none else s.closures := by
  unfold State.absentClosure
  rw [h]
  dsimp only
  split
  · exact s.putClosure_closures _ _
  · rfl

theorem State.learn_of_applies {s : State} {n : Nat} {r : StatusRecord} {c : OwnClosure} (hm : r.mode = .running ∨ r.mode = .isolated)
    (hc : r.ownClosure = some c) (ha : (c.learned n).applies s.own = true) : s.learn n r = s.learnClosure (c.learned n) := by
  unfold State.learn
  rw [if_pos hm, hc]
  exact if_pos ha

/-- A record without a closure that applies here withdraws that of its origin (R115). -/
theorem State.learn_of_absent {s : State} {n : Nat} {r : StatusRecord} (hm : r.mode = .running ∨ r.mode = .isolated)
    (hc : ∀ c, r.ownClosure = some c → (c.learned n).applies s.own = false) : s.learn n r = s.absentClosure n := by
  unfold State.learn
  rw [if_pos hm]
  split
  · next c h => exact if_neg (Bool.eq_false_iff.mp (hc c h))
  · rfl

theorem State.learn_of_otherMode {s : State} {n : Nat} {r : StatusRecord} (hm : ¬(r.mode = .running ∨ r.mode = .isolated)) :
    s.learn n r = s := if_neg hm

/-! ### The closure commands (R110 to R112) -/

theorem State.closeSet_of_bad {s : State} {c : Closure} (h : closeSetBad c.origin c.serial c.lanes = true) :
    s.closeSet c = (s, .refusedRange) := if_pos h

theorem State.closeSet_of_free {s : State} {c : Closure} (h : closeSetBad c.origin c.serial c.lanes = false)
    (hn : s.holding c.origin = none) : s.closeSet c = (s.insertClosure c, .accepted) := by
  unfold State.closeSet
  rw [h, if_neg Bool.false_ne_true, hn]

theorem State.closeSet_of_held {s : State} {c held : Closure} {p : Pos} (h : closeSetBad c.origin c.serial c.lanes = false)
    (hh : s.holding c.origin = some (p, held)) :
    s.closeSet c = (s.putClosure p (if c.applies s.own then some c else none), .accepted) := by
  unfold State.closeSet
  rw [h, if_neg Bool.false_ne_true, hh]

theorem State.closeClear_of_bad {s : State} {n serial : Nat} (h : originBad n = true) : s.closeClear n serial = (s, .refusedRange) :=
  if_pos h

theorem State.closeClear_of_free {s : State} {n serial : Nat} (h : originBad n = false) (hn : s.holding n = none) :
    s.closeClear n serial = (s, .accepted) := by
  unfold State.closeClear
  rw [h, if_neg Bool.false_ne_true, hn]

theorem State.closeClear_of_held {s : State} {n serial : Nat} {p : Pos} {held : Closure} (h : originBad n = false)
    (hh : s.holding n = some (p, held)) :
    s.closeClear n serial = if held.serial = serial then (s.putClosure p none, .accepted) else (s, .refusedSerial) := by
  unfold State.closeClear
  rw [h, if_neg Bool.false_ne_true, hh]

/-- Both commands do the work of the closure table (R117). -/
theorem State.closeSet_work (s : State) (c : Closure) : s.ClosureWork (s.closeSet c).1 := by
  cases hbad : closeSetBad c.origin c.serial c.lanes
  · cases hh : s.holding c.origin with
    | none => exact State.closeSet_of_free hbad hh ▸ s.insertClosure_work c
    | some x => exact State.closeSet_of_held hbad hh ▸ s.putClosure_work _ _
  · exact State.closeSet_of_bad hbad ▸ .refl s

theorem State.closeClear_work (s : State) (n serial : Nat) : s.ClosureWork (s.closeClear n serial).1 := by
  cases hbad : originBad n
  · cases hh : s.holding n with
    | none => exact State.closeClear_of_free hbad hh ▸ .refl s
    | some x =>
      rw [State.closeClear_of_held hbad hh]
      split
      · exact s.putClosure_work _ _
      · exact .refl s
  · exact State.closeClear_of_bad hbad ▸ .refl s

end Sys2Proof.Machine
end

section
/-!
PROOFS. The sound closure table (R108, R109, R111, R114, R115): every command keeps it.
-/
namespace Sys2Proof.Machine
-- One proof at a time: the threads of parallel proofs exceed the memory limit of the check.
set_option Elab.async false

/-! ### Sound tables -/

/-- Every position holds a sound entry, or none, and no two hold one origin (R108, R109). -/
structure TableSound (own : Nat) (t : Slots (Option Closure)) : Prop where
  sound : ∀ p c, t.get p = some c → c.sound own
  distinct : ∀ p q c d, t.get p = some c → t.get q = some d → c.origin = d.origin → p = q

/-- The origins held are different exactly when different positions hold different origins. -/
theorem State.nodup_origins_iff (s : State) : (s.entries.map (·.origin)).Nodup ↔
    ∀ p q c d, s.closures.get p = some c → s.closures.get q = some d → c.origin = d.origin → p = q := by
  unfold List.Nodup State.entries
  rw [List.pairwise_map, List.pairwise_filterMap, Slots.toList_eq_map, List.pairwise_map]
  constructor
  · intro h p q c d hc hd ho
    by_contra hne
    refine @List.Pairwise.forall Pos _ Pos.all ⟨?_⟩ h _ (Pos.mem_all p) _ (Pos.mem_all q) hne c hc d hd ho
    exact fun _ _ hxy b hb b' hb' => (hxy b' hb' b hb).symm
  · intro h
    have hnodup : Pos.all.Nodup := by decide
    exact hnodup.imp fun {p q} hne c hc d hd ho => hne (h p q c d hc hd ho)

theorem State.closuresSound_iff (s : State) :
    s.closuresSound ↔ TableSound s.own s.closures ∧ (s.station.restored = false → s.closures = Slots.const none) := by
  unfold State.closuresSound
  rw [s.nodup_origins_iff]
  constructor
  · rintro ⟨hsound, hdistinct, hempty⟩
    exact ⟨⟨fun p c hc => hsound c ((s.mem_entries c).mpr ⟨p, hc⟩), hdistinct⟩, hempty⟩
  · rintro ⟨⟨hsound, hdistinct⟩, hempty⟩
    refine ⟨fun c hc => ?_, hdistinct, hempty⟩
    obtain ⟨p, hp⟩ := (s.mem_entries c).mp hc
    exact hsound p c hp

theorem TableSound.empty (own : Nat) : TableSound own (Slots.const none) := by
  constructor <;> simp

theorem TableSound.setNone {own : Nat} {t : Slots (Option Closure)} (h : TableSound own t) (p : Pos) : TableSound own (t.set p none) := by
  have hkept {q : Pos} {c : Closure} (hc : (t.set p none).get q = some c) : t.get q = some c := by
    rw [Slots.get_set_eq] at hc
    split at hc
    · cases hc
    · exact hc
  exact ⟨fun q c hc => h.sound q c (hkept hc), fun q r c d hc hd => h.distinct q r c d (hkept hc) (hkept hd)⟩

/-- A sound entry may take a position if no other holds its origin. -/
theorem TableSound.setSome {own : Nat} {t : Slots (Option Closure)} (h : TableSound own t) {p : Pos} {c : Closure} (hc : c.sound own)
    (ho : ∀ q d, t.get q = some d → d.origin = c.origin → q = p) : TableSound own (t.set p (some c)) := by
  have hkept {q : Pos} {d : Closure} (hd : (t.set p (some c)).get q = some d) : (q = p ∧ d = c) ∨ (q ≠ p ∧ t.get q = some d) := by
    rw [Slots.get_set_eq] at hd
    split at hd
    · next hq => exact .inl ⟨hq, (Option.some.inj hd).symm⟩
    · next hq => exact .inr ⟨hq, hd⟩
  constructor
  · intro q d hd
    rcases hkept hd with ⟨-, rfl⟩ | ⟨-, hd⟩
    · exact hc
    · exact h.sound q d hd
  · intro q r d e hd he horigin
    rcases hkept hd with ⟨rfl, rfl⟩ | ⟨hq, hd'⟩ <;> rcases hkept he with ⟨rfl, rfl⟩ | ⟨hr, he'⟩
    · rfl
    · exact absurd (ho r e he' horigin.symm) hr
    · exact absurd (ho q d hd' horigin) hq
    · exact h.distinct q r d e hd' he' horigin

section
variable {s : State} (h : TableSound s.own s.closures)
include h

/-- A sound entry of an origin that is not held is inserted (R106, R108). -/
theorem TableSound.insertClosure {c : Closure} (hc : c.sound s.own) (hn : s.holding c.origin = none) :
    TableSound s.own (s.insertClosure c).closures := by
  rw [s.insertClosure_closures]
  split
  · exact h.setSome hc fun q d hd horigin => absurd horigin (State.positionOf_eq_none.mp (State.holding_eq_none.mp hn) q d hd)
  · exact h

/-- And one of a held origin takes its entry's place (R109). -/
theorem TableSound.replace {c held : Closure} {p : Pos} (hc : c.sound s.own) (hh : s.holding c.origin = some (p, held)) :
    TableSound s.own (s.closures.set p (some c)) :=
  have hheld := (State.holding_eq_some.mp hh).2
  h.setSome hc fun q d hd horigin => h.distinct q p d held hd hheld (horigin.trans (State.origin_of_holding hh).symm)

theorem TableSound.learnClosure {c : Closure} (hc : c.sound s.own) : TableSound s.own (s.learnClosure c).closures := by
  cases hh : s.holding c.origin with
  | none => exact State.learnClosure_of_free hh ▸ h.insertClosure hc hh
  | some x => exact State.learnClosure_of_held hh ▸ h.replace (c := { c with source := _ }) hc hh

theorem TableSound.absentClosure (n : Nat) : TableSound s.own (s.absentClosure n).closures := by
  cases hh : s.holding n with
  | none => exact (State.absentClosure_of_free hh).symm ▸ h
  | some x =>
    rw [State.absentClosure_of_held hh]
    split
    · exact h.setNone _
    · exact h

/-- A record of a station 1 to 62 with a readable closure is learned from (R113 to R115). -/
theorem TableSound.learn {n : Nat} {r : StatusRecord} (hn : 1 ≤ n ∧ n ≤ 62) (hr : ∀ c, r.ownClosure = some c → c.InRange) :
    TableSound s.own (s.learn n r).closures := by
  by_cases hm : r.mode = .running ∨ r.mode = .isolated
  · by_cases ha : ∃ c, r.ownClosure = some c ∧ (c.learned n).applies s.own = true
    · obtain ⟨c, hc, happlies⟩ := ha
      obtain ⟨hserial, hlanes, hlow, hhigh, hextent, hstep⟩ := hr c hc
      rw [State.learn_of_applies hm hc happlies]
      exact h.learnClosure ⟨happlies, hn.1, hn.2, hserial, hlanes, hlow, hhigh, hextent, hstep⟩
    · rw [State.learn_of_absent hm fun c hc => Bool.eq_false_iff.mpr fun happlies => ha ⟨c, hc, happlies⟩]
      exact h.absentClosure n
  · rw [State.learn_of_otherMode hm]
    exact h

/-- A CLOSE-SET that addresses the station finds its origin held, or carries an entry that applies (R110, R111). -/
theorem TableSound.closeSet {c : Closure} (hc : closeSetBad c.origin c.serial c.lanes = false → c.applies s.own = true → c.sound s.own)
    (ha : closeSetBad c.origin c.serial c.lanes = true ∨ c.applies s.own = true ∨ (s.positionOf c.origin).isSome = true) :
    TableSound s.own (s.closeSet c).1.closures := by
  cases hbad : closeSetBad c.origin c.serial c.lanes
  · cases hh : s.holding c.origin with
    | none =>
      have happlies : c.applies s.own = true := by simpa [hbad, State.holding_eq_none.mp hh] using ha
      rw [State.closeSet_of_free hbad hh]
      exact h.insertClosure (hc hbad happlies) hh
    | some x =>
      rw [State.closeSet_of_held hbad hh]
      dsimp only
      rw [s.putClosure_closures]
      split
      · next happlies => exact h.replace (hc hbad happlies) hh
      · exact h.setNone _
  · rw [State.closeSet_of_bad hbad]
    exact h

theorem TableSound.closeClear (n serial : Nat) : TableSound s.own (s.closeClear n serial).1.closures := by
  cases hbad : originBad n
  · cases hh : s.holding n with
    | none => exact (State.closeClear_of_free hbad hh).symm ▸ h
    | some x =>
      rw [State.closeClear_of_held hbad hh]
      split
      · rw [s.putClosure_closures]
        exact h.setNone _
      · exact h
  · exact (State.closeClear_of_bad hbad).symm ▸ h

end

/-! ### The fields of an entry (R61, R110, R111, R173) -/

theorem clampTaper_mem (n : Nat) : 1 ≤ clampTaper n ∧ clampTaper n ≤ 4 := by
  unfold clampTaper
  split <;> omega

theorem clampExtent_le (n : Nat) : clampExtent n ≤ 3 := Nat.min_le_right n 3

theorem clampStep_le (n : Nat) : clampStep n ≤ 6 := Nat.min_le_right n 6

theorem octet_le (o : Octet) : o.toNat ≤ 255 := Nat.le_of_lt_succ o.isLt

/-- The own closure of a readable body lies in the ranges of Table 7-1 (R61, R184). -/
theorem takeOwnClosure_inRange {carried : Bool} {os rest : List Octet} {c : OwnClosure}
    (h : takeOwnClosure carried os = some (some c, rest)) : c.InRange := by
  have hstep := takeOwnClosure_step h
  unfold takeOwnClosure at h
  split at h
  · split at h
    · next serial _ fields _ =>
      split at h
      · cases h
      · next hlanes =>
        cases h
        obtain ⟨hlow, hhigh⟩ := clampTaper_mem (octetField fields 7 5)
        exact ⟨octet_le serial, fun h0 => hlanes (.inl h0), hlow, hhigh, clampExtent_le _, hstep⟩
    · cases h
  · cases h

theorem readCarried_inRange {carries : Octet} {os held : List Octet} {demand displaced : Option Nat} {own : Option OwnClosure}
    (h : readCarried carries os = some (demand, displaced, own, held)) : ∀ c, own = some c → c.InRange := by
  rintro c rfl
  unfold readCarried at h
  split at h
  · cases h
  · split at h
    · cases h
    · split at h
      · cases h
      · next hown =>
        cases h
        exact takeOwnClosure_inRange hown

theorem readStatus_ownClosure_inRange {body : List Octet} {r : StatusRecord} (h : readStatus body = some r) :
    ∀ c, r.ownClosure = some c → c.InRange := by
  unfold readStatus at h
  split at h
  · split at h
    · cases h
      exact nofun
    · cases h
  · split at h
    · cases h
    · split at h
      · cases h
      · split at h
        · split at h
          · cases h
          · next hcarried =>
            split at h
            · cases h
              exact readCarried_inRange hcarried
            · cases h
        · cases h
  · cases h

/-- The clamped entry of a CLOSE-SET that is not refused is sound where it applies (R110, R111). -/
theorem closeSetEntry_sound {own : Nat} (origin serial lanes taper extent step : Octet)
    (hbad : closeSetBad origin.toNat serial.toNat (closedLanes lanes) = false)
    (ha : (closeSetEntry origin.toNat serial.toNat (closedLanes lanes) taper.toNat extent.toNat step.toNat).applies own = true) :
    (closeSetEntry origin.toNat serial.toNat (closedLanes lanes) taper.toNat extent.toNat step.toNat).sound own := by
  obtain ⟨hlow, hhigh⟩ := clampTaper_mem taper.toNat
  simp only [closeSetBad, originBad, Bool.or_eq_false_iff, decide_eq_false_iff_not, beq_eq_false_iff_ne] at hbad
  obtain ⟨⟨horigin, -⟩, hlanes⟩ := hbad
  exact ⟨ha, by show 1 ≤ origin.toNat; omega, by show origin.toNat ≤ 62; omega, octet_le serial, hlanes, hlow, hhigh,
    clampExtent_le _, clampStep_le _⟩

/-- The entry that an image holds is sound where it applies (R173). -/
theorem SlotImage.entry_sound {i : SlotImage} {c : Closure} {own : Nat} (h : i.entry = some c) (ha : c.applies own = true) :
    c.sound own := by
  unfold SlotImage.entry at h
  dsimp only at h
  split at h
  · next hfields =>
    obtain ⟨hlow, hhigh, -, hlanes, htaperLow, htaperHigh, hstep⟩ := hfields
    cases h
    have hextent : octetField i.fields 4 3 ≤ 3 := by
      unfold octetField
      omega
    exact ⟨ha, hlow, hhigh, octet_le _, hlanes, htaperLow, htaperHigh, hextent, hstep⟩
  · cases h

end Sys2Proof.Machine
end

section
/-!
PROOFS. The sound closure table (R108, R109, R111, R114, R115): the reception of frames, the start of the station, and every command.
-/
namespace Sys2Proof.Machine
-- One proof at a time: the threads of parallel proofs exceed the memory limit of the check.
set_option Elab.async false

/-! ### Steps that keep the table sound -/

/-- A sound closure table of a station that acts only after its restore. -/
structure State.ClosuresReady (s : State) : Prop where
  sound : s.closuresSound
  restored : s.acting = true → s.station.restored = true

theorem State.ClosuresReady.table {s : State} (h : s.ClosuresReady) : TableSound s.own s.closures := (s.closuresSound_iff.mp h.sound).1

/-- What leaves the table, the own number and the mark of the restore keeps them, if it begins to act only after the restore. -/
theorem State.ClosuresReady.congr {s t : State} (h : s.ClosuresReady) (hc : t.closures = s.closures) (ho : t.own = s.own)
    (hr : t.station.restored = s.station.restored) (ha : t.acting = true → t.station.restored = true) : t.ClosuresReady := by
  refine ⟨?_, ha⟩
  rw [State.closuresSound_iff, hc, ho, hr]
  exact s.closuresSound_iff.mp h.sound

theorem State.SameHeld.ready {s t : State} (h : s.SameHeld t) (hs : s.ClosuresReady) : t.ClosuresReady :=
  hs.congr h.closures h.own h.restored fun ha => h.restored.trans (hs.restored (h.acting ▸ ha))

/-- Work of the closure table in an acting station that ends with a sound table. -/
theorem State.ClosureWork.ready {s t : State} (h : s.ClosureWork t) (hs : s.ClosuresReady) (ha : s.acting = true)
    (ht : TableSound s.own t.closures) : t.ClosuresReady := by
  have hstation : t.station = s.station := h.same .station (by decide)
  have hrestored : t.station.restored = true := hstation ▸ hs.restored ha
  exact ⟨t.closuresSound_iff.mpr ⟨State.own_congr hstation ▸ ht, fun hf => nomatch hf.symm.trans hrestored⟩, fun _ => hrestored⟩

theorem State.ClosuresReady.learn {s : State} (hs : s.ClosuresReady) (ha : s.acting = true) {n : Nat} {r : StatusRecord}
    (hn : 1 ≤ n ∧ n ≤ 62) (hr : ∀ c, r.ownClosure = some c → c.InRange) : (s.learn n r).ClosuresReady :=
  (s.learn_work n r).ready hs ha (hs.table.learn hn hr)

/-- The delivery of a STATUS frame of a source from 1 on (R61, R62, R113). -/
theorem State.ClosuresReady.takeStatus {s : State} (hs : s.ClosuresReady) (before : State) {n : Nat} (hn : 1 ≤ n) (body : List Octet)
    (o : Order) : (s.takeStatus before n body o).ClosuresReady := by
  unfold State.takeStatus
  split
  · next hc =>
    obtain ⟨ha, h62⟩ := Bool.and_eq_true _ _ ▸ hc
    have hn' : 1 ≤ n ∧ n ≤ 62 := ⟨hn, of_decide_eq_true h62⟩
    split
    · next r hr =>
      have hfields := readStatus_ownClosure_inRange hr
      have hstore (t : State) : t.SameHeld (t.storeRecord n r) := .of_same (t.storeRecord_same n r)
      rcases s.inOrder_cases before o (fun t => t.storeRecord n r) (fun t => t.learn n r) with ⟨-, e⟩ | ⟨-, e⟩
      · have hfirst := (hstore s).serveSome (before := before) (rs := o.between)
        exact e ▸ (hfirst.ready hs).learn (hfirst.acting.trans ha) hn' hfields
      · exact e ▸ (State.SameHeld.serveSome (.refl (s.learn n r))).trans (hstore _) |>.ready (hs.learn ha hn' hfields)
    · exact hs
  · exact hs

/-- The reception of a frame keeps the table sound if its delivery does (R46). -/
theorem State.ClosuresReady.receive {s : State} (hs : s.ClosuresReady) (f : Frame) (o : Order) {deliver : State → State}
    (h : f.rejected s.own = false → ∀ t : State, t.ClosuresReady → (deliver t).ClosuresReady) :
    (s.receive f o deliver).ClosuresReady := by
  unfold State.receive
  split
  · split
    · exact s.loseFrame_sameHeld.ready hs
    · next hr =>
      have harrived := (s.arrivedFrom_sameHeld f.source.toNat).serveSome (before := s) (rs := o.early)
      exact (State.SameHeld.settle (.refl _)).ready (h (Bool.not_eq_true _ ▸ hr) _ (harrived.ready hs))
  · exact hs

/-- An owner that acts on commands which address an acting station (R175). -/
theorem State.ClosuresReady.obey {s : State} (hs : s.ClosuresReady) {c : Command} {owner : State → State × ResultCode}
    (h : s.acting = true → s.addresses c = true → (owner s).1.ClosuresReady) : (s.obey c false owner).ClosuresReady := by
  unfold State.obey
  split
  · next hadr =>
    split
    · next hacts =>
      rw [Bool.or_false] at hacts
      exact (State.record_sameHeld _ _ _).ready (h hacts hadr)
    · exact (s.record_sameHeld _ _).ready hs
  · exact hs

/-! ### The commands that carry a closure -/

/-- A command's outcome keeps the closure table sound. -/
def ClosuresKept (s : State) (r : Result) : Prop := ∀ t, r = .next t → s.ClosuresReady → t.ClosuresReady

theorem ClosuresKept.next {s t : State} {dt : Nat} (h : (s.advance dt).ClosuresReady → t.ClosuresReady) : ClosuresKept s (.next t) := by
  rintro _ ⟨⟩ hs
  exact h ((State.SameHeld.of_same (s.advance_same dt)).ready hs)

theorem ClosuresKept.idle {s : State} {dt : Nat} : ClosuresKept s (.next (s.advance dt)) := .next id

theorem ClosuresKept.guarded {s t : State} {dt : Nat} {c : Prop} [Decidable c]
    (h : c → (s.advance dt).ClosuresReady → t.ClosuresReady) : ClosuresKept s (if c then .next t else .next (s.advance dt)) := by
  split
  · next hc => exact .next (h hc)
  · exact .idle

/-- A frame that is not rejected has a source from 1 on (R46). -/
theorem Frame.one_le_source {f : Frame} {own : Nat} (h : f.rejected own = false) : 1 ≤ f.source.toNat := by
  have hsource : f.source ≠ 0 := by
    rintro h0
    simp [Frame.rejected, h0] at h
  exact Nat.one_le_iff_ne_zero.mpr fun h0 => hsource (BitVec.eq_of_toNat_eq h0)

theorem execStatusFrame_closures (dt : Nat) (cls : BitVec 2) (source : BitVec 6) (body : List Octet) (o : Order) (s : State) :
    ClosuresKept s (execStatusFrame dt cls source body o s) :=
  .next fun hs => hs.receive _ o fun hr _ ht => ht.takeStatus _ (Frame.one_le_source hr) body o

theorem execCloseSet_closures (dt : Nat) (origin serial lanes taper extent step : Octet) (o : Order) (s : State) :
    ClosuresKept s (execCloseSet dt origin serial lanes taper extent step o s) :=
  .next fun hs => hs.receive _ o fun _ t ht => ht.obey fun ha hadr => by
    simp only [State.addresses, Bool.or_eq_true, or_assoc] at hadr
    exact (t.closeSet_work _).ready ht ha (ht.table.closeSet (closeSetEntry_sound origin serial lanes taper extent step) hadr)

theorem execCloseClear_closures (dt : Nat) (origin serial : Octet) (o : Order) (s : State) :
    ClosuresKept s (execCloseClear dt origin serial o s) :=
  .next fun hs => hs.receive _ o fun _ t ht => ht.obey fun ha _ => (t.closeClear_work _ _).ready ht ha (ht.table.closeClear _ _)

/-! ### Station control -/

/-- A reset holds no entry (R174). -/
theorem State.restart_closures (s : State) (straps : Straps) : ClosuresKept s (.next (s.restart straps)) := by
  rintro _ ⟨⟩ -
  have hclosures : (s.restart straps).closures = Slots.const none := by
    unfold State.restart
    dsimp only
    split <;> rfl
  have hmode : (s.restart straps).mode = .starting := by
    unfold State.restart
    dsimp only
    split <;> rfl
  refine ⟨(State.closuresSound_iff _).mpr ?_, fun ha => ?_⟩
  · rw [hclosures]
    exact ⟨.empty _, fun _ => rfl⟩
  · rw [State.acting, hmode] at ha
    cases ha

/-- The start-up check ends outside the acting modes, with the table and the own number as they were (R165 to R167). -/
theorem execStartUpCheck_closures (dt : Nat) (image : List Octet) (s : State) : ClosuresKept s (execStartUpCheck dt image s) := by
  have hfault (u : State) (hc : u.closures = s.closures) (ho : u.station.straps = s.station.straps)
      (hr : u.station.restored = s.station.restored) : ClosuresKept s (.next u.enterConfigFault) := by
    obtain ⟨hstation, -, -, -, -, hsame⟩ := u.enterConfigFault_spec
    rintro _ ⟨⟩ hs
    refine hs.congr ((hsame .closures (by decide)).trans hc) ?_ (hstation ▸ hr) fun ha => ?_
    · unfold State.own
      rw [hstation, ← ho]
    · rw [State.acting, State.mode, hstation] at ha
      cases ha
  unfold execStartUpCheck
  dsimp only
  split
  · next hcond =>
    simp only [Bool.and_eq_true, beq_iff_eq] at hcond
    obtain ⟨⟨hm, -⟩, -⟩ := hcond
    split
    · unfold State.judgeImage
      dsimp only
      rw [State.raiseImageFaults_eq]
      split
      · have hhand (u : State) : u.SameHeld u.handOver := .of_same u.handOver_same
        rintro _ ⟨⟩ hs
        refine (hhand _).ready (hs.congr rfl rfl rfl fun ha => ?_)
        exact nomatch (congrArg Mode.acting hm).symm.trans ha
      · exact hfault _ rfl rfl rfl
    · exact hfault _ rfl rfl rfl
  · exact .idle

/-- A slot is restored whose image holds an entry that applies, of an origin that is not held (R173). -/
theorem State.slotOutcome_restore {s : State} {x : RetentionSlot} {c : Closure} (h : s.slotOutcome x = .restore c) :
    x.image.entry = some c ∧ c.applies s.own = true ∧ s.positionOf c.origin = none := by
  unfold State.slotOutcome at h
  split at h
  · cases h
  · split at h
    · cases h
    · split at h
      · split at h
        · next hentry =>
          split at h
          · cases h
          · next happlies =>
            split at h
            · cases h
            · next hfree =>
              cases h
              exact ⟨hentry, by simpa using happlies, by simpa using hfree⟩
        · cases h
      · cases h

theorem TableSound.restoreSlot {s : State} (h : TableSound s.own s.closures) (p : Pos) :
    TableSound (s.restoreSlot p).own (s.restoreSlot p).closures := by
  rw [State.own_congr (s.restoreSlot_same p .station (by decide))]
  unfold State.restoreSlot
  split
  · exact h
  · exact (State.markDirty_same s p .closures (by decide) : _ = _) ▸ h
  · exact (State.markDirty_same (s.raiseFault _ p.num) p .closures (by decide) : _ = _) ▸ h
  · next hc =>
    obtain ⟨hentry, happlies, hnone⟩ := State.slotOutcome_restore hc
    exact h.setSome (SlotImage.entry_sound hentry happlies) fun q e he horigin =>
      absurd horigin (State.positionOf_eq_none.mp hnone q e he)

theorem TableSound.restoreSlots {s : State} (h : TableSound s.own s.closures) (ps : List Pos) :
    TableSound (ps.foldl State.restoreSlot s).own (ps.foldl State.restoreSlot s).closures := by
  induction ps generalizing s with
  | nil => exact h
  | cons p ps ih => exact ih (h.restoreSlot p)

theorem execRestoreComplete_closures (dt : Nat) (s : State) : ClosuresKept s (execRestoreComplete dt s) := by
  unfold execRestoreComplete
  dsimp only
  refine .guarded fun _ hs => ?_
  have htable := hs.table.restoreSlots Pos.all
  generalize Pos.all.foldl State.restoreSlot (s.advance dt) = u at htable ⊢
  generalize hv : u.setStation { u.station with restored := true } = v
  have hstation : v.startWrite.station = { u.station with restored := true } := (v.startWrite_same .station (by decide)).trans (hv ▸ rfl)
  have hrestored : v.startWrite.station.restored = true := hstation ▸ rfl
  have hclosures : v.startWrite.closures = u.closures := (v.startWrite_same .closures (by decide)).trans (hv ▸ rfl)
  have hown : v.startWrite.own = u.own := by
    unfold State.own
    rw [hstation]
  refine ⟨(State.closuresSound_iff _).mpr ⟨?_, fun hf => nomatch hf.symm.trans hrestored⟩, fun _ => hrestored⟩
  rw [hclosures, hown]
  exact htable

/-- The entry into WARMING begins to act after the restore (R168). -/
theorem execWarmingEntry_closures (dt : Nat) (s : State) : ClosuresKept s (execWarmingEntry dt s) := by
  refine .guarded fun hc hs => ?_
  simp only [Bool.and_eq_true] at hc
  obtain ⟨⟨-, hrestored⟩, -⟩ := hc
  have hstarted : (s.advance dt).warmingStarted.ClosuresReady := hs.congr rfl rfl rfl fun _ => hrestored
  exact (State.SameHeld.settle (.refl (s.advance dt).warmingStarted)).ready hstarted

theorem execSlotWriteCompletion_closures (dt : Nat) (s : State) : ClosuresKept s (execSlotWriteCompletion dt s) := by
  unfold execSlotWriteCompletion
  dsimp only
  split
  · next w _ =>
    have hsame : SameOutside [.retention] (s.advance dt) ((s.advance dt).completeWrite w).startWrite :=
      (State.setRetention_same _ _).trans (State.startWrite_same _) (fun _ h => h) (fun _ h => h)
    have hstation : ((s.advance dt).completeWrite w).startWrite.station = (s.advance dt).station := hsame .station (by decide)
    refine .guarded fun _ hs => hs.congr (hsame .closures (by decide)) (State.own_congr hstation) (congrArg Station.restored hstation) ?_
    intro ha
    rw [hstation]
    exact hs.restored ((congrArg (fun c : Station => c.mode.acting) hstation).symm.trans ha)
  · exact .idle

/-! ### Every command -/

theorem exec_closuresKept (i : Instr) (s : State) : ClosuresKept s (exec i s) := by
  cases hi : mayChangeHeld i
  · exact fun t ht hs => (exec_heldLeft i s hi t ht).ready hs
  · cases i with
    | powerOnReset straps => exact s.restart_closures straps
    | resetPin straps => exact s.restart_closures straps
    | startUpCheck dt image => exact execStartUpCheck_closures dt image s
    | restoreComplete dt => exact execRestoreComplete_closures dt s
    | warmingEntry dt => exact execWarmingEntry_closures dt s
    | statusFrame dt cls source body o => exact execStatusFrame_closures dt cls source body o s
    | closeSet dt origin serial lanes taper extent step o => exact execCloseSet_closures dt origin serial lanes taper extent step o s
    | closeClear dt origin serial o => exact execCloseClear_closures dt origin serial o s
    | slotWriteCompletion dt => exact execSlotWriteCompletion_closures dt s
    | _ => cases hi

/-- Settles O10: every command keeps the table sound, those that carry a closure by the ranges of its fields and the search for its
origin. -/
theorem closureTableStaysSound : Obligations.ClosureTableStaysSound := by
  intro s t hstation hclosures ht
  unfold step at ht
  split at ht
  · next i rest _ =>
    obtain ⟨-, -, -, hacting, -⟩ := hstation
    have hready : (s.setPending rest).ClosuresReady := ⟨hclosures, hacting⟩
    exact (exec_closuresKept i (s.setPending rest) t ht hready).sound
  · cases ht
    exact hclosures

end Sys2Proof.Machine
end

section
/-!
PROOFS. The composition of a plan (R119 to R122, R131, R132, R135 to R140): the cases of a lane, its aspect, and the legend.
-/
namespace Sys2Proof.Machine
-- One proof at a time: the threads of parallel proofs exceed the memory limit of the check.
set_option Elab.async false

/-! ### The cases of a lane (R121, R132, R135, R136) -/

theorem State.isShoulder_iff (s : State) (k : Lane) : s.isShoulder k = true ↔ s.cfg.shoulderLane = true ∧ k = .l1 := by
  simp [State.isShoulder]

theorem State.shoulderCloses_iff (s : State) (k : Lane) :
    s.shoulderCloses k = true ↔
      (s.cfg.shoulderLane = true ∧ k = .l1) ∧ (s.shoulder.state = .closed ∨ s.shoulder.state = .checking) := by
  simp [State.shoulderCloses, State.isShoulder_iff]

theorem State.shoulderClosing_iff (s : State) (k : Lane) :
    s.shoulderClosing k = true ↔ (s.cfg.shoulderLane = true ∧ k = .l1) ∧ s.shoulder.state = .closing := by
  simp [State.shoulderClosing, State.isShoulder_iff]

theorem State.closedByEntry_iff (s : State) (k : Lane) :
    s.closedByEntry k = true ↔
      ∃ c ∈ s.entries, c.origin ≤ s.own ∧ s.own ≤ c.origin + c.extent ∧ c.lanes.getLsbD (k.num - 1) = true := by
  simp [State.closedByEntry, Closure.closedAt, Closure.names, and_assoc]

theorem State.mergedByEntry_iff (s : State) (k : Lane) :
    s.mergedByEntry k = true ↔
      ∃ c ∈ s.entries, c.origin ≤ s.own + c.taper ∧ s.own < c.origin ∧ c.lanes.getLsbD (k.num - 1) = true := by
  simp [State.mergedByEntry, Closure.taperAt, Closure.names, and_assoc]

/-- The nearest downstream neighbour publishes fields for a lane (R69). -/
def State.publishesLane (s : State) (k : Lane) (v : LaneView) : Prop :=
  ∃ e, s.nearestDown = some e ∧ e.void = false ∧ e.record.lanes[k.num - 1]? = some v

theorem State.downLane_eq_some (s : State) (k : Lane) (v : LaneView) : s.downLane k = some v ↔ s.publishesLane k v :=
  s.downView_bind_eq_some (fun r => r.lanes[k.num - 1]?) v

/-- A mark that the published fields of a lane give. -/
theorem State.downLane_map_eq_true (s : State) (k : Lane) (f : LaneView → Bool) :
    ((s.downLane k).map f == some true) = true ↔ ∃ v, s.publishesLane k v ∧ f v = true := by
  simp only [beq_iff_eq, Option.map_eq_some_iff, State.downLane_eq_some]

theorem State.takenOver_iff (s : State) (k : Lane) :
    s.takenOver k = true ↔ k.num ≤ s.cfg.laneCount ∧ ∃ v, s.publishesLane k v ∧ v.displaced = true := by
  unfold State.takenOver
  rw [Bool.and_eq_true, decide_eq_true_eq, s.downLane_map_eq_true]

theorem State.interlock_iff (s : State) :
    s.interlock = true ↔ ∃ e x, s.nearestDown = some e ∧ e.void = false ∧ e.record.shoulder = some x ∧ x ≠ .opened := by
  have hfield : s.interlock = true ↔ ∃ x, s.downView.bind (·.shoulder) = some x ∧ x ≠ .opened := by
    unfold State.interlock
    cases s.downView.bind (·.shoulder) <;> simp
  simp only [hfield, s.downView_bind_eq_some]
  exact ⟨fun ⟨x, ⟨e, he, hvoid, hx⟩, hne⟩ => ⟨e, x, he, hvoid, hx, hne⟩,
    fun ⟨e, x, he, hvoid, hx, hne⟩ => ⟨x, ⟨e, he, hvoid, hx⟩, hne⟩⟩

theorem State.closedCase_iff (s : State) (k : Lane) :
    s.closedCase k = true ↔ s.shoulderCloses k = true ∨ s.closedByEntry k = true ∨ s.takenOver k = true := by
  simp [State.closedCase, or_assoc]

theorem State.mergeCase_iff (s : State) (k : Lane) :
    s.mergeCase k = true ↔ s.closedCase k = false ∧
      (s.mergedByEntry k = true ∨ s.shoulderClosing k = true ∨
        ((s.cfg.shoulderLane = true ∧ k = .l1) ∧ s.shoulder.state = .opened ∧ s.interlock = true) ∨
        ∃ v, s.publishesLane k v ∧ v.takenOver = true ∧ v.displaced = false) := by
  unfold State.mergeCase
  simp only [Bool.and_eq_true, Bool.or_eq_true, Bool.not_eq_true', s.downLane_map_eq_true, s.isShoulder_iff, beq_iff_eq, or_assoc,
    and_assoc]

/-! ### The running lane nearest to a lane (R119) -/

theorem nearestRunning_concat (k j : Lane) (l : List Lane) :
    nearestRunning k (l ++ [j]) =
      match nearestRunning k l with
      | none => some j
      | some b => if laneDistance j k ≤ laneDistance b k then some j else some b := by
  unfold nearestRunning
  rw [List.foldl_append]
  rfl

/-- Of lanes in rising order a nearest is found, and of two equally near ones the higher. -/
theorem nearestRunning_spec (k : Lane) {l : List Lane} (hl : l.Pairwise (fun i j => i.num < j.num)) (hne : l ≠ []) :
    ∃ j, nearestRunning k l = some j ∧ j ∈ l ∧
      ∀ i ∈ l, laneDistance j k < laneDistance i k ∨ (laneDistance j k = laneDistance i k ∧ i.num ≤ j.num) := by
  induction l using List.reverseRecOn with
  | nil => exact absurd rfl hne
  | append_singleton l j ih =>
    obtain ⟨hinit, -, hlast⟩ := List.pairwise_append.mp hl
    have hbelow : ∀ i ∈ l, i.num < j.num := fun i hi => hlast i hi j (List.mem_singleton.mpr rfl)
    rw [nearestRunning_concat]
    by_cases hnil : l = []
    · subst hnil
      exact ⟨j, rfl, List.mem_singleton.mpr rfl, fun i hi => by rw [List.mem_singleton.mp hi]; exact .inr ⟨rfl, le_rfl⟩⟩
    · obtain ⟨b, hb, hmem, hbest⟩ := ih hinit hnil
      rw [hb]
      dsimp only
      split
      · next hle =>
        refine ⟨j, rfl, List.mem_append_right l (List.mem_singleton.mpr rfl), fun i hi => ?_⟩
        rcases List.mem_append.mp hi with hi | hi
        · have hlt := hbelow i hi
          have := hbest i hi
          omega
        · rw [List.mem_singleton.mp hi]
          exact .inr ⟨rfl, le_rfl⟩
      · next hgt =>
        refine ⟨b, rfl, List.mem_append_left [j] hmem, fun i hi => ?_⟩
        rcases List.mem_append.mp hi with hi | hi
        · exact hbest i hi
        · rw [List.mem_singleton.mp hi]
          exact .inl (Nat.lt_of_not_le hgt)

theorem State.planRunning_pairwise (s : State) : s.planRunning.Pairwise (fun i j => i.num < j.num) := by
  have hall : Lane.all.Pairwise (fun i j => i.num < j.num) := by decide
  exact (hall.filter _).filter _

theorem State.mem_planRunning (s : State) (k : Lane) :
    k ∈ s.planRunning ↔ k.num ≤ s.cfg.laneCount ∧ s.closedCase k = false ∧ s.mergeCase k = false := by
  simp [State.planRunning, s.mem_laneList]

/-! ### The aspect of a lane (R119, R135 to R138) -/

theorem State.composeAspect_of_above {s : State} {k : Lane} (h : s.cfg.laneCount < k.num) : s.composeAspect k = .blank := if_pos h

section
variable {s : State} {k : Lane} (hk : k.num ≤ s.cfg.laneCount)
include hk

theorem State.composeAspect_of_closed (h : s.closedCase k = true) : s.composeAspect k = .closed := by
  unfold State.composeAspect
  rw [if_neg (Nat.not_lt.mpr hk), if_pos h]

theorem State.composeAspect_of_running (hc : s.closedCase k = false) (hm : s.mergeCase k = false) :
    s.composeAspect k = s.openAspect := by
  unfold State.composeAspect
  rw [if_neg (Nat.not_lt.mpr hk), hc, hm]
  rfl

/-- A lane that merges points toward a nearest running lane. -/
theorem State.composeAspect_of_merge (hm : s.mergeCase k = true) (hr : s.planRunning ≠ []) :
    ∃ j, (j ∈ s.planRunning ∧ ∀ i ∈ s.planRunning, laneDistance j k < laneDistance i k ∨
        (laneDistance j k = laneDistance i k ∧ i.num ≤ j.num)) ∧
      s.composeAspect k = if j.num < k.num then .mergeNear else .mergeOff := by
  obtain ⟨j, hj, hmem, hbest⟩ := nearestRunning_spec k s.planRunning_pairwise hr
  refine ⟨j, ⟨hmem, hbest⟩, ?_⟩
  unfold State.composeAspect
  rw [if_neg (Nat.not_lt.mpr hk), ((s.mergeCase_iff k).mp hm).1, hm, hj]
  rfl

theorem State.composeAspect_of_merge_alone (hm : s.mergeCase k = true) (hr : s.planRunning = []) :
    s.composeAspect k = if s.shoulderClosing k then .closed else s.openAspect := by
  unfold State.composeAspect
  rw [if_neg (Nat.not_lt.mpr hk), ((s.mergeCase_iff k).mp hm).1, hm, hr]
  rfl

end

theorem State.openAspect_group (s : State) : s.openAspect.group = 0 := by
  unfold State.openAspect
  split
  · rfl
  · split <;> rfl

/-- An arrow points at a running lane. -/
theorem State.planRunning_ne_nil_of_arrow {s : State} {k : Lane} (h : (s.composeAspect k).group = 1) : s.planRunning ≠ [] := by
  intro hr
  by_cases hk : k.num ≤ s.cfg.laneCount
  · cases hc : s.closedCase k
    · cases hm : s.mergeCase k
      · rw [State.composeAspect_of_running hk hc hm, s.openAspect_group] at h
        cases h
      · rw [State.composeAspect_of_merge_alone hk hm hr] at h
        split at h
        · cases h
        · rw [s.openAspect_group] at h
          cases h
    · rw [State.composeAspect_of_closed hk hc] at h
      cases h
  · rw [State.composeAspect_of_above (Nat.lt_of_not_le hk)] at h
    cases h

theorem Aspect.group_eq_one (a : Aspect) : a.group = 1 ↔ a = .mergeNear ∨ a = .mergeOff := by cases a <;> simp [Aspect.group]

theorem Aspect.group_ne_zero (a : Aspect) : a.group ≠ 0 ↔ a = .closed ∨ a = .mergeNear ∨ a = .mergeOff := by
  cases a <;> simp [Aspect.group]

/-! ### The legend (R139, R140) -/

/-- An override names its legend while it is present. -/
theorem State.overrideLegend_iff (s : State) {l : Legend} (hl : l ≠ .none) :
    s.overrideLegend = l ↔ ∃ o, s.speed.override = some o ∧ o.legend = l := by
  unfold State.overrideLegend
  cases s.speed.override <;> simp [hl.symm]

theorem State.incidentRaised_iff (s : State) :
    s.incidentRaised = true ↔
      (∃ c, s.entryApplies c ∧ ∀ j : Lane, j.num ≤ s.cfg.laneCount → c.lanes.getLsbD (j.num - 1) = true) ∨
        s.planRunning = [] ∨ ∃ o, s.speed.override = some o ∧ o.legend = .incident := by
  simp [State.incidentRaised, State.mem_applying, State.mem_laneList, Closure.names, s.overrideLegend_iff, or_assoc]

theorem State.lanesClosedRaised_iff (s : State) :
    s.lanesClosedRaised = true ↔
      (∃ j : Lane, j.num ≤ s.cfg.laneCount ∧
        (s.composeAspect j = .closed ∨ s.composeAspect j = .mergeNear ∨ s.composeAspect j = .mergeOff) ∧
        (s.shoulderCloses j = true → s.closedByEntry j = true ∨ s.takenOver j = true)) ∨
        ∃ o, s.speed.override = some o ∧ o.legend = .lanesClosed := by
  have hcounts (j : Lane) : (!(s.shoulderCloses j && !s.closedByEntry j && !s.takenOver j)) = true ↔
      (s.shoulderCloses j = true → s.closedByEntry j = true ∨ s.takenOver j = true) := by
    cases s.shoulderCloses j <;> cases s.closedByEntry j <;> simp
  unfold State.lanesClosedRaised
  rw [Bool.or_eq_true, List.any_eq_true, beq_iff_eq, s.overrideLegend_iff (l := .lanesClosed) nofun]
  simp only [s.mem_laneList, Bool.and_eq_true, bne_iff_ne, Aspect.group_ne_zero, hcounts]

theorem State.queueRaised_iff (s : State) :
    (s.composer.queueCandidate || s.overrideLegend == .queue) = true ↔
      s.composer.queueCandidate = true ∨ ∃ o, s.speed.override = some o ∧ o.legend = .queue := by
  rw [Bool.or_eq_true, beq_iff_eq, s.overrideLegend_iff (l := .queue) nofun]

/-- The legend is the highest candidate raised. -/
theorem State.composeLegend_spec (s : State) :
    (s.composeLegend = .incident ↔ s.incidentRaised = true) ∧
      (s.composeLegend = .lanesClosed ↔ ¬s.incidentRaised = true ∧ s.lanesClosedRaised = true) ∧
      (s.composeLegend = .queue ↔ ¬s.incidentRaised = true ∧ ¬s.lanesClosedRaised = true ∧
        (s.composer.queueCandidate || s.overrideLegend == .queue) = true) ∧
      (s.composeLegend = .caution ↔ ¬s.incidentRaised = true ∧ ¬s.lanesClosedRaised = true ∧
        ¬(s.composer.queueCandidate || s.overrideLegend == .queue) = true ∧ s.overrideLegend = .caution) := by
  unfold State.composeLegend
  generalize (s.composer.queueCandidate || s.overrideLegend == .queue) = queue
  split
  · next hi => simp [hi]
  · next hi =>
    split
    · next hl => simp [hi, hl]
    · next hl =>
      split
      · next hq => simp [hi, hl, hq]
      · next hq =>
        split
        · next hc => simp [hi, hl, hq, beq_iff_eq.mp hc]
        · next hc => simp [hi, hl, hq, beq_iff_eq.not.mp hc]

theorem Legend.flashes_iff (l : Legend) : l.flashes = true ↔ l = .incident ∨ l = .lanesClosed ∨ l = .queue := by
  cases l <;> simp [Legend.flashes]

/-- Settles O47: the cases by what raises them, the aspect by the cases, and the legend by its candidates. -/
theorem compositionFollowsItsCases : Obligations.CompositionFollowsItsCases := by
  intro s k plan open_ gap best shoulder closure taper down overtaken
  have haspect (j : Lane) : plan.aspects.get j = s.composeAspect j := Lanes.get_build _ j
  have htaken : plan.taken.get k = s.takenOver k := Lanes.get_build _ k
  have hgap (j : Lane) : gap j = laneDistance j k := by
    show (if j.num ≤ k.num then k.num - j.num else j.num - k.num) = j.num - k.num + (k.num - j.num)
    split <;> omega
  obtain ⟨hincident, hclosed, hqueue, hcaution⟩ := s.composeLegend_spec
  rw [s.overrideLegend_iff (l := .caution) nofun] at hcaution
  simp only [s.incidentRaised_iff, s.lanesClosedRaised_iff, s.queueRaised_iff] at hincident hclosed hqueue hcaution
  refine ⟨?closedCase, ?mergeCase, ?takenMark, fun hk => ?laneAbove,
    fun hk => ⟨fun hc => ?closed, fun hm hr => ?arrow, fun hm hr => ?mergeAlone, fun hc hm => ?running⟩, fun h => ?arrowHasTarget,
    ?legend, Legend.flashes_iff s.composeLegend⟩
  case closedCase =>
    rw [s.closedCase_iff, s.shoulderCloses_iff, s.closedByEntry_iff, s.takenOver_iff]
    rfl
  case mergeCase =>
    rw [s.mergeCase_iff, s.mergedByEntry_iff, s.shoulderClosing_iff, s.interlock_iff]
    rfl
  case takenMark =>
    rw [htaken, s.takenOver_iff]
    rfl
  case laneAbove =>
    rw [haspect, htaken]
    exact ⟨State.composeAspect_of_above hk, Bool.eq_false_iff.mpr fun h => Nat.not_le.mpr hk ((s.takenOver_iff k).mp h).1⟩
  case closed =>
    rw [haspect]
    exact State.composeAspect_of_closed hk hc
  case arrow =>
    obtain ⟨j, ⟨hmem, hbest⟩, hj⟩ := State.composeAspect_of_merge hk hm hr
    refine ⟨j, ⟨hmem, fun i hi => ?_⟩, ?_, (haspect k).trans hj⟩
    · rw [hgap, hgap]
      exact hbest i hi
    · rintro rfl
      obtain ⟨-, -, hrunning⟩ := (s.mem_planRunning j).mp hmem
      exact nomatch hm.symm.trans hrunning
  case mergeAlone =>
    exact (haspect k).trans (State.composeAspect_of_merge_alone hk hm hr)
  case running =>
    exact ⟨(s.mem_planRunning k).mpr ⟨hk, hc, hm⟩, (haspect k).trans (State.composeAspect_of_running hk hc hm)⟩
  case arrowHasTarget =>
    rw [haspect] at h
    exact State.planRunning_ne_nil_of_arrow ((Aspect.group_eq_one _).mpr h)
  case legend =>
    simp only [haspect]
    exact ⟨hincident, hclosed, hqueue, hcaution⟩

end Sys2Proof.Machine
end

section
/-!
PROOFS. What a STATUS frame teaches the closure table (R113 to R115).
-/
namespace Sys2Proof.Machine
-- One proof at a time: the threads of parallel proofs exceed the memory limit of the check.
set_option Elab.async false

theorem State.insertClosure_of_freePosition {s : State} {p : Pos} (c : Closure) (h : s.freePosition = some p) :
    s.insertClosure c = s.putClosure p (some c) := by
  unfold State.insertClosure
  rw [h]

/-- Whichever table takes the record first, and whatever the readers do between them, the closure table learns from the entries as
they were held. -/
theorem State.takeStatus_closures {s : State} (before : State) {n : Nat} {body : List Octet} {r : StatusRecord} (o : Order)
    (ha : s.acting = true) (hn : n ≤ 62) (hr : readStatus body = some r) :
    ∃ u, s.SameHeld u ∧ (s.takeStatus before n body o).closures = (u.learn n r).closures := by
  have hstore (v : State) : v.SameHeld (v.storeRecord n r) := .of_same (v.storeRecord_same n r)
  unfold State.takeStatus
  rw [ha, decide_eq_true hn, Bool.and_self, if_pos rfl, hr]
  rcases s.inOrder_cases before o (fun t => t.storeRecord n r) (fun t => t.learn n r) with ⟨-, e⟩ | ⟨-, e⟩
  · exact ⟨_, (hstore s).serveSome, congrArg State.closures e⟩
  · exact ⟨s, .refl s, (congrArg State.closures e).trans ((State.SameHeld.refl _).serveSome.trans (hstore _)).closures⟩

/-- A STATUS frame that is heard, with a readable body, brings to the closure table what the learning makes of it. -/
theorem exec_statusFrame_closures {dt : Nat} {cls : BitVec 2} {source : BitVec 6} {body : List Octet} (o : Order) {s : State}
    {r : StatusRecord} (ha : s.acting = true) (hh : s.canHear (Frame.checked cls kindStatus source body) = true) (h0 : source ≠ 0)
    (h63 : source ≠ 63) (ho : source.toNat ≠ s.own) (hr : readStatus body = some r) :
    ∃ t u, exec (.statusFrame dt cls source body o) s = .next t ∧ s.SameHeld u ∧ t.closures = (u.learn source.toNat r).closures := by
  have hsource : source.toNat ≤ 62 := by
    have hne : source.toNat ≠ 63 := fun h => h63 (BitVec.eq_of_toNat_eq h)
    have hlt := source.isLt
    omega
  have harrived : s.SameHeld (((s.advance dt).arrivedFrom source.toNat).serveSome (s.advance dt) o.early) :=
    (State.SameHeld.of_same (s.advance_same dt)).trans (State.arrivedFrom_sameHeld _ _).serveSome
  obtain ⟨u, hu, hclosures⟩ := State.takeStatus_closures (s.advance dt) o (harrived.acting.trans ha) hsource hr
  have hreceive := (s.advance dt).receive_of_heard (Frame.checked cls kindStatus source body) o
    (fun t => t.takeStatus (s.advance dt) source.toNat body o) hh (Frame.checked_accepted cls body (.inl rfl) h0 ho)
  exact ⟨_, u, congrArg Host.Outcome.next hreceive, harrived.trans hu, (State.SameHeld.refl _).settle.closures.trans hclosures⟩

/-- Settles O42: the closure table learns from the entries held before the frame, and each rule is that of the learning. -/
theorem closuresAreLearnedFromTheirOrigin : Obligations.ClosuresAreLearnedFromTheirOrigin := by
  unfold Obligations.ClosuresAreLearnedFromTheirOrigin
  intro dt cls source body o s r ha hh h0 h63 ho hr
  obtain ⟨t, u, he, hu, hlearned⟩ := exec_statusFrame_closures (dt := dt) o ha hh h0 h63 ho hr
  have hholding : u.holding source.toNat = s.holding source.toNat := State.holding_congr hu.closures _
  refine ⟨t, he, fun hm => ⟨fun c p hc happ hnone hfree => ?inserted, fun c p held hc happ hheld => ?refreshed,
    fun hc => ⟨fun p held hheld => ?withdrawn, fun hnone => ?unheld⟩⟩, fun hm => ?otherMode⟩
  case inserted =>
    have hunheld : u.holding source.toNat = none := hholding.trans (State.holding_eq_none.mpr hnone)
    rw [hlearned, State.learn_of_applies hm hc (hu.own ▸ happ), State.learnClosure_of_free hunheld,
      State.insertClosure_of_freePosition _ ((State.freePosition_congr hu.closures).trans hfree), State.putClosure_closures, hu.closures]
  case refreshed =>
    rw [hlearned, State.learn_of_applies hm hc (hu.own ▸ happ), State.learnClosure_of_held (hholding.trans hheld), hu.closures]
    rfl
  case withdrawn =>
    rw [hlearned, State.learn_of_absent hm (fun c h => hu.own ▸ hc c h), State.absentClosure_of_held (hholding.trans hheld), hu.closures]
  case unheld =>
    rw [hlearned, State.learn_of_absent hm (fun c h => hu.own ▸ hc c h), State.absentClosure_of_free (hholding.trans hnone), hu.closures]
  case otherMode =>
    rw [hlearned, State.learn_of_otherMode (not_or.mpr hm), hu.closures]

end Sys2Proof.Machine
end

section
/-!
PROOFS. The closure commands at an acting station (R110 to R112, R117, R175, R176).
-/
namespace Sys2Proof.Machine
-- One proof at a time: the threads of parallel proofs exceed the memory limit of the check.
set_option Elab.async false

theorem exec_closeSet_eq (dt : Nat) (origin serial lanes taper extent step : Octet) (o : Order) (s : State) :
    exec (.closeSet dt origin serial lanes taper extent step o) s = execCloseSet dt origin serial lanes taper extent step o s := rfl

theorem exec_closeClear_eq (dt : Nat) (origin serial : Octet) (o : Order) (s : State) :
    exec (.closeClear dt origin serial o) s = execCloseClear dt origin serial o s := rfl

/-! ### The slot of a changed position (R171, R172) -/

/-- A position's new content waits for its slot: its mark is set, or a write that latched it is in flight. -/
def Retention.awaits (r : Retention) (p : Pos) (x : Option Closure) : Prop :=
  r.dirty.get p = true ∨ r.write = some { slot := p, latched := x.map Closure.image }

theorem State.markDirty_awaits (s : State) (p : Pos) : Retention.awaits (s.markDirty p).retention p (s.closures.get p) := by
  have hmarked : (s.retention.dirty.set p true).get p = true := Slots.get_set ..
  unfold State.markDirty
  rcases State.startWrite_cases (s.setRetention { s.retention with dirty := s.retention.dirty.set p true }) with
    ⟨-, -, q, -, hstarted⟩ | ⟨-, hidle⟩
  · rw [hstarted]
    by_cases hq : p = q
    · exact hq ▸ .inr rfl
    · exact .inl ((Slots.get_set_of_ne _ _ hq).trans hmarked)
  · rw [hidle]
    exact .inl hmarked

/-- What is put in a position waits for its slot. -/
theorem State.putClosure_awaits (s : State) (p : Pos) (x : Option Closure) : Retention.awaits (s.putClosure p x).retention p x := by
  obtain ⟨u, hu⟩ : ∃ u : State, s.putClosure p x = u.markDirty p := ⟨_, rfl⟩
  have hclosures : u.closures = s.closures.set p x :=
    (State.markDirty_same u p .closures (by decide)).symm.trans (hu ▸ s.putClosure_closures p x)
  have hget : u.closures.get p = x := hclosures ▸ Slots.get_set ..
  exact hu ▸ hget ▸ u.markDirty_awaits p

/-! ### A removal aborts no opening check (R127) -/

/-- Fewer entries name no more lanes. -/
theorem State.laneNamed_of_subset {s t : State} (hown : t.own = s.own) (h : t.entries ⊆ s.entries) {k : Lane}
    (hk : t.laneNamed k = true) : s.laneNamed k = true := by
  obtain ⟨c, hc, hnames⟩ := List.any_eq_true.mp hk
  obtain ⟨hmem, happ⟩ := List.mem_filter.mp hc
  exact List.any_eq_true.mpr ⟨c, List.mem_filter.mpr ⟨h hmem, hown ▸ happ⟩, hnames⟩

theorem State.entries_removed_subset (s : State) (p : Pos) : (s.putClosure p none).entries ⊆ s.entries :=
  fun _ hc => (State.mem_entries_putClosure hc).resolve_right nofun

/-- A removal newly names no lane, and so leaves the shoulder and the faults alone. -/
theorem State.putClosure_none_same (s : State) (p : Pos) : SameOutside [.closures, .retention, .line] s (s.putClosure p none) := by
  unfold State.putClosure
  dsimp only
  generalize hu : (if (s.setClosures (s.closures.set p none)).ownClosure = s.ownClosure then _ else _) = u
  have hsame : SameOutside [.closures, .line] s u := hu ▸ SameOutside.ite ((s.setClosures_same _).mono (by decide))
    ((s.setClosures_same _).trans (State.flagUrgent_same _) (by decide) (by decide))
  have hclosures : u.closures = s.closures.set p none := by
    subst hu
    split
    · rfl
    · exact State.flagUrgent_same _ .closures (by decide)
  have hentries : u.entries ⊆ s.entries := by
    have hsubset := s.entries_removed_subset p
    unfold State.entries at hsubset ⊢
    rwa [s.putClosure_closures, ← hclosures] at hsubset
  have hcalm : ¬(!s.laneNamed .l1 && u.laneNamed .l1) = true := by
    cases hnamed : u.laneNamed .l1
    · simp
    · simp [State.laneNamed_of_subset (State.own_congr (hsame .station (by decide))) hentries hnamed]
  rw [if_neg hcalm]
  exact hsame.trans (u.markDirty_same p) (by decide) (by decide)

/-- So does the command that removes by serial. -/
theorem State.closeClear_same (s : State) (n serial : Nat) : SameOutside [.closures, .retention, .line] s (s.closeClear n serial).1 := by
  cases hbad : originBad n
  · cases hh : s.holding n with
    | none => exact State.closeClear_of_free hbad hh ▸ .refl _ s
    | some x =>
      rw [State.closeClear_of_held hbad hh]
      split
      · exact s.putClosure_none_same _
      · exact .refl _ s
  · exact State.closeClear_of_bad hbad ▸ .refl _ s

/-! ### The table in the hands of a command (R175, R176) -/

theorem State.atOwner_sameHeld (s : State) (dt : Nat) (o : Order) : s.SameHeld (s.atOwner dt o) :=
  (State.SameHeld.of_same (s.advance_same dt)).trans (State.arrivedFrom_sameHeld _ 63).serveSome

/-- A command has gone to the closure table, which has made `w` of the state and answered it, and `t` is left in the end: the table and
its slots are those of `w`, and of the rest only the arrival, the record of the command and the readers differ. -/
structure State.TableCommanded (s : State) (dt : Nat) (kind : CommandKind) (w : State × ResultCode) (t : State) : Prop where
  commanded : s.commanded dt kind w.2 t
  closures : t.closures = w.1.closures
  retention : t.retention = w.1.retention
  faults : t.faults = s.faults.close .neighbourLost 63
  same : SameOutside (andReaders [.clock, .station, .neighbours, .faults, .closures, .retention]) s t

theorem State.tableCommanded_of_atOwner (s : State) (dt : Nat) (o : Order) (kind : CommandKind) (w : State × ResultCode)
    (ha : s.acting = true) (hw : SameOutside [.closures, .retention, .line] (s.atOwner dt o) w.1) :
    s.TableCommanded dt kind w ((w.1.record kind w.2).settle (s.advance dt) o.late) := by
  obtain ⟨-, hneighbours, hfaults, -⟩ := (s.advance dt).arrived_spec ha
  have hserved := s.atOwner_served dt o ha
  have hstation : w.1.station = { s.station with mode := s.mode.heard } :=
    (hw .station (by decide)).trans (s.atOwner_station dt o ha)
  have hset : (w.1.record kind w.2).Served ((w.1.record kind w.2).settle (s.advance dt) o.late) := by
    refine (w.1.record kind w.2).settle_served _ o.late fun h => ?_
    have hm : w.1.station.mode = .isolated := h
    rw [hstation] at hm
    exact absurd hm (Mode.heard_ne_isolated _)
  have hrecorded : SameOutside (andReaders [.clock, .station, .neighbours, .faults, .closures, .retention]) s
      (w.1.record kind w.2) :=
    ((s.atOwner_same dt o ha).trans hw (n := andReaders [.clock, .station, .neighbours, .faults, .closures, .retention])
      (by decide) (by decide)).trans (w.1.record_same kind w.2) (fun _ x => x) (by decide)
  refine ⟨⟨?clock, ?neighbours, ?station⟩, hset.same .closures (by decide), hset.same .retention (by decide), ?faults,
    hrecorded.trans hset.same (fun _ x => x) (by decide)⟩
  case clock => exact hset.clock.trans ((hw .clock (by decide)).trans (s.atOwner_clock dt o ha))
  case neighbours =>
    exact (hset.same .neighbours (by decide)).trans ((hw .neighbours (by decide)).trans
      ((hserved.same .neighbours (by decide)).trans hneighbours))
  case station => rw [hset.station, State.record, State.setStation_station, hstation]
  case faults => exact hset.faults.trans ((hw .faults (by decide)).trans (hserved.faults.trans hfaults))

/-- A command of the gateway that is heard and addresses the station goes to the closure table when that is its owner. -/
theorem State.command_tableCommanded {s : State} (dt : Nat) {c : Command} {body : List Octet} (o : Order)
    {owner : State → State × ResultCode} (ha : s.acting = true) (ho : s.own ≠ 63) (hh : s.canHear (commandFrame c.kind body) = true)
    (hadr : (s.atOwner dt o).addresses c = true)
    (hw : SameOutside [.closures, .retention, .line] (s.atOwner dt o) (owner (s.atOwner dt o)).1) :
    s.TableCommanded dt c.kind (owner (s.atOwner dt o)) ((s.advance dt).command c body o false owner) := by
  have hact : ((s.atOwner dt o).acting || false) = true := by rw [s.atOwner_acting dt o ha, Bool.true_or]
  rw [(s.advance dt).command_of_addressed c body o false owner ho hh hact hadr]
  exact s.tableCommanded_of_atOwner dt o c.kind (owner (s.atOwner dt o)) ha hw

/-! ### CLOSE-SET (R110, R111) -/

theorem originBad_iff {n : Nat} : originBad n = true ↔ n < 1 ∨ 62 < n := decide_eq_true_iff

theorem closeSetBad_iff {origin serial : Nat} {lanes : BitVec 5} :
    closeSetBad origin serial lanes = true ↔ (origin < 1 ∨ 62 < origin) ∨ serial = 0 ∨ lanes = 0 := by
  simp [closeSetBad, originBad_iff, or_assoc]

/-- Every station is addressed by a CLOSE-SET that is to be refused, and else the ones where it applies or replaces (R110). -/
theorem State.addresses_closeSet {s : State} {origin serial taper extent step : Nat} {lanes : BitVec 5}
    (h : closeSetBad origin serial lanes = true ∨ (closeSetEntry origin serial lanes taper extent step).applies s.own = true ∨
      s.positionOf origin ≠ none) :
    s.addresses (.closeSet origin serial lanes taper extent step) = true := by
  simpa [State.addresses, Option.isSome_iff_ne_none, or_assoc] using h

/-- The entry as its octets give it (R111). -/
theorem closeSetEntry_octets (origin serial lanes taper extent step : Octet) :
    closeSetEntry origin.toNat serial.toNat (closedLanes lanes) taper.toNat extent.toNat step.toNat =
      { origin := origin.toNat, serial := serial.toNat, lanes := lanes.setWidth 5
        taper := if taper = 0 then 1 else min taper.toNat 4, extent := min extent.toNat 3, step := min step.toNat 6
        source := .command } := by
  simp [closeSetEntry, clampTaper, clampExtent, clampStep, closedLanes, BitVec.toNat_eq]

theorem State.closeSet_accepted {s : State} {c : Closure} (h : closeSetBad c.origin c.serial c.lanes = false) :
    (s.closeSet c).2 = .accepted := by
  cases hh : s.holding c.origin with
  | none => rw [State.closeSet_of_free h hh]
  | some x => rw [State.closeSet_of_held h hh]

/-- A CLOSE-SET with the entry `c` that is heard and addresses the station goes to the closure table. -/
theorem exec_closeSet_of_heard {dt : Nat} {origin serial lanes taper extent step : Octet} (o : Order) {s : State} {c : Closure}
    (ha : s.acting = true) (ho : s.own ≠ 63) (hcalm : s.shoulder.state ≠ .checking)
    (hc : closeSetEntry origin.toNat serial.toNat (closedLanes lanes) taper.toNat extent.toNat step.toNat = c)
    (hadr : closeSetBad origin.toNat serial.toNat (closedLanes lanes) = true ∨ c.applies s.own = true ∨
      s.positionOf origin.toNat ≠ none)
    (hh : s.canHear (commandFrame .closeSet [origin, serial, lanes, taper, extent, step]) = true) :
    ∃ t, exec (.closeSet dt origin serial lanes taper extent step o) s = .next t ∧
      s.TableCommanded dt .closeSet ((s.atOwner dt o).closeSet c) t := by
  subst hc
  have hheld := s.atOwner_sameHeld dt o
  have hshoulder : (s.atOwner dt o).shoulder = s.shoulder := s.atOwner_same dt o ha .shoulder (by decide)
  rw [← hheld.own, ← State.positionOf_congr hheld.closures] at hadr
  exact ⟨_, exec_closeSet_eq .., State.command_tableCommanded dt (c := .closeSet ..) (owner := fun t => t.closeSet _) o ha ho hh
    (State.addresses_closeSet hadr) ((State.closeSet_work _ _).calm_same (hshoulder ▸ hcalm))⟩

/-- Settles O48: the table's own equations, read in the entries that the arrival and the readers have left as they were. -/
theorem closeSetInsertsReplacesOrRemoves : Obligations.CloseSetInsertsReplacesOrRemoves := by
  unfold Obligations.CloseSetInsertsReplacesOrRemoves
  intro dt origin serial lanes taper extent step o s c bad ha ho hadr hh hcalm
  have hbad : closeSetBad c.origin c.serial c.lanes = true ↔ bad := by
    simp [c, bad, closeSetBad_iff, BitVec.toNat_eq, or_assoc]
  obtain ⟨t, he, ht⟩ := exec_closeSet_of_heard (dt := dt) o ha ho hcalm
    (closeSetEntry_octets origin serial lanes taper extent step) (hadr.imp_left hbad.mpr) hh
  have hcommanded := ht.commanded
  have hclosures := ht.closures
  have hretention := ht.retention
  have hheld := s.atOwner_sameHeld dt o
  have hholding : (s.atOwner dt o).holding c.origin = s.holding origin.toNat := State.holding_congr hheld.closures _
  refine ⟨t, he, fun hb => ?refused, fun hb => ?accepted, ht.faults, ht.same⟩
  case refused =>
    rw [State.closeSet_of_bad (c := c) (hbad.mpr hb)] at hcommanded hclosures hretention
    exact ⟨hcommanded, hclosures.trans hheld.closures, hretention.trans hheld.retention⟩
  case accepted =>
    have hgood : closeSetBad c.origin c.serial c.lanes = false := Bool.eq_false_iff.mpr fun h => hb (hbad.mp h)
    refine ⟨State.closeSet_accepted (c := c) hgood ▸ hcommanded, fun p hnone hfree => ?inserted, fun p hp => ?changed⟩
    case inserted =>
      have hunheld := hholding.trans (State.holding_eq_none.mpr hnone)
      rw [State.closeSet_of_free (c := c) hgood hunheld,
        State.insertClosure_of_freePosition c ((State.freePosition_congr hheld.closures).trans hfree)] at hclosures hretention
      exact ⟨hclosures.trans (hheld.closures ▸ State.putClosure_closures ..), hretention ▸ State.putClosure_awaits _ p (some c)⟩
    case changed =>
      obtain ⟨held, hget, -⟩ := State.positionOf_eq_some hp
      rw [State.closeSet_of_held (c := c) hgood (hholding.trans (State.holding_eq_some.mpr ⟨hp, hget⟩)), hheld.own] at hclosures
      exact hclosures.trans (hheld.closures ▸ State.putClosure_closures ..)

/-! ### CLOSE-CLEAR (R112) -/

theorem State.addresses_closeClear {s : State} {origin serial : Nat}
    (h : (s.own ≤ origin + 3 ∧ origin ≤ s.own + 4) ∨ s.positionOf origin ≠ none) :
    s.addresses (.closeClear origin serial) = true := by
  rcases h with h | h
  · simp [State.addresses, h]
  · simp [State.addresses, Option.isSome_iff_ne_none, h]

/-- A CLOSE-CLEAR that is heard and addresses the station goes to the closure table. -/
theorem exec_closeClear_of_heard {dt : Nat} {origin serial : Octet} (o : Order) {s : State} (ha : s.acting = true) (ho : s.own ≠ 63)
    (hadr : (s.own ≤ origin.toNat + 3 ∧ origin.toNat ≤ s.own + 4) ∨ s.positionOf origin.toNat ≠ none)
    (hh : s.canHear (commandFrame .closeClear [origin, serial]) = true) :
    ∃ t, exec (.closeClear dt origin serial o) s = .next t ∧
      s.TableCommanded dt .closeClear ((s.atOwner dt o).closeClear origin.toNat serial.toNat) t := by
  have hheld := s.atOwner_sameHeld dt o
  rw [← hheld.own, ← State.positionOf_congr hheld.closures] at hadr
  exact ⟨_, exec_closeClear_eq .., State.command_tableCommanded dt (c := .closeClear ..) (owner := fun t => t.closeClear _ _) o ha ho hh
    (State.addresses_closeClear hadr) (State.closeClear_same _ _ _)⟩

/-- Settles O49: the table's own equations, read in the entries that the arrival and the readers have left as they were. -/
theorem closeClearRemovesBySerial : Obligations.CloseClearRemovesBySerial := by
  unfold Obligations.CloseClearRemovesBySerial
  intro dt origin serial o s ha ho hlow hhigh hadr hh
  have hgood : originBad origin.toNat = false := decide_eq_false (by omega)
  obtain ⟨t, he, ht⟩ := exec_closeClear_of_heard (dt := dt) o ha ho hadr hh
  have hcommanded := ht.commanded
  have hclosures := ht.closures
  have hretention := ht.retention
  have hheld := s.atOwner_sameHeld dt o
  have hholding : (s.atOwner dt o).holding origin.toNat = s.holding origin.toNat := State.holding_congr hheld.closures _
  refine ⟨t, he, fun p held hp hserial => ?removed, fun p held hp hserial => ?otherSerial, fun hnone => ?unheld, ht.faults, ht.same⟩
  case removed =>
    rw [State.closeClear_of_held hgood (hholding.trans hp), if_pos hserial] at hcommanded hclosures hretention
    exact ⟨hcommanded, hclosures.trans (hheld.closures ▸ State.putClosure_closures ..),
      hretention ▸ State.putClosure_awaits _ p none⟩
  case otherSerial =>
    rw [State.closeClear_of_held hgood (hholding.trans hp), if_neg hserial] at hcommanded hclosures
    exact ⟨hcommanded, hclosures.trans hheld.closures⟩
  case unheld =>
    rw [State.closeClear_of_free hgood (hholding.trans hnone)] at hcommanded hclosures
    exact ⟨hcommanded, hclosures.trans hheld.closures⟩

end Sys2Proof.Machine
end

section
/-!
PROOFS. The opening check and the events that end it (R127): what an abort makes of the shoulder, of the fault list and of the line,
and the work of the detector unit around it.
-/
namespace Sys2Proof.Machine
-- One proof at a time: the threads of parallel proofs exceed the memory limit of the check.
set_option Elab.async false

/-! ### The end of an opening check -/

/-- The shoulder after an opening check that has ended. -/
def Shoulder.aborted (x : Shoulder) : Shoulder := { x with state := .closed, checkTimer := none }

theorem Shoulder.aborted_ne_checking (x : Shoulder) : x.aborted.state ≠ .checking := nofun

/-- The opening check of `s` has ended in `t`, with nothing else raised or ended. -/
structure State.CheckEnded (s t : State) : Prop where
  clock : t.clock = s.clock
  shoulder : t.shoulder = s.shoulder.aborted
  faults : t.faults = s.faults.raise .shoulderCheckFailed 0 s.seconds
  urgent : s.acting = true → t.line.urgent = true ∧ t.line.pending = true

/-- An opening check may have ended; nothing else has been raised or ended, and beside it the detector unit alone has worked. -/
structure State.CheckWork (s t : State) : Prop where
  same : SameOutside [.detector, .trace, .requests, .queue, .faults, .shoulder, .line] s t
  flag : Line.mayFlag s.line t.line
  outcome : (t.shoulder = s.shoulder ∧ t.faults = s.faults) ∨ (s.shoulder.state = .checking ∧ s.CheckEnded t)

theorem State.CheckWork.station {s t : State} (h : s.CheckWork t) : t.station = s.station := h.same .station (by decide)

theorem State.CheckWork.clock {s t : State} (h : s.CheckWork t) : t.clock = s.clock := h.same .clock (by decide)

theorem State.CheckWork.acting {s t : State} (h : s.CheckWork t) : t.acting = s.acting := congrArg (·.mode.acting) h.station

theorem State.CheckWork.cfg {s t : State} (h : s.CheckWork t) : t.cfg = s.cfg := State.cfg_congr h.station

/-- Where a check has been in progress and is not, it has ended. -/
theorem State.CheckWork.ended {s t : State} (h : s.CheckWork t) (hs : s.shoulder.state = .checking)
    (ht : t.shoulder.state ≠ .checking) : s.CheckEnded t := by
  rcases h.outcome with ⟨hsh, -⟩ | ⟨-, he⟩
  · exact absurd (hsh ▸ hs) ht
  · exact he

/-- No opening check begins. -/
theorem State.CheckWork.notChecking {s t : State} (h : s.CheckWork t) (hs : s.shoulder.state ≠ .checking) :
    t.shoulder.state ≠ .checking := by
  rcases h.outcome with ⟨hsh, -⟩ | ⟨hc, -⟩
  · exact hsh ▸ hs
  · exact absurd hc hs

theorem State.CheckWork.trans {s t u : State} (h : s.CheckWork t) (k : t.CheckWork u) : s.CheckWork u where
  same := h.same.trans k.same (fun _ m => m) (fun _ m => m)
  flag := Line.mayFlag_trans h.flag k.flag
  outcome := by
    have hseconds : t.seconds = s.seconds := congrArg (· / second) h.clock
    rcases h.outcome with ⟨hs, hf⟩ | ⟨hc, he⟩ <;> rcases k.outcome with ⟨ks, kf⟩ | ⟨kc, ke⟩
    · exact .inl ⟨ks.trans hs, kf.trans hf⟩
    · refine .inr ⟨hs ▸ kc, ke.clock.trans h.clock, hs ▸ ke.shoulder, ?_, fun ha => ke.urgent (h.acting.trans ha)⟩
      rw [ke.faults, hf, hseconds]
    · exact .inr ⟨hc, k.clock.trans he.clock, ks.trans he.shoulder, kf.trans he.faults,
        fun ha => Line.mayFlag_urgent k.flag (he.urgent ha)⟩
    · exact absurd (he.shoulder ▸ kc) s.shoulder.aborted_ne_checking

theorem State.CheckWork.refl (s : State) : s.CheckWork s := ⟨.refl _ s, Line.mayFlag_refl _, .inl ⟨rfl, rfl⟩⟩

theorem State.LanesWork.checkWork {ks : List Lane} {s t : State} (h : State.LanesWork ks s t) : s.CheckWork t :=
  ⟨h.work.same.mono (by decide), Line.mayFlag_of_eq (h.work.same .line (by decide)), .inl ⟨h.work.shoulder, h.faults⟩⟩

theorem State.setDetector_checkWork (s : State) (d : Detector) : s.CheckWork (s.setDetector d) :=
  ⟨(s.setDetector_same d).mono (by decide), Line.mayFlag_refl _, .inl ⟨rfl, rfl⟩⟩

/-- An opening check in progress is CLOSED with SHOULDER CHECK FAILED, and that is urgent. -/
theorem State.abortCheck_ended (s : State) (h : s.shoulder.state = .checking) : s.CheckEnded s.abortCheck := by
  have hwork := s.moveShoulder_work s.shoulder.aborted
  have heq : s.abortCheck = (s.moveShoulder s.shoulder.aborted).raiseFault .shoulderCheckFailed 0 := if_pos h
  have hclock : (s.moveShoulder s.shoulder.aborted).clock = s.clock := hwork.same .clock (by decide)
  have hfaults : (s.moveShoulder s.shoulder.aborted).faults = s.faults := hwork.same .faults (by decide)
  have hshoulder := s.moveShoulder_shoulder s.shoulder.aborted
  rw [heq]
  refine ⟨hclock, hshoulder, ?_, fun ha => hwork.urgent ha ?_⟩
  · rw [State.raiseFault_faults, hfaults, hclock]
    rfl
  · rw [hshoulder, h]
    exact nofun

theorem State.abortCheck_notChecking (s : State) : s.abortCheck.shoulder.state ≠ .checking := by
  by_cases h : s.shoulder.state = .checking
  · rw [(s.abortCheck_ended h).shoulder]
    exact s.shoulder.aborted_ne_checking
  · rwa [s.abortCheck_of_ne h]

theorem State.abortCheck_checkWork (s : State) : s.CheckWork s.abortCheck := by
  refine ⟨s.abortCheck_same.mono (by decide), s.abortCheck_mayFlag, ?_⟩
  by_cases h : s.shoulder.state = .checking
  · exact .inr ⟨h, s.abortCheck_ended h⟩
  · rw [s.abortCheck_of_ne h]
    exact .inl ⟨rfl, rfl⟩

/-! ### Qualified on edges -/

/-- An edge of an OK loop of lane 1 leaves no opening check in progress. -/
theorem State.takeOnEdge_checkWork (s : State) (l : Loop) (on : Tick) :
    s.CheckWork (s.takeOnEdge l on) ∧ (l.lane = .l1 → (s.takeOnEdge l on).shoulder.state ≠ .checking) := by
  unfold State.takeOnEdge
  dsimp only
  generalize hu : (if l.lane = .l1 then _ else _) = u
  have hmark (c : Prop) [Decidable c] (d : LaneDetector) : s.CheckWork (if c then s.setLane l.lane d else s) := by
    split
    · exact (s.setLane_laneWork l.lane d).checkWork
    · exact .refl s
  have hedge : s.CheckWork u ∧ (l.lane = .l1 → u.shoulder.state ≠ .checking) := by
    subst hu
    split
    · exact ⟨(hmark _ _).trans (State.abortCheck_checkWork _), fun _ => State.abortCheck_notChecking _⟩
    · next hl => exact ⟨hmark _ _, fun h => absurd h hl⟩
  have hlist {t : State} (h : State.LaneWork l.lane u t) : s.CheckWork t ∧ (l.lane = .l1 → t.shoulder.state ≠ .checking) :=
    ⟨hedge.1.trans h.checkWork, fun hl => h.checkWork.notChecking (hedge.2 hl)⟩
  split
  · exact hlist (u.appendArrival_laneWork l.lane on)
  · exact hlist ((u.setArrivals_laneWork l.lane _).trans (State.drainArrivals_laneWork _ l.lane))
  · exact hlist (u.setArrivals_laneWork l.lane _)
  · exact hlist (u.setArrivals_laneWork l.lane _)
  · exact hedge

theorem State.qualify_checkWork (s : State) (l : Loop) (p : Presence) :
    s.CheckWork (s.qualify l p) ∧
      (l.lane = .l1 → (s.loop l).status = .ok → (s.qualify l p).shoulder.state ≠ .checking) := by
  have hloop (x : LoopRecord) : s.CheckWork (s.setLoop l x) := (s.setLane_laneWork l.lane _).checkWork
  unfold State.qualify
  dsimp only
  split
  · have hedge := State.takeOnEdge_checkWork (s.setLoop l { s.loop l with presence := some p.qualify }) l p.on
    exact ⟨(hloop _).trans hedge.1, fun hl _ => hedge.2 hl⟩
  · next hok => exact ⟨hloop _, fun _ h => absurd h hok⟩

theorem otherLoop_lane (l : Loop) : (otherLoop l).lane = l.lane := by
  unfold otherLoop
  split <;> rfl

/-- Whether the other loop of lane 1 is taken first or not, an edge of an OK loop leaves no check in progress. -/
theorem State.qualifyInOrder_checkWork (s : State) (l : Loop) (p : Presence) :
    s.CheckWork (s.qualifyInOrder l p) ∧
      (l.lane = .l1 → (s.loop l).status = .ok → (s.qualifyInOrder l p).shoulder.state ≠ .checking) := by
  rcases s.qualifyInOrder_cases l p with ⟨q, -, -, -, -, -, e⟩ | ⟨-, e⟩
  · rw [e]
    have hother := s.qualify_checkWork (otherLoop l) q
    have hown := State.qualify_checkWork (s.qualify (otherLoop l) q) l p
    refine ⟨hother.1.trans hown.1, fun hl hok => ?_⟩
    by_cases ho : (s.loop (otherLoop l)).status = .ok
    · exact hown.1.notChecking (hother.2 ((otherLoop_lane l).trans hl) ho)
    · refine hown.2 hl ?_
      have hset : s.qualify (otherLoop l) q = s.setLoop (otherLoop l) { s.loop (otherLoop l) with presence := some q.qualify } :=
        if_neg ho
      have hne : l ≠ otherLoop l := fun h => absurd hok (h ▸ ho)
      rw [hset, State.setLoop_loop_of_ne _ _ hne]
      exact hok
  · exact e ▸ s.qualify_checkWork l p

/-! ### Changes of the measurement modes -/

/-- The state in which a change of the mode of a lane has been settled, but for the opening check. -/
def State.modeChanged (s : State) (k : Lane) (moment : Tick) : State :=
  let d := s.detector.lanes.get k
  ((s.setLane k (s.changedLane k (modeOfLoops (s.cfg.lanes.get k).loopB d) moment)).setRun k 0).completeAll k
    (d.arrivals.filter (fun a => a.off.isSome))

theorem State.modeChanged_laneWork (s : State) (k : Lane) (moment : Tick) : State.LaneWork k s (s.modeChanged k moment) :=
  ((s.setLane_laneWork k _).trans (State.setRun_laneWork _ k)).trans (State.completeAll_laneWork _ k _)

theorem State.modeChanged_mode (s : State) (k : Lane) (moment : Tick) :
    ((s.modeChanged k moment).detector.lanes.get k).mode = modeOfLoops (s.cfg.lanes.get k).loopB (s.detector.lanes.get k) := by
  unfold State.modeChanged
  rw [State.completeAll_lane]
  exact congrArg LaneDetector.mode (s.setLane_get k _)

theorem State.settleMode_eq (s : State) (k : Lane) (moment : Tick) :
    let d := s.detector.lanes.get k
    let new := modeOfLoops (s.cfg.lanes.get k).loopB d
    s.settleMode k moment =
      if new = d.mode then s
      else if k = .l1 ∧ new = .none then (s.modeChanged k moment).abortCheck else s.modeChanged k moment := rfl

/-- The recomputation of a mode is work on its own lane, which then has the mode of its loops, and a change of lane 1 to NONE leaves
no opening check in progress. -/
theorem State.settleMode_checkWork (s : State) (k : Lane) (moment : Tick) :
    let new := modeOfLoops (s.cfg.lanes.get k).loopB (s.detector.lanes.get k)
    s.CheckWork (s.settleMode k moment) ∧ ((s.settleMode k moment).detector.lanes.get k).mode = new ∧
      (∀ j, j ≠ k → (s.settleMode k moment).detector.lanes.get j = s.detector.lanes.get j) ∧
      (k = .l1 → new = .none → (s.detector.lanes.get k).mode ≠ .none → (s.settleMode k moment).shoulder.state ≠ .checking) := by
  intro new
  have hchanged := s.modeChanged_laneWork k moment
  have hmode := s.modeChanged_mode k moment
  have habort := State.abortCheck_checkWork (s.modeChanged k moment)
  have hdetector : (s.modeChanged k moment).abortCheck.detector = (s.modeChanged k moment).detector :=
    State.abortCheck_same _ .detector (by decide)
  rw [s.settleMode_eq]
  split
  · next hm => exact ⟨.refl s, hm.symm, fun _ _ => rfl, fun _ hn hd => absurd (hm.symm.trans hn) hd⟩
  · split
    · exact ⟨hchanged.checkWork.trans habort, hdetector ▸ hmode, fun j hj => hdetector ▸ hchanged.otherLane hj,
        fun _ _ _ => State.abortCheck_notChecking _⟩
    · next hk => exact ⟨hchanged.checkWork, hmode, fun j hj => hchanged.otherLane hj, fun h1 hn => absurd ⟨h1, hn⟩ hk⟩

theorem State.settleAll_checkWork (ks : List Lane) (moment : Tick) (s : State) : s.CheckWork (s.settleAll ks moment) := by
  induction ks generalizing s with
  | nil => exact .refl s
  | cons k ks ih => exact (s.settleMode_checkWork k moment).1.trans (ih _)

theorem State.settleAll_otherLane (ks : List Lane) (moment : Tick) (s : State) {j : Lane} (hj : j ∉ ks) :
    (s.settleAll ks moment).detector.lanes.get j = s.detector.lanes.get j := by
  induction ks generalizing s with
  | nil => rfl
  | cons k ks ih =>
    obtain ⟨hne, hks⟩ := List.ne_and_not_mem_of_not_mem_cons hj
    obtain ⟨-, -, hothers, -⟩ := s.settleMode_checkWork k moment
    exact (ih (s.settleMode k moment) hks).trans (hothers j hne)

/-- When the loops of lane 1 give its measurement up, the recomputation of the modes leaves lane 1 in NONE and no opening check in
progress. -/
theorem State.settleAll_givenUp (ks : List Lane) (moment : Tick) (s : State)
    (hnew : modeOfLoops (s.cfg.lanes.get .l1).loopB (s.detector.lanes.get .l1) = .none) (hold : (s.detector.lanes.get .l1).mode ≠ .none)
    (hmem : .l1 ∈ ks) (hn : ks.Nodup) :
    ((s.settleAll ks moment).detector.lanes.get .l1).mode = .none ∧ (s.settleAll ks moment).shoulder.state ≠ .checking := by
  induction ks generalizing s with
  | nil => exact absurd hmem List.not_mem_nil
  | cons k ks ih =>
    obtain ⟨hk, hks⟩ := List.nodup_cons.mp hn
    obtain ⟨hwork, hmode, hothers, hend⟩ := s.settleMode_checkWork k moment
    have hrest := State.settleAll_checkWork ks moment (s.settleMode k moment)
    by_cases h : k = .l1
    · subst h
      refine ⟨?_, hrest.notChecking (hend rfl hnew hold)⟩
      exact (congrArg LaneDetector.mode (State.settleAll_otherLane ks moment _ hk)).trans (hmode.trans hnew)
    · have hlane := hothers .l1 (Ne.symm h)
      refine ih (s.settleMode k moment) ?_ ?_ ((List.mem_cons.mp hmem).resolve_left (Ne.symm h)) hks
      · rw [hwork.cfg, hlane]
        exact hnew
      · rw [hlane]
        exact hold

/-- The recomputation of the modes at an interval end is work around an opening check (R7, R8, R127). -/
theorem State.remeasured_checkWork (s : State) (stop : Tick) : s.CheckWork (s.remeasured stop) :=
  (State.settleAll_checkWork s.laneList stop s).trans (State.setDetector_checkWork _ _)

end Sys2Proof.Machine
end

section
/-!
PROOFS. What the operations of each block make of the shoulder (R124, R127): beside station control and the shoulder's own moves they
leave it alone or end its opening check.
-/
namespace Sys2Proof.Machine
-- One proof at a time: the threads of parallel proofs exceed the memory limit of the check.
set_option Elab.async false

/-! ### The opening check may end -/

/-- Station control keeps its mode and its configuration, and the shoulder is as it was but for an opening check that may have
ended. -/
structure State.MayAbort (s t : State) : Prop where
  mode : t.mode = s.mode
  cfg : t.cfg = s.cfg
  shoulder : t.shoulder = s.shoulder ∨ (s.shoulder.state = .checking ∧ t.shoulder = s.shoulder.aborted)

theorem State.MayAbort.refl (s : State) : s.MayAbort s := ⟨rfl, rfl, .inl rfl⟩

theorem State.MayAbort.trans {s t u : State} (h : s.MayAbort t) (k : t.MayAbort u) : s.MayAbort u where
  mode := k.mode.trans h.mode
  cfg := k.cfg.trans h.cfg
  shoulder := by
    rcases h.shoulder with hs | ⟨hc, hs⟩ <;> rcases k.shoulder with ks | ⟨kc, ks⟩
    · exact .inl (ks.trans hs)
    · exact .inr ⟨hs ▸ kc, hs ▸ ks⟩
    · exact .inr ⟨hc, ks.trans hs⟩
    · exact absurd (hs ▸ kc) s.shoulder.aborted_ne_checking

/-- Steps outside station control and the shoulder. -/
theorem State.MayAbort.of_eq {s t : State} (hs : t.station = s.station) (hd : t.shoulder = s.shoulder) : s.MayAbort t :=
  ⟨congrArg Station.mode hs, State.cfg_congr hs, .inl hd⟩

theorem State.MayAbort.of_same {l : List Block} {s t : State} (h : SameOutside l s t)
    (hl : ∀ b ∈ [Block.station, .shoulder], b ∉ l := by decide) : s.MayAbort t :=
  .of_eq (h .station (hl _ (by decide))) (h .shoulder (hl _ (by decide)))

theorem State.CheckWork.mayAbort {s t : State} (h : s.CheckWork t) : s.MayAbort t :=
  ⟨congrArg Station.mode h.station, h.cfg, h.outcome.imp And.left fun ⟨hc, he⟩ => ⟨hc, he.shoulder⟩⟩

theorem State.DetectorWork.mayAbort {s t : State} (h : s.DetectorWork t) : s.MayAbort t := .of_same h.same

theorem State.notEntered_self (s : State) : s.notEntered s := id

theorem State.MayAbort.notEntered {s t before : State} (h : s.MayAbort t) (hn : s.notEntered before) : t.notEntered before :=
  fun hi => hn (h.mode ▸ hi)

theorem State.MayAbort.settle {s t before : State} {late : List Reader} (h : s.MayAbort t) (hn : s.notEntered before) :
    s.MayAbort (t.settle before late) := h.trans (.of_same (t.settle_served before late (h.notEntered hn)).same)

theorem State.MayAbort.serveSome {s t before : State} {rs : List Reader} (h : s.MayAbort t) (hn : s.notEntered before) :
    s.MayAbort (t.serveSome before rs) := h.trans (.of_same (t.serveSome_served before rs (h.notEntered hn)).same)

theorem State.MayAbort.tryCommit {s t : State} (h : s.MayAbort t) : s.MayAbort t.tryCommit := h.trans (.of_same t.tryCommit_same)

theorem State.inOrder_mayAbort {s before : State} (hn : s.notEntered before) (o : Order) {f g : State → State}
    (hf : ∀ u : State, u.MayAbort (f u)) (hg : ∀ u : State, u.MayAbort (g u)) : s.MayAbort (s.inOrder before o f g) := by
  rcases s.inOrder_cases before o f g with ⟨-, e⟩ | ⟨-, e⟩
  · exact e ▸ ((hf s).serveSome hn).trans (hg _)
  · exact e ▸ ((hg s).serveSome hn).trans (hf _)

/-! ### The detector unit and the arithmetic unit -/

theorem State.releaseSingle_mayAbort (s : State) (k : Lane) (pairedCounts : Bool) : s.MayAbort (s.releaseSingle k pairedCounts) := by
  unfold State.releaseSingle
  split
  · exact .refl s
  · dsimp only
    have hlist := (s.setArrivals_laneWork k []).work.mayAbort
    split
    · exact hlist.trans (State.completeVehicle_laneWork _ k _).work.mayAbort
    · exact hlist.trans (State.completeSingle_laneWork _ k _).work.mayAbort

theorem State.takeRelease_mayAbort (s : State) (l : Loop) : s.MayAbort (s.takeRelease l) := by
  unfold State.takeRelease
  dsimp only
  generalize hu : (if (s.detector.lanes.get l.lane).mode.counting = some l.side then _ else _) = u
  have hcount : s.MayAbort u := by
    subst hu
    split
    · exact .of_same (s.setLane_same l.lane _)
    · exact .refl s
  split
  · exact hcount.trans ((u.setArrivals_laneWork l.lane _).trans (State.drainArrivals_laneWork _ l.lane)).work.mayAbort
  · exact hcount.trans (u.releaseSingle_mayAbort l.lane true)
  · exact hcount.trans (u.releaseSingle_mayAbort l.lane false)
  · exact hcount

theorem State.settleMode_mayAbort (s : State) (k : Lane) (moment : Tick) : s.MayAbort (s.settleMode k moment) := by
  obtain ⟨hwork, -⟩ := s.settleMode_checkWork k moment
  exact hwork.mayAbort

theorem State.releaseQualified_mayAbort (s : State) (l : Loop) : s.MayAbort (s.releaseQualified l) := by
  have hloop (u : State) (x : LoopRecord) : u.MayAbort (u.setLoop l x) := .of_same (u.setLoop_same l x)
  unfold State.releaseQualified
  dsimp only
  split
  · exact (hloop s _).trans (State.takeRelease_mayAbort _ l)
  · exact hloop s _
  · exact (((hloop s _).trans (hloop _ _)).trans (.of_same (State.endFault_same _ _ _))).trans (State.settleMode_mayAbort _ l.lane _)

theorem State.closeInterval_mayAbort (s : State) (stop : Tick) (lanes : List Lane) (loops : List Loop) :
    s.MayAbort (s.closeInterval stop lanes loops) := by
  rw [s.closeInterval_eq]
  exact (s.opened_work stop lanes loops).mayAbort.trans
    ((State.remeasured_checkWork _ stop).trans (State.setDetector_checkWork _ _)).mayAbort

theorem State.evaluateQueue_mayAbort (s : State) : s.MayAbort s.evaluateQueue :=
  (State.MayAbort.of_same s.queueTaken_same).trans (.of_same s.evaluateQueue_served.same)

theorem State.evaluateDemand_mayAbort (s : State) : s.MayAbort s.evaluateDemand := by
  unfold State.evaluateDemand
  dsimp only
  split <;> split <;> exact .of_eq rfl rfl

theorem State.takeMeasures_mayAbort (s : State) : s.MayAbort s.takeMeasures := by
  unfold State.takeMeasures
  split
  · exact s.evaluateDemand_mayAbort
  · exact .refl s

theorem State.markEvaluation_mayAbort (s : State) : s.MayAbort s.markEvaluation := by
  unfold State.markEvaluation
  split
  · exact ⟨rfl, rfl, .inl rfl⟩
  · exact .refl s

theorem State.completeInterval_mayAbort (s : State) (k : Lane) (x : Snapshot) (rest : List Request) (o : Order) :
    s.MayAbort (s.completeInterval k x rest o) := by
  have hrecord : s.MayAbort (s.recorded k x rest) := .of_same (s.recorded_same k x rest)
  have hmeasures (t : State) : t.MayAbort t.computeMeasures.markEvaluation :=
    State.MayAbort.trans (t := t.computeMeasures) (.of_eq rfl rfl) t.computeMeasures.markEvaluation_mayAbort
  unfold State.completeInterval
  dsimp only
  split
  · have hmeasured := hrecord.trans (hmeasures _)
    exact hmeasured.trans (State.inOrder_mayAbort (hmeasured.notEntered s.notEntered_self) o State.takeMeasures_mayAbort
      State.evaluateQueue_mayAbort)
  · exact hrecord

/-! ### The closure table -/

theorem State.putClosure_mayAbort (s : State) (p : Pos) (c : Option Closure) : s.MayAbort (s.putClosure p c) := by
  have hset : s.MayAbort (s.setClosures (s.closures.set p c)) := .of_same (s.setClosures_same _)
  unfold State.putClosure
  dsimp only
  generalize hu : (if (s.setClosures (s.closures.set p c)).ownClosure = s.ownClosure then _ else _) = u
  have hflagged : s.MayAbort u := by
    subst hu
    split
    · exact hset
    · exact hset.trans (.of_same (State.flagUrgent_same _))
  refine State.MayAbort.trans ?_ (.of_same (State.markDirty_same _ p))
  split
  · exact hflagged.trans u.abortCheck_checkWork.mayAbort
  · exact hflagged

theorem State.insertClosure_mayAbort (s : State) (c : Closure) : s.MayAbort (s.insertClosure c) := by
  unfold State.insertClosure
  split
  · exact s.putClosure_mayAbort _ _
  · exact .refl s

theorem State.learnClosure_mayAbort (s : State) (c : Closure) : s.MayAbort (s.learnClosure c) := by
  unfold State.learnClosure
  split
  · exact s.insertClosure_mayAbort c
  · split
    · split
      · exact .refl s
      · exact s.putClosure_mayAbort _ _
    · exact s.putClosure_mayAbort _ _

theorem State.absentClosure_mayAbort (s : State) (station : Nat) : s.MayAbort (s.absentClosure station) := by
  unfold State.absentClosure
  split
  · split
    · exact s.putClosure_mayAbort _ _
    · exact .refl s
  · exact .refl s

theorem State.learn_mayAbort (s : State) (station : Nat) (r : StatusRecord) : s.MayAbort (s.learn station r) := by
  unfold State.learn
  split
  · split
    · split
      · exact s.learnClosure_mayAbort _
      · exact s.absentClosure_mayAbort station
    · exact s.absentClosure_mayAbort station
  · exact .refl s

theorem State.takeStatus_mayAbort {s before : State} (hn : s.notEntered before) (station : Nat) (body : List Octet) (o : Order) :
    s.MayAbort (s.takeStatus before station body o) := by
  unfold State.takeStatus
  split
  · split
    · exact State.inOrder_mayAbort hn o (fun u => .of_same (u.storeRecord_same station _)) fun u => u.learn_mayAbort station _
    · exact .refl s
  · exact .refl s

theorem State.closeSet_mayAbort (s : State) (c : Closure) : s.MayAbort (s.closeSet c).1 := by
  unfold State.closeSet
  split
  · exact .refl s
  · split
    · exact s.insertClosure_mayAbort c
    · exact s.putClosure_mayAbort _ _

theorem State.closeClear_mayAbort (s : State) (origin serial : Nat) : s.MayAbort (s.closeClear origin serial).1 := by
  unfold State.closeClear
  split
  · exact .refl s
  · split
    · exact .refl s
    · split
      · exact s.putClosure_mayAbort _ _
      · exact .refl s

/-! ### Sign channels -/

theorem State.clearReason_mayAbort (s : State) (c : Chan) (raised : Option FaultKind) (endFirst : Bool) :
    s.MayAbort (s.clearReason c raised endFirst) := by
  unfold State.clearReason
  split
  · exact .of_same (s.exchangeFaults_same _ _ _ _)
  · exact .of_same (s.endFault_same _ _)
  · exact .of_same (s.raiseFault_same _ _)
  · exact .refl s

theorem State.prove_mayAbort (s : State) (c : Chan) (raised : Option FaultKind) (endFirst : Bool) :
    s.MayAbort (s.prove c raised endFirst) :=
  (s.clearReason_mayAbort c raised endFirst).trans (.of_same (State.setChannel_same _ c _))

theorem State.retry_mayAbort (s : State) (c : Chan) : s.MayAbort (s.retry c) :=
  (State.MayAbort.of_same (s.beginAttempt_same c)).trans (.of_same (State.noteDisplacement_same _ _))

/-! ### The owners of commands -/

theorem State.record_mayAbort (s : State) (kind : CommandKind) (r : ResultCode) : s.MayAbort (s.record kind r) := ⟨rfl, rfl, .inl rfl⟩

theorem State.takeOverride_mayAbort (s : State) (step legend minutes : Nat) : s.MayAbort (s.takeOverride step legend minutes).1 := by
  unfold State.takeOverride
  split
  · exact .refl s
  · split
    · exact .refl s
    · split <;> exact .of_eq rfl rfl

theorem State.acknowledgeKey_mayAbort (s : State) (code unit : Nat) : s.MayAbort (s.acknowledgeKey code unit).1 := by
  unfold State.acknowledgeKey
  split <;> exact .of_eq rfl rfl

theorem State.answer_mayAbort (s : State) (bodies : List (List Octet)) : s.MayAbort (s.answer bodies).1 := by
  unfold State.answer
  split
  · exact .refl s
  · exact .of_same (s.enqueue_same bodies)

theorem State.startTrace_mayAbort (s : State) (lane count : Nat) : s.MayAbort (s.startTrace lane count).1 := by
  unfold State.startTrace
  split
  · exact .refl s
  · split <;> exact .of_eq rfl rfl

end Sys2Proof.Machine
end

section
/-!
PROOFS. The sound shoulder (R124, R126 to R130): what it is made of, the reception of frames, and the shoulder's own moves.
-/
namespace Sys2Proof.Machine
-- One proof at a time: the threads of parallel proofs exceed the memory limit of the check.
set_option Elab.async false

/-! ### What a sound shoulder is made of -/

/-- Outside RUNNING and ISOLATED a sound shoulder stands CLOSED (R124). -/
theorem State.shoulderSound.closed {s : State} (h : s.shoulderSound) (hr : s.mode ≠ .running) (hi : s.mode ≠ .isolated) :
    s.shoulder.state = .closed := by
  obtain ⟨-, -, hopen, -⟩ := h
  by_contra hc
  exact (hopen hc).2.elim hr hi

theorem State.shoulderSound_congr {s t : State} (hm : t.mode = s.mode) (hc : t.cfg = s.cfg) (hd : t.shoulder = s.shoulder)
    (h : s.shoulderSound) : t.shoulderSound := by
  unfold State.shoulderSound at h ⊢
  rwa [hm, hc, hd]

/-- A shoulder that stands CLOSED with its timers still is sound in every mode. -/
theorem State.shoulderSound_of_closed {s t : State} (h : s.shoulderSound) (hc : s.shoulder.state = .closed)
    (hd : t.shoulder = s.shoulder) : t.shoulderSound := by
  obtain ⟨hcheck, hclearance, -, -⟩ := h
  have hclosed : t.shoulder.state = .closed := hd ▸ hc
  exact ⟨hd ▸ hcheck, hd ▸ hclearance, fun h => absurd hclosed h, fun _ => .inl hclosed⟩

/-- The end of an opening check is sound where the check was. -/
theorem State.MayAbort.shoulderSound {s t : State} (h : s.MayAbort t) (hs : s.shoulderSound) : t.shoulderSound := by
  rcases h.shoulder with hd | ⟨hc, hd⟩
  · exact State.shoulderSound_congr h.mode h.cfg hd hs
  · obtain ⟨-, hclearance, -, -⟩ := hs
    have hstill : s.shoulder.clearanceTimer.isSome ≠ true := fun h => nomatch (hclearance.mp h).symm.trans hc
    have hclosed : t.shoulder.state = .closed := congrArg Shoulder.state hd
    unfold State.shoulderSound
    rw [hd]
    exact ⟨⟨nofun, nofun⟩, ⟨fun h => absurd h hstill, nofun⟩, fun h => absurd rfl h, fun _ => .inl rfl⟩

/-- The readers leave a shoulder that stands CLOSED (R130). -/
theorem State.settle_shoulder_of_closed {s u before : State} (late : List Reader) (hc : s.shoulder.state = .closed)
    (hd : u.shoulder = s.shoulder) : (u.settle before late).shoulder = s.shoulder :=
  ((u.settle_taken before late).shoulder_of_calm (hd ▸ hc ▸ nofun) (hd ▸ hc ▸ nofun)).trans hd

/-- A station that is isolated while it is RUNNING closes its shoulder by force (R130); in every other mode it was CLOSED, or the
station has been isolated before. -/
theorem State.isolated_shoulderSound {s u : State} (late : List Reader) (hs : s.shoulderSound) (hd : u.shoulder = s.shoulder)
    (hcfg : u.cfg = s.cfg) (hm : u.mode = if s.mode = .running then .isolated else s.mode) :
    (u.settle s late).shoulderSound := by
  by_cases hr : s.mode = .running
  · have hisolated : u.mode = .isolated := hm.trans (if_pos hr)
    have hforced := u.settle_forces s late hisolated (hr ▸ nofun)
    have hstation := u.settle_same s late .station (by decide)
    obtain ⟨hcheck, hclearance, hopen, -⟩ := hs
    have hlane : s.shoulder.state ≠ .closed → u.cfg.shoulderLane = true := fun h => hcfg ▸ (hopen h).1
    have hmode : (u.settle s late).mode = .isolated := (congrArg Station.mode hstation).trans hisolated
    unfold State.shoulderSound
    rw [hforced, hmode, State.cfg_congr hstation, u.forceClosing_shoulder, hd]
    split
    · next hwas =>
      have hne : s.shoulder.state ≠ .closed := by rcases hwas with h | h <;> exact h ▸ nofun
      exact ⟨⟨nofun, nofun⟩, ⟨fun _ => rfl, fun _ => rfl⟩, fun _ => ⟨hlane hne, .inr rfl⟩, fun _ => .inr rfl⟩
    · next hwas =>
      refine ⟨hcheck, hclearance, fun h => ⟨hlane h, .inr rfl⟩, fun _ => ?_⟩
      cases hst : s.shoulder.state with
      | closed => exact .inl rfl
      | closing => exact .inr rfl
      | opened => exact absurd (.inl hst) hwas
      | checking => exact absurd (.inr hst) hwas
  · have hmode : u.mode = s.mode := hm.trans (if_neg hr)
    have hsame : s.MayAbort u := ⟨hmode, hcfg, .inl hd⟩
    exact (hsame.settle s.notEntered_self).shoulderSound hs

/-! ### The outcome of a command -/

/-- A command's outcome keeps the shoulder sound. -/
def ShoulderKept (s : State) (r : Result) : Prop := ∀ t, r = .next t → s.shoulderSound → t.shoulderSound

theorem ShoulderKept.next {s t : State} (h : s.shoulderSound → t.shoulderSound) : ShoulderKept s (.next t) := by
  rintro _ ⟨⟩
  exact h

theorem ShoulderKept.mayAbort {s t : State} {dt : Nat} (h : (s.advance dt).MayAbort t) : ShoulderKept s (.next t) :=
  .next h.shoulderSound

/-- What the readers make of a step that keeps the mode. -/
theorem ShoulderKept.settled {s t : State} {dt : Nat} {late : List Reader} (h : (s.advance dt).MayAbort t) :
    ShoulderKept s (.next (t.settle (s.advance dt) late)) := .mayAbort (h.settle (State.notEntered_self _))

/-- A command that writes other blocks alone. -/
theorem ShoulderKept.aside {s t : State} (hs : t.station = s.station) (hd : t.shoulder = s.shoulder) : ShoulderKept s (.next t) :=
  .next (State.MayAbort.of_eq hs hd).shoulderSound

/-- A command whose condition does not hold lets time pass. -/
theorem ShoulderKept.idle {s : State} {dt : Nat} : ShoulderKept s (.next (s.advance dt)) := .aside rfl rfl

theorem ShoulderKept.guarded {s t : State} {dt : Nat} {c : Prop} [Decidable c] (h : c → ShoulderKept s (.next t)) :
    ShoulderKept s (if c then .next t else .next (s.advance dt)) := by
  split
  · next hc => exact h hc
  · exact .idle

/-! ### The reception of a frame -/

/-- The arrival of a frame ends the isolation, in which the shoulder was CLOSED or CLOSING, and leaves the shoulder as it is (R71). -/
theorem State.arrivedFrom_shoulderSound (s : State) (n : Nat) (h : s.shoulderSound) :
    (s.arrivedFrom n).mode ≠ .isolated ∧ (s.arrivedFrom n).shoulderSound := by
  have hd : (s.arrivedFrom n).shoulder = s.shoulder := s.arrivedFrom_same n .shoulder (by decide)
  by_cases ha : s.acting = true
  · obtain ⟨hstation, -⟩ := s.arrivedFrom_spec n ha
    have hmode : (s.arrivedFrom n).mode = s.mode.heard := congrArg Station.mode hstation
    have hcfg : (s.arrivedFrom n).cfg = s.cfg := (congrArg (fun x : Station => x.config.getD StationConfig.absent) hstation).trans rfl
    refine ⟨hmode ▸ Mode.heard_ne_isolated _, ?_⟩
    by_cases hi : s.mode = .isolated
    · have hrunning : (s.arrivedFrom n).mode = .running := hmode.trans (if_pos hi)
      obtain ⟨hcheck, hclearance, hopen, -⟩ := h
      unfold State.shoulderSound
      rw [hd, hcfg, hrunning]
      exact ⟨hcheck, hclearance, fun ho => ⟨(hopen ho).1, .inl rfl⟩, nofun⟩
    · exact State.shoulderSound_congr (hmode.trans (if_neg hi)) hcfg hd h
  · have heq : s.arrivedFrom n = s.setLine (s.line.toIdle s.clock) := if_neg ha
    have hmode : (s.arrivedFrom n).mode = s.mode := (congrArg State.mode heq).trans rfl
    refine ⟨fun hi => ha ?_, State.shoulderSound_congr hmode ((congrArg State.cfg heq).trans rfl) hd h⟩
    exact congrArg Mode.acting (hmode.symm.trans hi)

/-- What the delivery of a frame outside ISOLATED keeps, its reception keeps: the arrival has ended the isolation (R71). -/
theorem State.receive_shoulderKept (s : State) (dt : Nat) (f : Frame) (o : Order) {deliver : State → State}
    (h : ∀ t : State, t.mode ≠ .isolated → t.shoulderSound → (deliver t).mode ≠ .isolated ∧ (deliver t).shoulderSound) :
    ShoulderKept s (.next ((s.advance dt).receive f o deliver)) := by
  refine .next fun (hs : (s.advance dt).shoulderSound) => ?_
  generalize s.advance dt = u at hs ⊢
  unfold State.receive
  split
  · split
    · exact (State.MayAbort.of_same (l := [.line]) (u.setLine_same _)).shoulderSound hs
    · have harrived := u.arrivedFrom_shoulderSound f.source.toNat hs
      show ((deliver ((u.arrivedFrom f.source.toNat).serveSome u o.early)).settle u o.late).shoulderSound
      generalize u.arrivedFrom f.source.toNat = w at harrived ⊢
      obtain ⟨hmode, hsound⟩ := harrived
      have hserved : w.MayAbort (w.serveSome u o.early) := (State.MayAbort.refl w).serveSome fun hi => absurd hi hmode
      obtain ⟨hm, hd⟩ := h _ (hserved.mode ▸ hmode) (hserved.shoulderSound hsound)
      exact ((State.MayAbort.refl _).settle fun hi => absurd hi hm).shoulderSound hd
  · exact hs

theorem State.obey_shoulderKept (s : State) (c : Command) (inFault : Bool) {owner : State → State × ResultCode}
    (h : (owner s).1.mode = s.mode ∧ (owner s).1.shoulderSound) (hs : s.shoulderSound) :
    (s.obey c inFault owner).mode = s.mode ∧ (s.obey c inFault owner).shoulderSound := by
  unfold State.obey
  split
  · split
    · exact ⟨h.1, (State.record_mayAbort _ _ _).shoulderSound h.2⟩
    · exact ⟨rfl, (s.record_mayAbort _ _).shoulderSound hs⟩
  · exact ⟨rfl, hs⟩

/-- A command of the gateway whose owner keeps a sound shoulder outside ISOLATED. -/
theorem State.command_shoulderKept_of (s : State) (dt : Nat) (c : Command) (body : List Octet) (o : Order) (inFault : Bool)
    {owner : State → State × ResultCode}
    (h : ∀ t : State, t.mode ≠ .isolated → t.shoulderSound → (owner t).1.mode = t.mode ∧ (owner t).1.shoulderSound) :
    ShoulderKept s (.next ((s.advance dt).command c body o inFault owner)) :=
  s.receive_shoulderKept dt _ o fun t hm hs => by
    obtain ⟨hmode, hsound⟩ := t.obey_shoulderKept c inFault (h t hm hs) hs
    exact ⟨hmode ▸ hm, hsound⟩

theorem State.command_shoulderKept (s : State) (dt : Nat) (c : Command) (body : List Octet) (o : Order) (inFault : Bool)
    {owner : State → State × ResultCode} (h : ∀ t : State, t.MayAbort (owner t).1) :
    ShoulderKept s (.next ((s.advance dt).command c body o inFault owner)) :=
  s.command_shoulderKept_of dt c body o inFault fun t _ hs => ⟨(h t).mode, (h t).shoulderSound hs⟩

theorem State.heard_shoulderKept (s : State) (dt : Nat) (f : Frame) :
    ShoulderKept s (.next ((s.advance dt).receive f Order.plain (fun t => t))) :=
  s.receive_shoulderKept dt f Order.plain fun _ hm hs => ⟨hm, hs⟩

/-! ### The moves of the shoulder (R126, R128, R129) -/

/-- A move of the shoulder that is sound in the mode of the station. -/
theorem State.moveShoulder_shoulderSound (s : State) (x : Shoulder) (hcheck : x.checkTimer.isSome = true ↔ x.state = .checking)
    (hclearance : x.clearanceTimer.isSome = true ↔ x.state = .closing)
    (hopen : x.state ≠ .closed → s.cfg.shoulderLane = true ∧ (s.mode = .running ∨ s.mode = .isolated))
    (hisolated : s.mode = .isolated → x.state = .closed ∨ x.state = .closing) : (s.moveShoulder x).shoulderSound := by
  have hstation := s.moveShoulder_same x .station (by decide)
  have hmode : (s.moveShoulder x).mode = s.mode := congrArg Station.mode hstation
  unfold State.shoulderSound
  rw [s.moveShoulder_shoulder x, State.cfg_congr hstation, hmode]
  exact ⟨hcheck, hclearance, hopen, hisolated⟩

theorem State.moveShoulder_mode (s : State) (x : Shoulder) : (s.moveShoulder x).mode = s.mode :=
  congrArg Station.mode (s.moveShoulder_same x .station (by decide))

/-- An opening is not refused in RUNNING alone (R126). -/
theorem State.running_of_openingRefused {s : State} (h : s.openingRefused ≠ true) : s.mode = .running := by
  unfold State.openingRefused at h
  simp only [Bool.or_eq_true, not_or, bne_iff_ne, ne_eq, not_not] at h
  obtain ⟨⟨⟨⟨hm, -⟩, -⟩, -⟩, -⟩ := h
  exact hm

theorem State.openShoulder_shoulderSound (s : State) (hl : s.cfg.shoulderLane = true) (hm : s.mode = .running) :
    s.openShoulder.shoulderSound :=
  s.moveShoulder_shoulderSound _ ⟨nofun, nofun⟩ ⟨nofun, nofun⟩ (fun _ => ⟨hl, .inl hm⟩) fun hi => nomatch hm.symm.trans hi

theorem State.closeShoulder_shoulderSound (s : State) : s.closeShoulder.shoulderSound :=
  s.moveShoulder_shoulderSound _ ⟨nofun, nofun⟩ ⟨nofun, nofun⟩ (fun h => absurd rfl h) fun _ => .inl rfl

theorem State.takeOpen_shoulderSound (s : State) (h : s.shoulderSound) : s.takeOpen.1.mode = s.mode ∧ s.takeOpen.1.shoulderSound := by
  unfold State.takeOpen
  split
  · exact ⟨rfl, h⟩
  · next hlane =>
    have hl : s.cfg.shoulderLane = true := by simpa using hlane
    split
    · next hclosed =>
      split
      · exact ⟨rfl, h⟩
      · next hr =>
        have hm := State.running_of_openingRefused hr
        obtain ⟨-, hclearance, -, -⟩ := h
        have hstill : s.shoulder.clearanceTimer.isSome ≠ true := fun ht => nomatch (hclearance.mp ht).symm.trans hclosed
        exact ⟨s.moveShoulder_mode _, s.moveShoulder_shoulderSound _ ⟨fun _ => rfl, fun _ => rfl⟩
          ⟨fun ht => absurd ht hstill, nofun⟩ (fun _ => ⟨hl, .inl hm⟩) fun hi => nomatch hm.symm.trans hi⟩
    · exact ⟨rfl, h⟩
    · exact ⟨rfl, h⟩
    · split
      · exact ⟨rfl, h⟩
      · next hr => exact ⟨s.moveShoulder_mode _, s.openShoulder_shoulderSound hl (State.running_of_openingRefused hr)⟩

theorem State.takeClose_shoulderSound (s : State) (h : s.shoulderSound) : s.takeClose.1.mode = s.mode ∧ s.takeClose.1.shoulderSound := by
  unfold State.takeClose
  split
  · exact ⟨rfl, h⟩
  · split
    · exact ⟨rfl, h⟩
    · exact ⟨s.moveShoulder_mode _, s.closeShoulder_shoulderSound⟩
    · next hopened =>
      obtain ⟨-, -, hopen, -⟩ := h
      have hplace := hopen (hopened ▸ nofun)
      exact ⟨s.moveShoulder_mode _, s.moveShoulder_shoulderSound _ ⟨nofun, nofun⟩ ⟨fun _ => rfl, fun _ => rfl⟩ (fun _ => hplace)
        fun _ => .inr rfl⟩
    · exact ⟨rfl, h⟩

/-- An opening check is in progress in RUNNING alone (R124, R130). -/
theorem State.shoulderSound.running_of_checking {s : State} (h : s.shoulderSound) (hc : s.shoulder.state = .checking) :
    s.cfg.shoulderLane = true ∧ s.mode = .running := by
  obtain ⟨-, -, hopen, hisolated⟩ := h
  obtain ⟨hl, hm⟩ := hopen (hc ▸ nofun)
  refine ⟨hl, hm.resolve_right fun hi => ?_⟩
  rcases hisolated hi with h | h <;> exact nomatch h.symm.trans hc

theorem execCheckTimerExpiry_shoulderKept (dt : Nat) (s : State) : ShoulderKept s (execCheckTimerExpiry dt s) := by
  refine .guarded fun hc => .next fun (hs : (s.advance dt).shoulderSound) => ?_
  simp only [Bool.and_eq_true, beq_iff_eq] at hc
  obtain ⟨⟨-, hchecking⟩, -⟩ := hc
  obtain ⟨hl, hm⟩ := hs.running_of_checking hchecking
  have hmode := (s.advance dt).moveShoulder_mode { state := .opened, checkTimer := none, clearanceTimer := none }
  exact ((State.MayAbort.refl _).settle fun hi => hmode ▸ hi).shoulderSound (State.openShoulder_shoulderSound _ hl hm)

theorem execClearanceTimerExpiry_shoulderKept (dt : Nat) (s : State) : ShoulderKept s (execClearanceTimerExpiry dt s) := by
  refine .guarded fun _ => .next fun _ => ?_
  have hmode := (s.advance dt).moveShoulder_mode { state := .closed, checkTimer := none, clearanceTimer := none }
  exact ((State.MayAbort.refl _).settle fun hi => hmode ▸ hi).shoulderSound (State.closeShoulder_shoulderSound _)

end Sys2Proof.Machine
end

section
/-!
PROOFS. The sound shoulder (R124, R126 to R130): every command keeps it.
-/
namespace Sys2Proof.Machine
-- One proof at a time: the threads of parallel proofs exceed the memory limit of the check.
set_option Elab.async false

/-! ### The line interface and the neighbour table -/

theorem State.becomeIsolated_cfg (s : State) : s.becomeIsolated.cfg = s.cfg := by
  obtain ⟨-, hstation⟩ := s.becomeIsolated_spec
  exact (congrArg (fun x : Station => x.config.getD StationConfig.absent) hstation).trans rfl

theorem State.stuckIsolated_cfg (s : State) (holds : List Nat) : (s.stuckIsolated holds).cfg = s.cfg := by
  have hmade : (s.madeLineStuck holds).cfg = s.cfg := State.cfg_congr (s.madeLineStuck_same holds .station (by decide))
  unfold State.stuckIsolated
  split
  · exact (State.becomeIsolated_cfg _).trans hmade
  · exact hmade

/-- LINE STUCK isolates a RUNNING station, which closes its shoulder by force (R70, R130). -/
theorem execLineStuck_shoulderKept (dt : Nat) (holds : List Nat) (o : Order) (s : State) :
    ShoulderKept s (execLineStuck dt holds o s) := by
  refine .guarded fun _ => .next fun (hs : (s.advance dt).shoulderSound) => ?_
  generalize s.advance dt = u at hs ⊢
  obtain ⟨hsame, -, -, -, hmode⟩ := u.stuckIsolated_spec holds
  exact State.isolated_shoulderSound o.late hs (hsame .shoulder (by decide)) (u.stuckIsolated_cfg holds) hmode

theorem execNeighbourRemoval_shoulderKept (dt : Nat) (station : Nat) (o : Order) (s : State) :
    ShoulderKept s (execNeighbourRemoval dt station o s) := by
  unfold execNeighbourRemoval
  dsimp only
  split
  · have hremoved : (s.advance dt).MayAbort (((s.advance dt).removeEntry station).raiseFault .neighbourLost station) :=
      (State.MayAbort.of_same (State.setNeighbours_same _ _)).trans (.of_same (State.raiseFault_same _ _ _))
    exact .guarded fun _ => .settled hremoved
  · exact .idle

theorem execIsolationTimerExpiry_shoulderKept (dt : Nat) (o : Order) (s : State) :
    ShoulderKept s (execIsolationTimerExpiry dt o s) := by
  refine .guarded fun _ => .next fun (hs : (s.advance dt).shoulderSound) => ?_
  generalize s.advance dt = u at hs ⊢
  let w := u.setNeighbours { u.neighbours with isolationTimer := none }
  have hd : w.becomeIsolated.shoulder = u.shoulder := w.becomeIsolated_same .shoulder (by decide)
  obtain ⟨-, hstation⟩ := w.becomeIsolated_spec
  exact State.isolated_shoulderSound o.late hs hd w.becomeIsolated_cfg (congrArg Station.mode hstation)

/-! ### The commands of the centre -/

theorem execCommandNotAddressed_shoulderKept (dt : Nat) (kind : BitVec 4) (body : List Octet) (s : State) :
    ShoulderKept s (execCommandNotAddressed dt kind body s) := by
  unfold execCommandNotAddressed
  dsimp only
  split
  · split
    · split
      · exact .idle
      · exact s.heard_shoulderKept dt _
    · exact s.heard_shoulderKept dt _
  · exact .idle

theorem execShoulderOtherAction_shoulderKept (dt : Nat) (low high action : Octet) (s : State) :
    ShoulderKept s (execShoulderOtherAction dt low high action s) := by
  unfold execShoulderOtherAction
  dsimp only
  split
  · exact .idle
  · exact s.command_shoulderKept dt _ _ _ _ fun t => by rw [t.takeOtherAction_eq]; exact .refl t

theorem execFaultAck_shoulderKept (dt : Nat) (station kind unit : Octet) (s : State) :
    ShoulderKept s (execFaultAck dt station kind unit s) := by
  unfold execFaultAck
  dsimp only
  split
  · exact .idle
  · exact s.command_shoulderKept dt _ _ _ _ fun t => t.acknowledgeKey_mayAbort _ _

theorem execRequestOtherType_shoulderKept (dt : Nat) (station type lane count : Octet) (s : State) :
    ShoulderKept s (execRequestOtherType dt station type lane count s) := by
  unfold execRequestOtherType
  dsimp only
  split
  · exact .idle
  · exact s.command_shoulderKept dt _ _ _ _ State.MayAbort.refl

/-- A STATUS frame finds the station out of ISOLATED, and may teach the closure that ends an opening check (R71, R113, R127). -/
theorem execStatusFrame_shoulderKept (dt : Nat) (cls : BitVec 2) (source : BitVec 6) (body : List Octet) (o : Order) (s : State) :
    ShoulderKept s (execStatusFrame dt cls source body o s) :=
  s.receive_shoulderKept dt _ o fun _ hm hs =>
    have htaken := State.takeStatus_mayAbort (before := s.advance dt) (fun hi => absurd hi hm) source.toNat body o
    ⟨htaken.mode ▸ hm, htaken.shoulderSound hs⟩

/-! ### The detector unit and the arithmetic unit -/

theorem execQualifiedOnEdge_shoulderKept (dt : Nat) (l : Loop) (s : State) : ShoulderKept s (execQualifiedOnEdge dt l s) := by
  unfold execQualifiedOnEdge
  dsimp only
  split
  · next p _ =>
    obtain ⟨hwork, -⟩ := (s.advance dt).qualifyInOrder_checkWork l p
    exact .guarded fun _ => .settled hwork.mayAbort
  · exact .idle

theorem execReleaseEdge_shoulderKept (dt : Nat) (l : Loop) (s : State) : ShoulderKept s (execReleaseEdge dt l s) := by
  have hinput : (s.advance dt).MayAbort ((s.advance dt).setInput l false) := .of_same ((s.advance dt).setInput_same l false)
  unfold execReleaseEdge
  dsimp only
  split
  · split
    · split
      · next p _ =>
        split
        · exact .settled (hinput.trans (State.releaseQualified_mayAbort _ l))
        · split
          · obtain ⟨hwork, -⟩ := State.qualifyInOrder_checkWork ((s.advance dt).setInput l false) l p
            exact .settled ((hinput.trans hwork.mayAbort).trans (State.releaseQualified_mayAbort _ l))
          · exact .aside rfl rfl
      · exact .mayAbort hinput
    · exact .mayAbort hinput
  · exact .idle

theorem execPresenceTimeout_shoulderKept (dt : Nat) (l : Loop) (endFirst : Bool) (s : State) :
    ShoulderKept s (execPresenceTimeout dt l endFirst s) := by
  have hstuck (c : Prop) [Decidable c] (x : LoopRecord) (d : LaneDetector) : (s.advance dt).MayAbort
      (if c then ((s.advance dt).setLoop l x).setLane l.lane d else (s.advance dt).setLoop l x) := by
    split <;> exact .of_eq rfl rfl
  unfold execPresenceTimeout
  dsimp only
  split
  · refine .guarded fun _ => .settled (State.MayAbort.trans ?_ (State.settleMode_mayAbort _ _ _))
    split
    · exact (hstuck _ _ _).trans (.of_same (State.raiseFault_same _ _ _))
    · exact (hstuck _ _ _).trans (.of_same (State.exchangeFaults_same _ _ _ _ _))
    · exact hstuck _ _ _
  · exact .idle

theorem execPairingDeadline_shoulderKept (dt : Nat) (k : Lane) (s : State) : ShoulderKept s (execPairingDeadline dt k s) :=
  .guarded fun _ => .mayAbort (((s.advance dt).setArrivals_laneWork k _).trans (State.drainArrivals_laneWork _ k)).work.mayAbort

theorem execIntervalEnd_shoulderKept (dt : Nat) (lanes : List Lane) (loops : List Loop) (s : State) :
    ShoulderKept s (execIntervalEnd dt lanes loops s) := by
  unfold execIntervalEnd
  dsimp only
  split
  · exact .guarded fun _ => .settled ((s.advance dt).closeInterval_mayAbort _ lanes loops)
  · exact .idle

theorem execVehicleRequestCompletion_shoulderKept (dt : Nat) (o : Order) (s : State) :
    ShoulderKept s (execVehicleRequestCompletion dt o s) := by
  unfold execVehicleRequestCompletion
  dsimp only
  split
  · exact .settled ((State.MayAbort.of_same (State.setRequests_same _ _)).trans (.of_same (State.finishRecord_same _ _)))
  · exact .idle

theorem execIntervalRequestCompletion_shoulderKept (dt : Nat) (o : Order) (s : State) :
    ShoulderKept s (execIntervalRequestCompletion dt o s) := by
  unfold execIntervalRequestCompletion
  dsimp only
  split
  · next k x rest _ => exact .settled ((s.advance dt).completeInterval_mayAbort k x rest o)
  · exact .idle

/-! ### Sign channels and speed control -/

theorem execIdentity_shoulderKept (dt : Nat) (c : Chan) (kind : Octet) (check : BitVec 16) (endFirst : Bool) (s : State) :
    ShoulderKept s (execIdentity dt c kind check endFirst s) := by
  have hmismatch : (s.advance dt).MayAbort ((s.advance dt).enterMismatch c endFirst) := .of_same (State.enterMismatch_same _ c endFirst)
  unfold execIdentity
  dsimp only
  split
  · split
    · split
      · exact .aside rfl rfl
      · exact .mayAbort hmismatch
    · split
      · split
        · exact .aside rfl rfl
        · exact .mayAbort hmismatch.tryCommit
      · exact .idle
  · exact .idle

theorem execProvingReport_shoulderKept (dt : Nat) (c : Chan) (set result : Octet) (check : BitVec 16) (endFirst : Bool) (s : State) :
    ShoulderKept s (execProvingReport dt c set result check endFirst s) := by
  unfold execProvingReport
  dsimp only
  split
  · split
    · exact .mayAbort ((s.advance dt).prove_mayAbort c _ endFirst).tryCommit
    · exact .mayAbort ((s.advance dt).prove_mayAbort c _ endFirst).tryCommit
    · exact .mayAbort (State.MayAbort.of_same ((s.advance dt).enterFailed_same c _ endFirst)).tryCommit
    · exact .idle
  · exact .idle

theorem execRestartNotice_shoulderKept (dt : Nat) (c : Chan) (kind : Octet) (check : BitVec 16) (endFirst : Bool) (s : State) :
    ShoulderKept s (execRestartNotice dt c kind check endFirst s) := by
  have hmismatch : (s.advance dt).MayAbort ((s.advance dt).enterMismatch c endFirst) := .of_same (State.enterMismatch_same _ c endFirst)
  have hagain : ShoulderKept s (.next (if kind = expectedKind c then ((s.advance dt).markIdentified c).retry c
      else (s.advance dt).enterMismatch c endFirst)) := by
    split
    · exact .mayAbort (dt := dt) ((State.MayAbort.of_same (State.setChannel_same _ c _)).trans (State.retry_mayAbort _ c))
    · exact .mayAbort hmismatch
  unfold execRestartNotice
  dsimp only
  split
  · split
    · exact .aside rfl rfl
    · split
      · split
        · exact .idle
        · split
          · exact .aside rfl rfl
          · exact .mayAbort hmismatch
        · split
          · exact .aside rfl rfl
          · exact .mayAbort hmismatch.tryCommit
        · exact hagain
        · exact hagain
        · exact .aside rfl rfl
      · exact .idle
  · exact .idle

theorem execHoldExpiry_shoulderKept (dt : Nat) (s : State) : ShoulderKept s (execHoldExpiry dt s) := by
  have hfall : (s.advance dt).MayAbort (s.advance dt).fall.updateEnd := .of_eq rfl rfl
  unfold execHoldExpiry
  dsimp only
  split
  · split
    · exact .mayAbort (hfall.trans (.of_same (State.serveComposer_same _)))
    · exact .aside rfl rfl
  · exact .idle

/-! ### Station control -/

/-- A command that finds a sound shoulder CLOSED, because the station is not yet RUNNING, and leaves it. -/
theorem ShoulderKept.early {s t : State} (hr : s.mode ≠ .running) (hi : s.mode ≠ .isolated)
    (h : s.shoulder.state = .closed → t.shoulder = s.shoulder) : ShoulderKept s (.next t) :=
  .next fun hs => State.shoulderSound_of_closed hs (hs.closed hr hi) (h (hs.closed hr hi))

/-- A reset closes the shoulder with both timers still (R174). -/
theorem State.restart_shoulderKept (s : State) (straps : Straps) : ShoulderKept s (.next (s.restart straps)) := by
  refine .next fun _ => ?_
  have hd : (s.restart straps).shoulder = Shoulder.reset := by
    unfold State.restart
    dsimp only
    split <;> rfl
  unfold State.shoulderSound
  rw [hd]
  exact ⟨⟨nofun, nofun⟩, ⟨nofun, nofun⟩, fun h => absurd rfl h, fun _ => .inl rfl⟩

theorem execStartUpCheck_shoulderKept (dt : Nat) (image : List Octet) (s : State) : ShoulderKept s (execStartUpCheck dt image s) := by
  have hfault (u : State) : u.enterConfigFault.shoulder = u.shoulder := by
    obtain ⟨-, -, -, -, -, hsame⟩ := u.enterConfigFault_spec
    exact hsame .shoulder (by decide)
  unfold execStartUpCheck
  dsimp only
  split
  · next hc =>
    simp only [Bool.and_eq_true, beq_iff_eq] at hc
    obtain ⟨⟨hm, -⟩, -⟩ := hc
    have hstarting : s.mode = .starting := hm
    have outcome {t : State} (ht : t.shoulder = s.shoulder) : ShoulderKept s (.next t) :=
      .early (hstarting ▸ nofun) (hstarting ▸ nofun) fun _ => ht
    split
    · refine outcome ?_
      unfold State.judgeImage
      dsimp only
      rw [State.raiseImageFaults_eq]
      split
      · exact State.handOver_same _ .shoulder (by decide)
      · exact hfault _
    · exact outcome (hfault _)
  · exact .idle

theorem execRestoreComplete_shoulderKept (dt : Nat) (s : State) : ShoulderKept s (execRestoreComplete dt s) := by
  have hslots : SameOutside [.faults, .retention, .closures] (s.advance dt) (Pos.all.foldl State.restoreSlot (s.advance dt)) :=
    .foldl State.restoreSlot_same _ _
  unfold execRestoreComplete
  dsimp only
  generalize Pos.all.foldl State.restoreSlot (s.advance dt) = u at hslots ⊢
  have hrestored : u.MayAbort (u.setStation { u.station with restored := true }) := ⟨rfl, rfl, .inl rfl⟩
  exact .guarded fun _ => .mayAbort (dt := dt)
    (((State.MayAbort.of_same hslots).trans hrestored).trans (.of_same (State.startWrite_same _)))

theorem execWarmingEntry_shoulderKept (dt : Nat) (s : State) : ShoulderKept s (execWarmingEntry dt s) := by
  refine .guarded fun hc => ?_
  simp only [Bool.and_eq_true, beq_iff_eq] at hc
  obtain ⟨⟨⟨hm, -⟩, -⟩, -⟩ := hc
  have hstarting : s.mode = .starting := hm
  exact .early (hstarting ▸ nofun) (hstarting ▸ nofun) fun hclosed =>
    State.settle_shoulder_of_closed (u := (s.advance dt).warmingStarted) [] hclosed rfl

theorem execWarmingExit_shoulderKept (dt : Nat) (modeFirst : Bool) (o : Order) (s : State) :
    ShoulderKept s (execWarmingExit dt modeFirst o s) := by
  refine .guarded fun hc => ?_
  simp only [Bool.and_eq_true, beq_iff_eq] at hc
  obtain ⟨⟨hm, -⟩, -⟩ := hc
  have hwarming : s.mode = .warming := hm
  refine .early (hwarming ▸ nofun) (hwarming ▸ nofun) fun hclosed => State.settle_shoulder_of_closed o.late hclosed ?_
  split
  · obtain ⟨-, -, hshoulder, -⟩ := (s.advance dt).exitEvaluated_spec o.between
    exact hshoulder hclosed
  · split <;> rfl

theorem execSlotWriteCompletion_shoulderKept (dt : Nat) (s : State) : ShoulderKept s (execSlotWriteCompletion dt s) := by
  unfold execSlotWriteCompletion
  dsimp only
  split
  · exact .guarded fun _ => .mayAbort (dt := dt) ((State.MayAbort.of_same (State.setRetention_same _ _)).trans
      (.of_same (State.startWrite_same _)))
  · exact .idle

/-! ### Every command -/

theorem exec_shoulderKept (i : Instr) (s : State) : ShoulderKept s (exec i s) := by
  cases i with
  | powerOnReset straps | resetPin straps => exact s.restart_shoulderKept straps
  | loopPresenceStart | traceFramePlaced | idleGap | transmitStart | arbitrationLost | transmitAbort | abortHoldEnd | transmitComplete
  | publicationTimerExpiry | lapse | frameAborted | frameRejected | lineStuckEnd | neighbourExpiry | frameLengthRejected
  | firstHoldWrongClass | arbitrationWon =>
    dsimp only [exec, execLoopPresenceStart, execTraceFramePlaced, execIdleGap, execTransmitStart, execArbitrationLost, execTransmitAbort,
      execAbortHoldEnd, execTransmitComplete, execPublicationTimerExpiry, execLapse, execFrameAborted, execFrameRejected,
      execLineStuckEnd, execNeighbourExpiry, execFrameLengthRejected, execFirstHoldWrongClass, execArbitrationWon]
    repeat' split
    all_goals exact .aside rfl rfl
  | startUpCheck dt image => exact execStartUpCheck_shoulderKept dt image s
  | restoreComplete dt => exact execRestoreComplete_shoulderKept dt s
  | warmingEntry dt => exact execWarmingEntry_shoulderKept dt s
  | warmUpTimerExpiry dt => exact .guarded fun _ => .mayAbort (dt := dt) ⟨rfl, rfl, .inl rfl⟩
  | warmingExit dt modeFirst o => exact execWarmingExit_shoulderKept dt modeFirst o s
  | qualifiedOnEdge dt l => exact execQualifiedOnEdge_shoulderKept dt l s
  | releaseEdge dt l => exact execReleaseEdge_shoulderKept dt l s
  | presenceTimeout dt l endFirst => exact execPresenceTimeout_shoulderKept dt l endFirst s
  | pairingDeadline dt k => exact execPairingDeadline_shoulderKept dt k s
  | intervalEnd dt lanes loops => exact execIntervalEnd_shoulderKept dt lanes loops s
  | vehicleRequestCompletion dt o => exact execVehicleRequestCompletion_shoulderKept dt o s
  | intervalRequestCompletion dt o => exact execIntervalRequestCompletion_shoulderKept dt o s
  | lineStuck dt holds o => exact execLineStuck_shoulderKept dt holds o s
  | statusFrame dt cls source body o => exact execStatusFrame_shoulderKept dt cls source body o s
  | reportFrameHeard dt cls source body => exact s.heard_shoulderKept dt _
  | neighbourRemoval dt station o => exact execNeighbourRemoval_shoulderKept dt station o s
  | isolationTimerExpiry dt o => exact execIsolationTimerExpiry_shoulderKept dt o s
  | holdExpiry dt => exact execHoldExpiry_shoulderKept dt s
  | override dt low high step legend minutes o => exact s.command_shoulderKept dt _ _ _ _ fun t => t.takeOverride_mayAbort _ _ _
  | overrideExpiry dt o => exact .guarded fun _ => .settled (.of_same (State.setSpeed_same _ _))
  | closeSet dt origin serial lanes taper extent step o => exact s.command_shoulderKept dt _ _ _ _ fun t => t.closeSet_mayAbort _
  | closeClear dt origin serial o => exact s.command_shoulderKept dt _ _ _ _ fun t => t.closeClear_mayAbort _ _
  | shoulderOpen dt low high o => exact s.command_shoulderKept_of dt _ _ _ _ fun t _ hs => t.takeOpen_shoulderSound hs
  | shoulderClose dt low high o => exact s.command_shoulderKept_of dt _ _ _ _ fun t _ hs => t.takeClose_shoulderSound hs
  | checkTimerExpiry dt => exact execCheckTimerExpiry_shoulderKept dt s
  | clearanceTimerExpiry dt => exact execClearanceTimerExpiry_shoulderKept dt s
  | faultAck dt station kind unit => exact execFaultAck_shoulderKept dt station kind unit s
  | faultAckAll dt station unit => exact s.command_shoulderKept dt _ _ _ _ fun _ => .of_eq rfl rfl
  | requestFaults dt station lane count => exact s.command_shoulderKept dt _ _ _ _ fun t => t.answer_mayAbort _
  | requestLanes dt station lane count => exact s.command_shoulderKept dt _ _ _ _ fun t => t.answer_mayAbort _
  | requestTrace dt station lane count => exact s.command_shoulderKept dt _ _ _ _ fun t => t.startTrace_mayAbort _ _
  | identity dt c kind check endFirst => exact execIdentity_shoulderKept dt c kind check endFirst s
  | identificationDeadline dt c => exact .guarded fun _ => .mayAbort (.of_same (State.enterFailed_same _ c _ _))
  | provingReport dt c set result check endFirst => exact execProvingReport_shoulderKept dt c set result check endFirst s
  | provingDeadline dt c endFirst =>
    exact .guarded fun _ => .mayAbort (State.MayAbort.of_same (State.enterFailed_same _ c _ endFirst)).tryCommit
  | retryTimerExpiry dt c => exact .guarded fun _ => .mayAbort ((s.advance dt).retry_mayAbort c)
  | restartNotice dt c kind check endFirst => exact execRestartNotice_shoulderKept dt c kind check endFirst s
  | slotWriteCompletion dt => exact execSlotWriteCompletion_shoulderKept dt s
  | commandNotAddressed dt kind body => exact execCommandNotAddressed_shoulderKept dt kind body s
  | shoulderOtherAction dt low high action => exact execShoulderOtherAction_shoulderKept dt low high action s
  | requestOtherType dt station type lane count => exact execRequestOtherType_shoulderKept dt station type lane count s

/-- Settles O11: every command keeps the shoulder sound, and a step without one leaves the state. -/
theorem shoulderStaysSound : Obligations.ShoulderStaysSound := by
  intro s t hs ht
  unfold step at ht
  split at ht
  · next i rest _ => exact exec_shoulderKept i (s.setPending rest) t ht hs
  · cases ht
    exact hs

end Sys2Proof.Machine
end

section
/-!
PROOFS. The ends of the opening check and of the clearance (R127 to R129, R131): the timers of the shoulder, and the events of lane 1.
-/
namespace Sys2Proof.Machine
-- One proof at a time: the threads of parallel proofs exceed the memory limit of the check.
set_option Elab.async false

/-! ### Commands and their meanings -/

theorem exec_checkTimerExpiry_eq (dt : Nat) (s : State) : exec (.checkTimerExpiry dt) s = execCheckTimerExpiry dt s := rfl

theorem exec_clearanceTimerExpiry_eq (dt : Nat) (s : State) : exec (.clearanceTimerExpiry dt) s = execClearanceTimerExpiry dt s := rfl

/-! ### The timers (R128, R129, R131) -/

/-- A move of the shoulder at an expiry is urgent, and the readers leave it. -/
theorem State.moveShoulder_settled (s : State) (dt : Nat) (x : Shoulder) (ha : s.acting = true) (hx : x.state ≠ s.shoulder.state) :
    let t := ((s.advance dt).moveShoulder x).settle (s.advance dt) []
    t.clock = s.clock + dt ∧ t.shoulder = x ∧ t.line.urgent = true ∧ t.line.pending = true ∧ Line.slotOnly s.line t.line ∧
      SameOutside (andReaders [.clock, .shoulder]) s t := by
  intro t
  have hwork := (s.advance dt).moveShoulder_work x
  have hmoved := (s.advance dt).moveShoulder_shoulder x
  have hserved := State.settle_served _ (s.advance dt) [] (State.notEntered_of_station (hwork.same .station (by decide)))
  have hflag := ((s.advance dt).moveShoulder x).settle_mayFlag (s.advance dt) []
  have hurgent := hwork.urgent ha (by rw [hmoved]; exact hx)
  obtain ⟨htu, htp⟩ := Line.mayFlag_urgent hflag hurgent
  refine ⟨hserved.clock.trans (hwork.same .clock (by decide)), (hserved.same .shoulder (by decide)).trans hmoved, htu, htp,
    Line.mayFlag_slotOnly (Line.mayFlag_trans hwork.flag hflag), ?_⟩
  exact ((s.advance_same dt).trans hwork.same (n := [.clock, .shoulder, .line]) (by decide) (by decide)).trans hserved.same
    (by decide) (by decide)

theorem execCheckTimerExpiry_of_due (dt e : Nat) (s : State) (ha : s.acting = true) (hc : s.shoulder.state = .checking)
    (ht : s.shoulder.checkTimer = some e) (he : e ≤ s.clock + dt) :
    execCheckTimerExpiry dt s =
      .next (((s.advance dt).moveShoulder { state := .opened, checkTimer := none, clearanceTimer := none }).settle (s.advance dt) []) := by
  refine if_pos ?_
  have hdue : (s.advance dt).due s.shoulder.checkTimer = true := by
    rw [ht]
    exact decide_eq_true he
  exact Bool.and_eq_true_iff.mpr ⟨Bool.and_eq_true_iff.mpr ⟨ha, beq_iff_eq.mpr hc⟩, hdue⟩

theorem execClearanceTimerExpiry_of_due (dt e : Nat) (s : State) (ha : s.acting = true) (hc : s.shoulder.state = .closing)
    (ht : s.shoulder.clearanceTimer = some e) (he : e ≤ s.clock + dt) :
    execClearanceTimerExpiry dt s =
      .next (((s.advance dt).moveShoulder { state := .closed, checkTimer := none, clearanceTimer := none }).settle (s.advance dt) []) := by
  refine if_pos ?_
  have hdue : (s.advance dt).due s.shoulder.clearanceTimer = true := by
    rw [ht]
    exact decide_eq_true he
  exact Bool.and_eq_true_iff.mpr ⟨Bool.and_eq_true_iff.mpr ⟨ha, beq_iff_eq.mpr hc⟩, hdue⟩

/-! ### What the readers leave of an opening check that has ended -/

theorem State.CheckEnded.settled {s u v : State} {dt : Nat} (he : u.CheckEnded v) (late : List Reader) (hc : u.clock = s.clock + dt)
    (hd : u.shoulder = s.shoulder) (ha : u.acting = true) (hn : v.notEntered (s.advance dt)) :
    s.checkAborted dt u.faults (v.settle (s.advance dt) late) := by
  have hserved := v.settle_served (s.advance dt) late hn
  have hshoulder : (v.settle (s.advance dt) late).shoulder = s.shoulder.aborted :=
    (hserved.same .shoulder (by decide)).trans (he.shoulder.trans (congrArg Shoulder.aborted hd))
  have hfaults := (hserved.same .faults (by decide)).trans he.faults
  have hseconds : u.seconds = (s.clock + dt) / second := congrArg (· / second) hc
  exact ⟨hserved.clock.trans (he.clock.trans hc), hshoulder, hseconds ▸ hfaults,
    Line.mayFlag_urgent (v.settle_mayFlag (s.advance dt) late) (he.urgent ha)⟩

/-- The detector unit works, an opening check of an acting station ends, and the readers take the report. -/
theorem State.checkAborted_of_work {s u v : State} {dt : Nat} (hu : (s.advance dt).DetectorWork u) (hv : u.CheckWork v)
    (ha : s.acting = true) (hs : s.shoulder.state = .checking) (hend : v.shoulder.state ≠ .checking) :
    let t := v.settle (s.advance dt) []
    s.checkAborted dt u.faults t ∧ t.detector = v.detector ∧ Line.slotOnly s.line t.line ∧
      SameOutside (andReaders [.clock, .detector, .requests, .trace, .faults, .shoulder]) s t := by
  intro t
  have hchecking : u.shoulder.state = .checking := hu.shoulder ▸ hs
  have hn : v.notEntered (s.advance dt) := State.notEntered_of_station (hv.station.trans hu.station)
  have hserved := v.settle_served (s.advance dt) [] hn
  have hline : u.line = s.line := hu.same .line (by decide)
  refine ⟨(hv.ended hchecking hend).settled [] hu.clock hu.shoulder (hu.acting.trans ha) hn, hserved.same .detector (by decide), ?_, ?_⟩
  · exact Line.mayFlag_slotOnly (hline ▸ Line.mayFlag_trans hv.flag (v.settle_mayFlag (s.advance dt) []))
  · have hworked : SameOutside [.clock, .detector, .trace, .requests, .queue, .faults, .shoulder, .line] s v :=
      ((s.advance_same dt).trans hu.same (n := [.clock, .detector, .trace, .requests, .faults, .queue]) (by decide) (by decide)).trans
        hv.same (by decide) (by decide)
    exact hworked.trans hserved.same (by decide) (by decide)

/-! ### The presence timeout (R4, R7, R127) -/

theorem execPresenceTimeout_of_reached (dt : Nat) (l : Loop) (endFirst : Bool) (s : State) (p : Presence)
    (ha : s.acting = true) (hc : s.loopConfigured l = true) (hp : (s.loop l).presence = some p) (hq : p.qualified = true)
    (ht : p.timing = true) (hr : (s.advance dt).reached (s.timeoutTick p) = true) (hok : (s.loop l).status = .ok) :
    execPresenceTimeout dt l endFirst s =
      .next ((((s.advance dt).madeStuck l p endFirst).settleMode l.lane (s.timeoutTick p)).settle (s.advance dt) []) := by
  have hp' : ((s.advance dt).loop l).presence = some p := hp
  have hok' : ((s.advance dt).loop l).status = .ok := hok
  have hmoment : (s.advance dt).timeoutTick p = s.timeoutTick p := rfl
  have hcond : ((s.advance dt).acting && (s.advance dt).loopConfigured l && p.qualified && p.timing &&
      (s.advance dt).reached (s.timeoutTick p)) = true := by
    rw [hr, hq, ht]
    simp [ha, hc]
  unfold execPresenceTimeout State.madeStuck State.stuckFaults
  simp only [hp', hmoment, hcond, if_true, State.setLane_stuckLane, hok']
  rfl

theorem State.stuckLane_modes (s : State) (l : Loop) (p : Presence) (moment : Tick) :
    (s.stuckLane l p moment).mode = (s.detector.lanes.get l.lane).mode ∧
      ∀ side, ((s.stuckLane l p moment).loop side).status =
        if side = l.side then .stuck else (s.loop { l with side := side }).status := by
  let d := (s.detector.lanes.get l.lane).setLoop l.side { s.loop l with status := .stuck, presence := some { p with timing := false } }
  have hloops : d.mode = (s.detector.lanes.get l.lane).mode ∧
      ∀ side, (d.loop side).status = if side = l.side then .stuck else (s.loop { l with side := side }).status := by
    refine ⟨LaneDetector.setLoop_mode _ _ _, fun side => ?_⟩
    by_cases h : side = l.side
    · rw [if_pos h, h]
      exact congrArg LoopRecord.status (LaneDetector.loop_setLoop _ _ _)
    · rw [if_neg h]
      exact congrArg LoopRecord.status (LaneDetector.loop_setLoop_of_ne _ _ h)
  unfold State.stuckLane
  dsimp only
  split
  · rw [LaneDetector.addOccupancy_eq]
    exact ⟨hloops.1, fun side => (by cases side <;> rfl : _ = (d.loop side).status).trans (hloops.2 side)⟩
  · exact hloops

/-- A lane whose loop A is not OK and that has no loop B in that state either has no loop to measure with (Table 1-2). -/
theorem modeOfLoops_eq_none {loopB : Bool} {d : LaneDetector} (ha : d.a.status ≠ .ok) (hb : loopB = false ∨ d.b.status ≠ .ok) :
    modeOfLoops loopB d = .none := by
  unfold modeOfLoops
  rw [if_neg ha]
  rcases hb with h | h <;> simp [h]

/-- The lane of a loop that has become STUCK has no loop left to measure with, when the lane's other loop is not OK or is not there. -/
theorem State.stuckLane_givesUp (s : State) (l : Loop) (p : Presence) (moment : Tick)
    (h : (s.loop (otherLoop l)).status ≠ .ok ∨ (l.side = .a ∧ (s.cfg.lanes.get l.lane).loopB = false)) :
    modeOfLoops (s.cfg.lanes.get l.lane).loopB (s.stuckLane l p moment) = .none := by
  obtain ⟨-, hstatus⟩ := s.stuckLane_modes l p moment
  have ha : (s.stuckLane l p moment).a.status = _ := hstatus .a
  have hb : (s.stuckLane l p moment).b.status = _ := hstatus .b
  obtain ⟨k, side⟩ := l
  cases side with
  | a =>
    refine modeOfLoops_eq_none (ha ▸ nofun) ?_
    rcases h with h | ⟨-, h⟩
    · exact .inr (hb ▸ h)
    · exact .inl h
  | b =>
    rcases h with h | ⟨h, -⟩
    · exact modeOfLoops_eq_none (ha ▸ h) (.inr (hb ▸ nofun))
    · exact nomatch h

/-! ### The interval end (R7, R127) -/

theorem execIntervalEnd_of_reached (dt : Nat) (lanes : List Lane) (loops : List Loop) (s : State) (stop : Tick) (ha : s.acting = true)
    (hp : s.detector.intervalEnd = some stop) (hr : (s.advance dt).reached stop = true) :
    execIntervalEnd dt lanes loops s = .next (((s.advance dt).closeInterval stop lanes loops).settle (s.advance dt) []) := by
  have hp' : (s.advance dt).detector.intervalEnd = some stop := hp
  have hcond : ((s.advance dt).acting && (s.advance dt).reached stop) = true := by
    rw [hr]
    simp [ha]
  unfold execIntervalEnd
  simp only [hp', hcond, if_true]

/-- A lane whose judged loops are not OK has no loop left to measure with in the next interval (R5, R7). -/
theorem State.openedLane_givesUp (s : State) (stop : Tick) {k : Lane} (hk : k ∈ s.laneList)
    (ha : (s.judged { lane := k, side := .a }).status ≠ .ok)
    (hb : (s.cfg.lanes.get k).loopB = false ∨ (s.judged { lane := k, side := .b }).status ≠ .ok) :
    modeOfLoops (s.cfg.lanes.get k).loopB (s.openedLane stop k) = .none := by
  have hnum : decide (k.num ≤ s.cfg.laneCount) = true := decide_eq_true ((s.mem_laneList k).mp hk)
  have hca : s.loopConfigured { lane := k, side := .a } = true := Bool.and_eq_true_iff.mpr ⟨hnum, rfl⟩
  have hloopA : (s.openedLane stop k).a = s.judged { lane := k, side := .a } := if_pos hca
  refine modeOfLoops_eq_none (hloopA ▸ ha) ?_
  cases hpresent : (s.cfg.lanes.get k).loopB with
  | false => exact .inl rfl
  | true =>
    have hcb : s.loopConfigured { lane := k, side := .b } = true := Bool.and_eq_true_iff.mpr ⟨hnum, hpresent⟩
    have hloopB : (s.openedLane stop k).b = s.judged { lane := k, side := .b } := if_pos hcb
    exact .inr (hloopB ▸ hb.resolve_left (hpresent ▸ nofun))

/-- When the loops of lane 1 give its measurement up, the recomputation of the modes leaves it in NONE. -/
theorem State.remeasured_givenUp (s : State) (stop : Tick) (hmem : .l1 ∈ s.laneList)
    (hnew : modeOfLoops (s.cfg.lanes.get .l1).loopB (s.detector.lanes.get .l1) = .none)
    (hold : (s.detector.lanes.get .l1).mode ≠ .none) :
    ((s.remeasured stop).detector.lanes.get .l1).mode = .none ∧ (s.remeasured stop).shoulder.state ≠ .checking := by
  obtain ⟨hnone, hend⟩ := State.settleAll_givenUp s.laneList stop s hnew hold hmem s.laneList_nodup
  refine ⟨?_, hend⟩
  rw [s.remeasured_get]
  split <;> exact hnone

/-- When the judgement of its loops gives the measurement of lane 1 up, the interval end leaves lane 1 in NONE and no opening check in
progress. -/
theorem State.closeInterval_givenUp (s : State) (stop : Tick) (lanes : List Lane) (loops : List Loop) (hlanes : 1 ≤ s.cfg.laneCount)
    (hmode : (s.detector.lanes.get .l1).mode ≠ .none) (ha : (s.judged { lane := .l1, side := .a }).status ≠ .ok)
    (hb : (s.cfg.lanes.get .l1).loopB = false ∨ (s.judged { lane := .l1, side := .b }).status ≠ .ok) :
    (s.opened stop lanes loops).CheckWork (s.closeInterval stop lanes loops) ∧
      ((s.closeInterval stop lanes loops).detector.lanes.get .l1).mode = .none ∧
      (s.closeInterval stop lanes loops).shoulder.state ≠ .checking := by
  have hmem : Lane.l1 ∈ s.laneList := (s.mem_laneList .l1).mpr hlanes
  have hwork := s.opened_work stop lanes loops
  have hlane := s.opened_get_mem stop lanes loops hmem
  rw [s.closeInterval_eq]
  generalize s.opened stop lanes loops = u at hwork hlane ⊢
  have hnew : modeOfLoops (u.cfg.lanes.get .l1).loopB (u.detector.lanes.get .l1) = .none := by
    rw [hwork.cfg, hlane]
    exact s.openedLane_givesUp stop hmem ha hb
  obtain ⟨hnone, hend⟩ := u.remeasured_givenUp stop (hwork.laneList ▸ hmem) hnew (hlane ▸ hmode)
  exact ⟨(u.remeasured_checkWork stop).trans (State.setDetector_checkWork _ _), hnone, hend⟩

/-! ### The three events of the detector unit -/

theorem exists_next_qualifiedOnEdge_checking (dt : Nat) (l : Loop) (s : State) (p : Presence) (ha : s.acting = true)
    (hs : s.shoulder.state = .checking) (hl : l.lane = .l1) (hc : s.loopConfigured l = true) (hp : (s.loop l).presence = some p)
    (hq : p.qualified = false) (hlasted : (s.advance dt).lasted p = true) (hok : (s.loop l).status = .ok) :
    ∃ t, exec (.qualifiedOnEdge dt l) s = .next t ∧ s.checkAborted dt s.faults t ∧ Line.slotOnly s.line t.line ∧
      SameOutside (andReaders [.clock, .detector, .requests, .trace, .faults, .shoulder]) s t := by
  obtain ⟨hwork, hend⟩ := (s.advance dt).qualifyInOrder_checkWork l p
  obtain ⟨haborted, -, hframe⟩ := State.checkAborted_of_work (.refl _) hwork ha hs (hend hl hok)
  exact ⟨_, (exec_qualifiedOnEdge_eq dt l s).trans (execQualifiedOnEdge_of_lasted dt l s p ha hc hp hq hlasted), haborted, hframe⟩

theorem exists_next_presenceTimeout_checking (dt : Nat) (l : Loop) (endFirst : Bool) (s : State) (p : Presence) (ha : s.acting = true)
    (hs : s.shoulder.state = .checking) (hl : l.lane = .l1) (hc : s.loopConfigured l = true) (hp : (s.loop l).presence = some p)
    (hq : p.qualified = true) (ht : p.timing = true) (hr : (s.advance dt).reached (s.timeoutTick p) = true)
    (hok : (s.loop l).status = .ok) (hmode : (s.detector.lanes.get .l1).mode ≠ .none)
    (hother : (s.loop (otherLoop l)).status ≠ .ok ∨ (l.side = .a ∧ (s.cfg.lanes.get .l1).loopB = false)) :
    ∃ t, exec (.presenceTimeout dt l endFirst) s = .next t ∧ (t.detector.lanes.get .l1).mode = .none ∧
      s.checkAborted dt (s.faults.raise .loopStuck (loopNumber l) ((s.clock + dt) / second)) t ∧ Line.slotOnly s.line t.line ∧
      SameOutside (andReaders [.clock, .detector, .requests, .trace, .faults, .shoulder]) s t := by
  let u := (s.advance dt).madeStuck l p endFirst
  have hu : (s.advance dt).DetectorWork u := (s.advance dt).madeStuck_work l p endFirst
  have hlane : u.detector.lanes.get l.lane = (s.advance dt).stuckLane l p (s.timeoutTick p) := State.setLane_get _ _ _
  obtain ⟨hold, -⟩ := (s.advance dt).stuckLane_modes l p (s.timeoutTick p)
  have hnew : modeOfLoops (u.cfg.lanes.get l.lane).loopB (u.detector.lanes.get l.lane) = .none := by
    rw [hlane]
    exact (s.advance dt).stuckLane_givesUp l p _ (hl ▸ hother)
  have hfaults : u.faults = s.faults.raise .loopStuck (loopNumber l) ((s.clock + dt) / second) := if_pos hok
  obtain ⟨hwork, hnone, -, hend⟩ := u.settleMode_checkWork l.lane (s.timeoutTick p)
  have hchanged : (u.detector.lanes.get l.lane).mode ≠ .none := by
    rw [hlane, hold, hl]
    exact hmode
  obtain ⟨haborted, hdetector, hframe⟩ := State.checkAborted_of_work hu hwork ha hs (hend hl hnew hchanged)
  refine ⟨_, (exec_presenceTimeout_eq dt l endFirst s).trans
    (execPresenceTimeout_of_reached dt l endFirst s p ha hc hp hq ht hr hok), ?_, hfaults ▸ haborted, hframe⟩
  rw [hdetector, ← hl]
  exact hnone.trans hnew

theorem exists_next_intervalEnd_checking (dt : Nat) (lanes : List Lane) (loops : List Loop) (s : State) (stop : Tick)
    (ha : s.acting = true) (hs : s.shoulder.state = .checking) (hlanes : 1 ≤ s.cfg.laneCount)
    (hp : s.detector.intervalEnd = some stop) (hr : (s.advance dt).reached stop = true) (hmode : (s.detector.lanes.get .l1).mode ≠ .none)
    (hja : (s.judged { lane := .l1, side := .a }).status ≠ .ok)
    (hjb : (s.cfg.lanes.get .l1).loopB = false ∨ (s.judged { lane := .l1, side := .b }).status ≠ .ok) :
    ∃ t, exec (.intervalEnd dt lanes loops) s = .next t ∧ (t.detector.lanes.get .l1).mode = .none ∧
      s.checkAborted dt
        (s.intervalFaults (visitOrder lanes s.laneList) (visitOrder loops s.loopList) ((s.clock + dt) / second)) t ∧
      Line.slotOnly s.line t.line ∧
      SameOutside (andReaders [.clock, .detector, .requests, .trace, .faults, .shoulder]) s t := by
  have hu := (s.advance dt).opened_work stop lanes loops
  have hfaults : ((s.advance dt).opened stop lanes loops).faults =
      s.intervalFaults (visitOrder lanes s.laneList) (visitOrder loops s.loopList) ((s.clock + dt) / second) :=
    (s.advance dt).opened_faults stop lanes loops
  obtain ⟨hwork, hnone, hend⟩ := (s.advance dt).closeInterval_givenUp stop lanes loops hlanes hmode hja hjb
  obtain ⟨haborted, hdetector, hframe⟩ := State.checkAborted_of_work hu hwork ha hs hend
  refine ⟨_, (exec_intervalEnd_eq dt lanes loops s).trans (execIntervalEnd_of_reached dt lanes loops s stop ha hp hr), ?_,
    hfaults ▸ haborted, hframe⟩
  rw [hdetector]
  exact hnone

end Sys2Proof.Machine
end

section
/-!
PROOFS. A closure that applies and newly names lane 1, by command or learned, ends the opening check (R110, R114, R117, R127); and the
events of R127 together.
-/
namespace Sys2Proof.Machine
-- One proof at a time: the threads of parallel proofs exceed the memory limit of the check.
set_option Elab.async false

theorem exec_statusFrame_eq (dt : Nat) (cls : BitVec 2) (source : BitVec 6) (body : List Octet) (o : Order) (s : State) :
    exec (.statusFrame dt cls source body o) s = execStatusFrame dt cls source body o s := rfl

/-! ### An ended check among other steps -/

/-- Steps before the check that leave the shoulder, the faults, the clock and station control. -/
theorem State.CheckEnded.after {s u v : State} {l : List Block} (he : u.CheckEnded v) (h : SameOutside l s u)
    (hl : ∀ b ∈ [Block.clock, .station, .shoulder, .faults], b ∉ l := by decide) : s.CheckEnded v := by
  have hclock : u.clock = s.clock := h .clock (hl _ (by decide))
  have hstation : u.station = s.station := h .station (hl _ (by decide))
  have hshoulder : u.shoulder = s.shoulder := h .shoulder (hl _ (by decide))
  have hfaults : u.faults = s.faults := h .faults (hl _ (by decide))
  have hseconds : u.seconds = s.seconds := congrArg (· / second) hclock
  refine ⟨he.clock.trans hclock, hshoulder ▸ he.shoulder, ?_, fun ha => he.urgent ?_⟩
  · rw [he.faults, hfaults, hseconds]
  · exact (congrArg (fun c : Station => c.mode.acting) hstation).trans ha

/-- Steps after the check that leave the shoulder, the faults and the clock, and keep an urgent change. -/
theorem State.CheckEnded.before {s v w : State} {l : List Block} (he : s.CheckEnded v) (h : SameOutside l v w)
    (hf : Line.mayFlag v.line w.line) (hl : ∀ b ∈ [Block.clock, .shoulder, .faults], b ∉ l := by decide) : s.CheckEnded w :=
  ⟨(h .clock (hl _ (by decide))).trans he.clock, (h .shoulder (hl _ (by decide))).trans he.shoulder,
    (h .faults (hl _ (by decide))).trans he.faults, fun ha => Line.mayFlag_urgent hf (he.urgent ha)⟩

/-! ### The closure table (R117, R127) -/

/-- The closure applies and newly names lane 1, and there is a place for it. -/
structure State.NewlyNames (s : State) (c : Closure) : Prop where
  applies : c.applies s.own = true
  names : c.names .l1 = true
  unnamed : s.laneNamed .l1 = false
  room : s.positionOf c.origin ≠ none ∨ s.freePosition ≠ none

theorem State.NewlyNames.of_held {s t : State} {c : Closure} (h : s.NewlyNames c) (k : s.SameHeld t) : t.NewlyNames c where
  applies := k.own ▸ h.applies
  names := h.names
  unnamed := by
    unfold State.laneNamed State.applying State.entries
    rw [k.own, k.closures]
    exact h.unnamed
  room := by
    rw [State.positionOf_congr k.closures, State.freePosition_congr k.closures]
    exact h.room

theorem State.NewlyNames.freePosition {s : State} {c : Closure} (h : s.NewlyNames c) (hn : s.holding c.origin = none) :
    s.freePosition ≠ none := h.room.resolve_left fun hp => hp (State.holding_eq_none.mp hn)

theorem State.laneNamed_of_mem {s : State} {c : Closure} {k : Lane} (hc : c ∈ s.entries) (ha : c.applies s.own = true)
    (hk : c.names k = true) : s.laneNamed k = true :=
  List.any_eq_true.mpr ⟨c, List.mem_filter.mpr ⟨hc, ha⟩, hk⟩

/-- An entry that applies and newly names lane 1 ends an opening check in progress. -/
theorem State.putClosure_ended {s : State} {c : Closure} (p : Pos) (hs : s.shoulder.state = .checking)
    (ha : c.applies s.own = true) (hk : c.names .l1 = true) (hn : s.laneNamed .l1 = false) :
    s.CheckEnded (s.putClosure p (some c)) := by
  unfold State.putClosure
  dsimp only
  generalize hu : (if (s.setClosures (s.closures.set p (some c))).ownClosure = s.ownClosure then _ else _) = u
  have hsame : SameOutside [.closures, .line] s u := hu ▸ SameOutside.ite ((s.setClosures_same _).mono (by decide))
    ((s.setClosures_same _).trans (State.flagUrgent_same _) (by decide) (by decide))
  have hclosures : u.closures = s.closures.set p (some c) := by
    subst hu
    split
    · rfl
    · exact State.flagUrgent_same _ .closures (by decide)
  have hmem : c ∈ u.entries := (u.mem_entries c).mpr ⟨p, hclosures ▸ Slots.get_set ..⟩
  have hown : u.own = s.own := State.own_congr (hsame .station (by decide))
  have hshoulder : u.shoulder = s.shoulder := hsame .shoulder (by decide)
  have hnew : (!s.laneNamed .l1 && u.laneNamed .l1) = true := by
    rw [hn, State.laneNamed_of_mem hmem (hown ▸ ha) hk]
    rfl
  rw [if_pos hnew]
  exact ((u.abortCheck_ended (hshoulder ▸ hs)).after hsame).before (State.markDirty_same _ p)
    (Line.mayFlag_of_eq (State.markDirty_same _ p .line (by decide)))

theorem State.insertClosure_ended {s : State} {c : Closure} (hs : s.shoulder.state = .checking) (h : s.NewlyNames c)
    (hh : s.holding c.origin = none) : s.CheckEnded (s.insertClosure c) := by
  obtain ⟨p, hp⟩ := Option.ne_none_iff_exists'.mp (h.freePosition hh)
  exact State.insertClosure_of_freePosition c hp ▸ State.putClosure_ended p hs h.applies h.names h.unnamed

/-- A CLOSE-SET whose entry applies and newly names lane 1 ends an opening check in progress (R110, R111). -/
theorem State.closeSet_ended {s : State} {c : Closure} (hs : s.shoulder.state = .checking) (h : s.NewlyNames c)
    (hgood : closeSetBad c.origin c.serial c.lanes = false) : s.CheckEnded (s.closeSet c).1 := by
  cases hh : s.holding c.origin with
  | none => exact State.closeSet_of_free hgood hh ▸ State.insertClosure_ended hs h hh
  | some x =>
    rw [State.closeSet_of_held hgood hh, if_pos h.applies]
    exact State.putClosure_ended _ hs h.applies h.names h.unnamed

/-- So does a closure that is learned: an equal entry was not held, for it would have named the lane (R114). -/
theorem State.learnClosure_ended {s : State} {c : Closure} (hs : s.shoulder.state = .checking) (h : s.NewlyNames c) :
    s.CheckEnded (s.learnClosure c) := by
  cases hh : s.holding c.origin with
  | none => exact State.learnClosure_of_free hh ▸ State.insertClosure_ended hs h hh
  | some x =>
    obtain ⟨p, held⟩ := x
    obtain ⟨-, hget⟩ := State.holding_eq_some.mp hh
    unfold State.learnClosure
    rw [hh]
    dsimp only
    split
    · split
      · next heq =>
        have hnamed : s.laneNamed .l1 = true :=
          State.laneNamed_of_mem ((s.mem_entries held).mpr ⟨p, hget⟩) (heq ▸ h.applies) (heq ▸ h.names)
        exact nomatch hnamed.symm.trans h.unnamed
      · exact State.putClosure_ended p hs h.applies h.names h.unnamed
    · exact State.putClosure_ended p hs h.applies h.names h.unnamed

/-- In whichever order the two tables take a record, a closure that applies and newly names lane 1 ends an opening check (R62, R127). -/
theorem State.takeStatus_ended {s : State} (before : State) {n : Nat} {body : List Octet} (o : Order) {r : StatusRecord}
    {c : OwnClosure} (hacting : s.acting = true) (h62 : n ≤ 62) (hr : readStatus body = some r) (hentered : s.notEntered before)
    (hm : r.mode = .running ∨ r.mode = .isolated) (hc : r.ownClosure = some c) (hs : s.shoulder.state = .checking)
    (h : s.NewlyNames (c.learned n)) :
    s.CheckEnded (s.takeStatus before n body o) ∧
      SameOutside (andReaders [.neighbours, .closures, .retention, .shoulder, .faults]) s (s.takeStatus before n body o) := by
  have hlearned {u : State} (hu : u.shoulder.state = .checking) (k : u.NewlyNames (c.learned n)) : u.CheckEnded (u.learn n r) :=
    State.learn_of_applies hm hc k.applies ▸ State.learnClosure_ended hu k
  unfold State.takeStatus
  rw [hacting, decide_eq_true h62, Bool.and_self, if_pos rfl, hr]
  dsimp only
  rcases s.inOrder_cases before o (fun t => t.storeRecord n r) (fun t => t.learn n r) with ⟨-, e⟩ | ⟨-, e⟩
  · have hstore := s.storeRecord_same n r
    have hserved := State.serveSome_served _ before o.between (State.notEntered_congr (hstore .station (by decide)) hentered)
    have hheld := (State.SameHeld.of_same hstore).trans (.of_same hserved.same)
    have hsame : SameOutside (andReaders [.neighbours]) s ((s.storeRecord n r).serveSome before o.between) :=
      hstore.trans hserved.same (by decide) (by decide)
    rw [e]
    generalize (s.storeRecord n r).serveSome before o.between = x at hheld hsame ⊢
    have hshoulder : x.shoulder = s.shoulder := hsame .shoulder (by decide)
    exact ⟨(hlearned (hshoulder ▸ hs) (h.of_held hheld)).after hsame, hsame.trans (x.learn_work n r).same (by decide) (by decide)⟩
  · have hlearn := (s.learn_work n r).same
    have hserved := State.serveSome_served _ before o.between (State.notEntered_congr (hlearn .station (by decide)) hentered)
    have hstore := ((s.learn n r).serveSome before o.between).storeRecord_same n r
    rw [e]
    refine ⟨((hlearned hs h).before hserved.same ((s.learn n r).serveSome_mayFlag before o.between)).before hstore
      (Line.mayFlag_of_eq (hstore .line (by decide))), ?_⟩
    exact (hlearn.trans hserved.same (n := andReaders [.closures, .retention, .shoulder, .faults]) (by decide) (by decide)).trans hstore
      (by decide) (by decide)

/-! ### The delivery of a frame in RUNNING (R46) -/

/-- The state in which the body of a heard frame of a source is taken. -/
def State.atDelivery (s : State) (dt n : Nat) (o : Order) : State := ((s.advance dt).arrivedFrom n).serveSome (s.advance dt) o.early

/-- A command's owner takes it after the arrival from the gateway. -/
theorem State.atOwner_eq_atDelivery (s : State) (dt : Nat) (o : Order) : s.atOwner dt o = s.atDelivery dt 63 o := rfl

/-- What the arrival and the readers before the delivery have left in RUNNING. -/
structure State.AtDelivery (s : State) (dt n : Nat) (u : State) : Prop where
  mode : u.mode = .running
  clock : u.clock = s.clock + dt
  shoulder : u.shoulder = s.shoulder
  faults : u.faults = s.faults.close .neighbourLost n
  held : s.SameHeld u
  same : SameOutside (andReaders [.clock, .station, .neighbours, .faults]) s u

theorem State.atDelivery_of_running (s : State) (dt n : Nat) (o : Order) (hm : s.mode = .running) :
    s.AtDelivery dt n (s.atDelivery dt n o) := by
  have ha : (s.advance dt).acting = true := congrArg Mode.acting hm
  obtain ⟨hstation, -, hfaults, -⟩ := (s.advance dt).arrivedFrom_spec n ha
  have hserved := State.serveSome_served _ _ o.early ((s.advance dt).arrivedFrom_notEntered n ha)
  have hsame : SameOutside (andReaders [.clock, .station, .neighbours, .faults]) s (s.atDelivery dt n o) :=
    ((s.advance_same dt).trans (State.arrivedFrom_same _ n) (n := andReaders [.clock, .station, .neighbours, .faults]) (by decide)
      (by decide)).trans hserved.same (fun _ x => x) (by decide)
  refine ⟨hserved.mode.trans ((congrArg Station.mode hstation).trans (congrArg Mode.heard hm)),
    hserved.clock.trans (State.arrivedFrom_same _ n .clock (by decide)), hsame .shoulder (by decide), hserved.faults.trans hfaults,
    ?_, hsame⟩
  exact (State.SameHeld.of_same (s.advance_same dt)).trans (State.arrivedFrom_sameHeld _ n).serveSome

theorem State.AtDelivery.acting {s u : State} {dt n : Nat} (h : s.AtDelivery dt n u) : u.acting = true := congrArg Mode.acting h.mode

theorem State.AtDelivery.checking {s u : State} {dt n : Nat} (h : s.AtDelivery dt n u) (hs : s.shoulder.state = .checking) :
    u.shoulder.state = .checking := h.shoulder ▸ hs

/-- A delivery that ends the opening check and stays in RUNNING, once the readers have taken its report. -/
theorem State.AtDelivery.checkAborted {s u v : State} {dt n : Nat} (h : s.AtDelivery dt n u) (he : u.CheckEnded v) (late : List Reader)
    (hm : v.mode = u.mode)
    (hv : SameOutside (andReaders [.clock, .station, .neighbours, .faults, .closures, .retention, .shoulder]) u v) :
    s.checkAborted dt (s.faults.close .neighbourLost n) (v.settle (s.advance dt) late) ∧
      SameOutside (andReaders [.clock, .station, .neighbours, .faults, .closures, .retention, .shoulder]) s
        (v.settle (s.advance dt) late) := by
  have hentered : v.notEntered (s.advance dt) := fun hi => nomatch (hm.trans h.mode).symm.trans hi
  refine ⟨h.faults ▸ he.settled late h.clock h.shoulder h.acting hentered, ?_⟩
  exact (h.same.trans hv (n := andReaders [.clock, .station, .neighbours, .faults, .closures, .retention, .shoulder]) (by decide)
    (fun _ x => x)).trans (v.settle_served (s.advance dt) late hentered).same (fun _ x => x) (by decide)

/-! ### By command and by learning -/

theorem exists_next_closeSet_checking (dt : Nat) (origin serial lanes taper extent step : Octet) (o : Order) (s : State) {c : Closure}
    (hc : closeSetEntry origin.toNat serial.toNat (closedLanes lanes) taper.toNat extent.toNat step.toNat = c)
    (hm : s.mode = .running) (hs : s.shoulder.state = .checking) (ho : s.own ≠ 63)
    (hgood : closeSetBad c.origin c.serial c.lanes = false) (h : s.NewlyNames c)
    (hh : s.canHear (commandFrame .closeSet [origin, serial, lanes, taper, extent, step]) = true) :
    ∃ t, exec (.closeSet dt origin serial lanes taper extent step o) s = .next t ∧
      s.checkAborted dt (s.faults.close .neighbourLost 63) t ∧
      SameOutside (andReaders [.clock, .station, .neighbours, .faults, .closures, .retention, .shoulder]) s t := by
  have hdelivered : s.AtDelivery dt 63 (s.atOwner dt o) := s.atOwner_eq_atDelivery dt o ▸ s.atDelivery_of_running dt 63 o hm
  have hnew := h.of_held hdelivered.held
  have hexec := exec_closeSet_eq dt origin serial lanes taper extent step o s
  unfold execCloseSet at hexec
  rw [hc] at hexec
  have hcommand := (s.advance dt).command_of_addressed
    (.closeSet origin.toNat serial.toNat (closedLanes lanes) taper.toNat extent.toNat step.toNat)
    [origin, serial, lanes, taper, extent, step] o false (fun t => t.closeSet c) ho hh ((congrArg (· || false) hdelivered.acting).trans rfl)
    (State.addresses_closeSet (.inr (.inl (hc ▸ hnew.applies))))
  have hended := State.closeSet_ended (hdelivered.checking hs) hnew hgood
  have hset := (State.closeSet_work (s.atOwner dt o) c).same
  have hmode : ((s.atOwner dt o).closeSet c).1.mode = (s.atOwner dt o).mode := congrArg Station.mode (hset .station (by decide))
  have hrecord := ((s.atOwner dt o).closeSet c).1.record_same .closeSet ((s.atOwner dt o).closeSet c).2
  exact ⟨_, hexec.trans (congrArg Host.Outcome.next hcommand),
    hdelivered.checkAborted (hended.before hrecord (Line.mayFlag_of_eq (hrecord .line (by decide)))) o.late
      hmode (hset.trans hrecord (by decide) (by decide))⟩

theorem exists_next_statusFrame_checking (dt : Nat) (cls : BitVec 2) (source : BitVec 6) (body : List Octet) (o : Order) (s : State)
    (r : StatusRecord) (c : OwnClosure) (hm : s.mode = .running) (hs : s.shoulder.state = .checking) (h0 : source ≠ 0)
    (h63 : source ≠ 63) (ho : source.toNat ≠ s.own) (hh : s.canHear (Frame.checked cls kindStatus source body) = true)
    (hr : readStatus body = some r) (hrm : r.mode = .running ∨ r.mode = .isolated) (hc : r.ownClosure = some c)
    (h : s.NewlyNames (c.learned source.toNat)) :
    ∃ t, exec (.statusFrame dt cls source body o) s = .next t ∧
      s.checkAborted dt (s.faults.close .neighbourLost source.toNat) t ∧
      SameOutside (andReaders [.clock, .station, .neighbours, .faults, .closures, .retention, .shoulder]) s t := by
  have h62 : source.toNat ≤ 62 := by
    have hne : source.toNat ≠ 63 := fun h => h63 (BitVec.eq_of_toNat_eq h)
    have hlt := source.isLt
    omega
  have hdelivered := s.atDelivery_of_running dt source.toNat o hm
  have hreceive := (s.advance dt).receive_of_heard (Frame.checked cls kindStatus source body) o
    (fun t => t.takeStatus (s.advance dt) source.toNat body o) hh (Frame.checked_accepted cls body (.inl rfl) h0 ho)
  refine ⟨_, (exec_statusFrame_eq dt cls source body o s).trans (congrArg Host.Outcome.next hreceive), ?_⟩
  obtain ⟨hended, htaken⟩ := State.takeStatus_ended (s.advance dt) o hdelivered.acting h62 hr
    (fun hi => nomatch hdelivered.mode.symm.trans hi) hrm hc (hdelivered.checking hs) (h.of_held hdelivered.held)
  exact hdelivered.checkAborted hended o.late (congrArg Station.mode (htaken .station (by decide))) (htaken.mono (by decide))

/-- Settles O51: the timers move the shoulder, and each event of R127 is work around one abort of the opening check. -/
theorem shoulderTimersOpenAndClose : Obligations.ShoulderTimersOpenAndClose := by
  unfold Obligations.ShoulderTimersOpenAndClose
  refine ⟨fun dt e s ha hs ht he => ?opens, fun dt e s ha hs ht he => ?closes, fun dt l s p ha hs hl hc hp hq hlasted hok => ?edge,
    fun dt l endFirst s p ha hs hl hc hp hq ht hr hok hmode hother => ?timeout,
    fun dt lanes loops s stop ha hs hlanes hp hr hmode hja hjb => ?interval,
    fun dt origin serial lanes taper extent step o s => ?command, fun dt cls source body o s r c => ?learned⟩
  case opens =>
    exact ⟨_, (exec_checkTimerExpiry_eq dt s).trans (execCheckTimerExpiry_of_due dt e s ha hs ht he),
      s.moveShoulder_settled dt _ ha (hs ▸ nofun)⟩
  case closes =>
    exact ⟨_, (exec_clearanceTimerExpiry_eq dt s).trans (execClearanceTimerExpiry_of_due dt e s ha hs ht he),
      s.moveShoulder_settled dt _ ha (hs ▸ nofun)⟩
  case edge => exact exists_next_qualifiedOnEdge_checking dt l s p ha hs hl hc hp hq hlasted hok
  case timeout => exact exists_next_presenceTimeout_checking dt l endFirst s p ha hs hl hc hp hq ht hr hok hmode hother
  case interval => exact exists_next_intervalEnd_checking dt lanes loops s stop ha hs hlanes hp hr hmode hja hjb
  case command =>
    intro c hm hs ho hlow hhigh hserial ha hk hn hroom hh
    have hlanes : c.lanes ≠ 0 := fun h => by
      rw [h] at hk
      exact nomatch hk
    have hserial' : c.serial ≠ 0 := fun h => hserial (BitVec.eq_of_toNat_eq h)
    have horigin : ¬(c.origin < 1 ∨ 62 < c.origin) := by
      show ¬(origin.toNat < 1 ∨ 62 < origin.toNat)
      omega
    have hgood : closeSetBad c.origin c.serial c.lanes = false :=
      Bool.eq_false_iff.mpr fun h => (closeSetBad_iff.mp h).elim horigin fun h => h.elim hserial' hlanes
    exact exists_next_closeSet_checking dt origin serial lanes taper extent step o s
      (closeSetEntry_octets origin serial lanes taper extent step) hm hs ho hgood ⟨ha, hk, hn, hroom⟩ hh
  case learned =>
    intro hm hs h0 h63 ho hh hr hrm hc ha hk hn hroom
    exact exists_next_statusFrame_checking dt cls source body o s r c hm hs h0 h63 ho hh hr hrm hc ⟨ha, hk, hn, hroom⟩

end Sys2Proof.Machine
end

section
/-!
PROOFS. The sign channels (R143, R144, R149 to R157): the channel that an event of its line changes, the faults that go with the change,
and the commit gate that is tried after it.
-/
namespace Sys2Proof.Machine
-- One proof at a time: the threads of parallel proofs exceed the memory limit of the check.
set_option Elab.async false

/-! ### Messages and their checks (R150) -/

theorem signCheck_of_eq {type : Octet} {content : List Octet} {check : BitVec 16} (h : check = checkOctets (type :: content)) :
    signCheck type content check = true := beq_iff_eq.mpr h

theorem exec_identity_eq (dt : Nat) (c : Chan) (kind : Octet) (check : BitVec 16) (endFirst : Bool) (s : State) :
    exec (.identity dt c kind check endFirst) s = execIdentity dt c kind check endFirst s := rfl

theorem exec_identificationDeadline_eq (dt : Nat) (c : Chan) (s : State) :
    exec (.identificationDeadline dt c) s = execIdentificationDeadline dt c s := rfl

theorem exec_provingReport_eq (dt : Nat) (c : Chan) (set result : Octet) (check : BitVec 16) (endFirst : Bool) (s : State) :
    exec (.provingReport dt c set result check endFirst) s = execProvingReport dt c set result check endFirst s := rfl

theorem exec_provingDeadline_eq (dt : Nat) (c : Chan) (endFirst : Bool) (s : State) :
    exec (.provingDeadline dt c endFirst) s = execProvingDeadline dt c endFirst s := rfl

theorem exec_restartNotice_eq (dt : Nat) (c : Chan) (kind : Octet) (check : BitVec 16) (endFirst : Bool) (s : State) :
    exec (.restartNotice dt c kind check endFirst) s = execRestartNotice dt c kind check endFirst s := rfl

@[simp] theorem State.advance_chanUsable (s : State) (dt : Nat) (c : Chan) : (s.advance dt).chanUsable c = s.chanUsable c := rfl

@[simp] theorem State.advance_signs_get (s : State) (dt : Nat) (c : Chan) : (s.advance dt).signs.get c = s.signs.get c :=
  Signs.get_withSent _ _ _

theorem Signs.set_withSent (g : Signs) (c : Chan) (x : Channel) (m : List (Chan × SignMessage)) :
    Signs.set { g with sent := m } c x = { g.set c x with sent := m } := by cases c <;> rfl

theorem State.advance_signs_set (s : State) (dt : Nat) (c : Chan) (x : Channel) :
    (s.advance dt).signs.set c x = { s.signs.set c x with sent := [] } := Signs.set_withSent _ _ _ _

theorem State.mode_ne_of_chanUsable {s : State} {c : Chan} (h : s.chanUsable c = true) : s.mode ≠ .configFault := by
  simp only [State.chanUsable, Bool.and_eq_true, bne_iff_ne] at h
  exact h.2

/-! ### A channel that changes and is answered with BLANK (R152, R153, R157) -/

/-- A channel in MISMATCH: no failure reason, no attempt, no timer (R153). -/
def Channel.mismatched (x : Channel) : Channel :=
  { x with state := .mismatch, reason := none, attempt := none, identifyBy := none, retryAt := none }

/-- A channel in FAILED, which waits for its retry (R157). -/
def Channel.failedFor (x : Channel) (reason : FailureReason) (retryAt : Nat) : Channel :=
  { x with state := .failed, reason := some reason, attempt := none, identifyBy := none, retryAt := some retryAt }

/-- A channel takes a new record, BLANK goes out on its line, the fault list takes its change, and a beginning or end of a
displacement is urgent. -/
def State.blanked (s : State) (c : Chan) (x : Channel) (f : FaultList) : State :=
  (((s.setChannel c x).send [s.blankMessage c]).setFaults f).noteDisplacement s.displacements

theorem State.setFaults_same (s : State) (f : FaultList) : SameOutside [.faults] s (s.setFaults f) := by
  intro b hb
  cases b
  case faults => exact absurd (by decide) hb
  all_goals rfl

theorem FaultList.replaced_some (f : FaultList) (r : FailureReason) (kind : FaultKind) (u n : Nat) (endFirst : Bool) :
    f.replaced (some r) kind u n endFirst =
      if endFirst then (f.close r.fault u).raise kind u n else (f.raise kind u n).close r.fault u := by cases r <;> rfl

/-- One fault is raised, and that of a failure reason ends with it. -/
theorem State.exchangeFaults_eq (s : State) (endFirst : Bool) (kind : FaultKind) (r : FailureReason) (u : Nat) :
    s.exchangeFaults endFirst kind r.fault u = s.setFaults (s.faults.replaced (some r) kind u s.seconds endFirst) := by
  rw [FaultList.replaced_some]
  cases endFirst <;> rfl

theorem State.enterMismatch_eq (s : State) (c : Chan) (endFirst : Bool) :
    s.enterMismatch c endFirst = s.blanked c (s.signs.get c).mismatched
      (s.faults.replaced (s.signs.get c).reason .signMismatch c.num s.seconds endFirst) := by
  unfold State.enterMismatch
  dsimp only
  cases (s.signs.get c).reason with
  | none => rfl
  | some r =>
    dsimp only
    rw [State.exchangeFaults_eq]
    rfl

theorem State.enterFailed_eq (s : State) (c : Chan) (reason : FailureReason) (endFirst : Bool) :
    s.enterFailed c reason endFirst = s.blanked c ((s.signs.get c).failedFor reason (s.clock + s.cfg.retryPeriod * second))
      (if (s.signs.get c).reason = some reason then s.faults
        else s.faults.replaced (s.signs.get c).reason reason.fault c.num s.seconds endFirst) := by
  unfold State.enterFailed
  dsimp only
  cases (s.signs.get c).reason with
  | none => rfl
  | some r =>
    simp only [Option.some.injEq]
    split
    · rfl
    · rw [State.exchangeFaults_eq]
      rfl

theorem State.blanked_same (s : State) (c : Chan) (x : Channel) (f : FaultList) :
    SameOutside [.signs, .faults, .line] s (s.blanked c x f) :=
  (((s.setChannel_same c x).trans (State.send_same _ _) (n := [.signs]) (by decide) (by decide)).trans (State.setFaults_same _ f)
    (n := [.signs, .faults]) (by decide) (by decide)).trans (State.noteDisplacement_same _ _) (by decide) (by decide)

theorem State.noteDisplacement_signs (s : State) (d : Lanes (Option Displacement)) : (s.noteDisplacement d).signs = s.signs := by
  unfold State.noteDisplacement State.flagUrgent
  split
  · rfl
  · split <;> rfl

theorem State.blanked_signs (s : State) (c : Chan) (x : Channel) (f : FaultList) :
    (s.blanked c x f).signs = { s.signs.set c x with sent := s.signs.sent ++ [blankOn c] } := by
  unfold State.blanked
  rw [State.noteDisplacement_signs]
  show { s.signs.set c x with sent := (s.signs.set c x).sent ++ [s.blankMessage c] } = _
  rw [Signs.set_sent, State.blankMessage_eq]

theorem State.blanked_faults (s : State) (c : Chan) (x : Channel) (f : FaultList) : (s.blanked c x f).faults = f :=
  State.noteDisplacement_same _ _ .faults (by decide)

theorem State.blanked_mayFlag (s : State) (c : Chan) (x : Channel) (f : FaultList) : Line.mayFlag s.line (s.blanked c x f).line :=
  State.noteDisplacement_mayFlag (((s.setChannel c x).send [s.blankMessage c]).setFaults f) _

theorem State.advance_blanked_signs (s : State) (dt : Nat) (c : Chan) (x : Channel) (f : FaultList) :
    ((s.advance dt).blanked c x f).signs = { s.signs.set c x with sent := [blankOn c] } := by
  rw [State.blanked_signs, State.advance_signs_set]
  rfl

/-- A displacement that begins is urgent (R161). -/
theorem State.blanked_urgent (s : State) (k : Lane) (x : Channel) (f : FaultList) (ha : s.acting = true)
    (hold : (s.signs.lanes.get k).state ≠ .failed ∧ (s.signs.lanes.get k).state ≠ .mismatch) (hnew : x.state = .failed)
    (hshown : s.composer.active.aspects.get k = .closed ∨ ∃ n, s.composer.active.aspects.get k = .limit n) :
    (s.blanked (.lane k) x f).line.urgent = true ∧ (s.blanked (.lane k) x f).line.pending = true := by
  generalize hu : ((s.setChannel (.lane k) x).send [s.blankMessage (.lane k)]).setFaults f = u
  have hblanked : s.blanked (.lane k) x f = u.noteDisplacement s.displacements := congrArg (State.noteDisplacement · _) hu
  have hchannel : u.signs.lanes.get k = x := by
    rw [← hu]
    exact Lanes.get_set _ k x
  have hcomposer : u.composer = s.composer := by rw [← hu]; rfl
  have hbefore : s.displaced k = none := if_neg (not_or.mpr hold)
  have hafter : u.displaced k ≠ none := by
    unfold State.displaced
    rw [if_pos (.inl (hchannel ▸ hnew)), hcomposer]
    rcases hshown with h | ⟨n, h⟩ <;> rw [h] <;> exact nofun
  have hne : u.displacements ≠ s.displacements := fun h => hafter <| by
    have hk := congrArg (Lanes.get · k) h
    simp only [State.displacements, Lanes.get_build] at hk
    exact hk.trans hbefore
  have hacting : u.acting = true := by
    rw [← hu]
    exact ha
  rw [hblanked, State.noteDisplacement, if_neg hne]
  exact u.flagUrgent_urgent hacting

/-! ### What a commit makes of the channels (R144, R154) -/

/-- The record of a channel whose attempt begins now. -/
def State.attempted (s : State) (c : Chan) : Channel :=
  { s.signs.get c with
    state := .setting, nextSet := nextSetAfter (s.signs.get c).nextSet
    attempt := some { set := (s.signs.get c).nextSet, deadline := s.clock + s.cfg.provingTimeout * 1000 }
    identifyBy := none, retryAt := none }

/-- The messages that begin an attempt. -/
def State.attemptMessages (s : State) (c : Chan) : List (Chan × SignMessage) :=
  (if (s.signs.get c).identified then [] else [(c, .identify)]) ++
    [(c, s.aspectSet (s.signs.get c).nextSet (s.composer.active.part c))]

/-- A commit sets the channel: it is configured, its part has changed, and it is not in MISMATCH. -/
def State.sets (s : State) (old : Plan) (c : Chan) : Bool :=
  s.chanUsable c && old.part c != s.composer.active.part c && (s.signs.get c).state != .mismatch

/-- Two states that differ in the records of other channels alone. -/
structure State.SameFor (c : Chan) (s t : State) : Prop where
  same : SameOutside [.signs] s t
  handedOver : t.signs.handedOver = s.signs.handedOver
  channel : t.signs.get c = s.signs.get c

section
variable {c : Chan} {s t : State} (h : State.SameFor c s t)
include h

theorem State.SameFor.cfg : t.cfg = s.cfg := State.cfg_congr (h.same .station (by decide))

theorem State.SameFor.composer : t.composer = s.composer := h.same .composer (by decide)

theorem State.SameFor.sets (old : Plan) : t.sets old c = s.sets old c := by
  have hmode : t.mode = s.mode := congrArg Station.mode (h.same .station (by decide))
  have hconfigured : t.chanConfigured c = s.chanConfigured c := by
    unfold State.chanConfigured
    rw [h.cfg]
  rw [State.sets, State.sets, State.chanUsable, State.chanUsable, hmode, hconfigured, h.handedOver, h.composer, h.channel]

theorem State.SameFor.attempted : t.attempted c = s.attempted c := by
  have hclock : t.clock = s.clock := h.same .clock (by decide)
  rw [State.attempted, State.attempted, h.channel, h.cfg, hclock]

theorem State.SameFor.attemptMessages : t.attemptMessages c = s.attemptMessages c := by
  have haspect (n : Nat) (p : Part) : t.aspectSet n p = s.aspectSet n p := by
    unfold State.aspectSet State.limitValue
    rw [h.cfg]
  rw [State.attemptMessages, State.attemptMessages, haspect, h.channel, h.composer]

end

theorem State.beginAttempt_sameFor (s : State) {c d : Chan} (h : d ≠ c) : State.SameFor d s (s.beginAttempt c) := by
  obtain ⟨-, hothers, -⟩ := s.beginAttempt_spec c
  refine ⟨s.beginAttempt_same c, ?_, hothers d h⟩
  cases c <;> rfl

/-- A commit sets the channels of a list in turn, each as the commit found it. -/
theorem State.commitAll_spec (old : Plan) {cs : List Chan} (hn : cs.Nodup) (s : State) :
    let t := cs.foldl (fun t c => t.commitChannel old c) s
    t.signs.handedOver = s.signs.handedOver ∧
      (∀ c, t.signs.get c = if c ∈ cs ∧ s.sets old c = true then s.attempted c else s.signs.get c) ∧
      t.signs.sent = s.signs.sent ++ (cs.filter (s.sets old)).flatMap s.attemptMessages := by
  induction cs generalizing s with
  | nil => exact ⟨rfl, fun c => (if_neg fun h => nomatch h.1).symm, (List.append_nil _).symm⟩
  | cons c cs ih =>
    obtain ⟨hc, hcs⟩ := List.nodup_cons.mp hn
    obtain ⟨hhanded, hget, hsent⟩ := ih hcs (s.commitChannel old c)
    intro t
    change t.signs.handedOver = _ at hhanded
    change ∀ d, t.signs.get d = _ at hget
    change t.signs.sent = _ at hsent
    by_cases hset : s.sets old c = true
    · have hbegin : s.commitChannel old c = s.beginAttempt c := if_pos hset
      rw [hbegin] at hhanded hget hsent
      obtain ⟨hown, -, hmessages⟩ := s.beginAttempt_spec c
      have hother {d : Chan} (hd : d ∈ cs) : State.SameFor d s (s.beginAttempt c) :=
        s.beginAttempt_sameFor fun h => hc (h ▸ hd)
      refine ⟨hhanded.trans (by cases c <;> rfl), fun d => ?_, ?_⟩
      · rw [hget]
        by_cases hd : d = c
        · subst hd
          rw [if_neg fun h => hc h.1, if_pos ⟨List.mem_cons_self, hset⟩]
          exact hown
        · have hsame := s.beginAttempt_sameFor hd
          rw [hsame.sets, hsame.attempted, hsame.channel]
          simp [hd]
      · have hfilter : cs.filter ((s.beginAttempt c).sets old) = cs.filter (s.sets old) :=
          List.filter_congr fun d hd => (hother hd).sets old
        have hflat : (cs.filter (s.sets old)).flatMap (s.beginAttempt c).attemptMessages =
            (cs.filter (s.sets old)).flatMap s.attemptMessages :=
          List.flatMap_congr fun d hd => (hother (List.mem_of_mem_filter hd)).attemptMessages
        have hfirst : (s.beginAttempt c).signs.sent = s.signs.sent ++ s.attemptMessages c := hmessages
        rw [hsent, hfilter, hflat, hfirst, List.filter_cons_of_pos hset, List.flatMap_cons, List.append_assoc]
    · have hkeep : s.commitChannel old c = s := if_neg hset
      rw [hkeep] at hhanded hget hsent
      refine ⟨hhanded, fun d => ?_, ?_⟩
      · rw [hget]
        by_cases hd : d = c
        · subst hd
          rw [if_neg fun h => hc h.1, if_neg fun h => hset h.2]
        · simp [hd]
      · rw [hsent, List.filter_cons_of_neg hset]

theorem Chan.all_nodup : Chan.all.Nodup := by decide

theorem Chan.mem_all (c : Chan) : c ∈ Chan.all := by
  cases c with
  | legend => decide
  | lane k => cases k <;> decide

theorem Signs.anySetting_iff (g : Signs) : g.anySetting = true ↔ ∃ c, (g.get c).state = .setting := by
  simp [Signs.anySetting, Chan.mem_all]

/-- The gate of a state whose channels alone have changed is the gate of its own plans and channels (R143). -/
theorem State.gateOpen_iff {s u : State} (h : u.composer = s.composer) :
    s.gateOpen u.signs ↔ u.composer.display = true ∧ u.composer.next ≠ u.composer.active ∧ u.signs.anySetting = false := by
  have hstill : u.signs.anySetting = false ↔ ∀ c, (u.signs.get c).state ≠ .setting := by
    rw [← Bool.not_eq_true, Signs.anySetting_iff, not_exists]
  rw [State.gateOpen, h, hstill]

/-- The gate is tried after channels, faults and line of a state have changed (R143, R144). -/
theorem State.tryCommit_gateTried {s u : State} (h : SameOutside [.signs, .faults, .line] s u)
    (hh : u.signs.handedOver = s.signs.handedOver) : s.gateTried u.signs u.tryCommit := by
  have hcomposer : u.composer = s.composer := h .composer (by decide)
  have hclock : u.clock = s.clock := h .clock (by decide)
  have hstation : u.station = s.station := h .station (by decide)
  have hcfg : u.cfg = s.cfg := State.cfg_congr hstation
  rcases u.tryCommit_cases with ⟨hd, hne, hset, e⟩ | ⟨hclosed, e⟩
  · have hopen : s.gateOpen u.signs := (State.gateOpen_iff hcomposer).mpr ⟨hd, hne, hset⟩
    refine ⟨fun hn => absurd hopen hn, fun _ => ?_⟩
    obtain ⟨hhanded, hget, hsent⟩ :=
      State.commitAll_spec u.composer.active Chan.all_nodup (u.setComposer { u.composer with active := u.composer.next })
    have hsigns : u.commit.signs = (Chan.all.foldl (fun t c => t.commitChannel u.composer.active c)
        (u.setComposer { u.composer with active := u.composer.next })).signs := State.noteDisplacement_signs _ _
    have hchanges : (u.setComposer { u.composer with active := u.composer.next }).sets u.composer.active =
        fun c => s.chanUsable c && s.composer.active.part c != s.composer.next.part c && (u.signs.get c).state != .mismatch := by
      funext c
      have hconfigured : u.chanConfigured c = s.chanConfigured c := by
        unfold State.chanConfigured
        rw [hcfg]
      have husable : u.chanUsable c = s.chanUsable c := by
        rw [State.chanUsable, State.chanUsable, hh, hconfigured, State.mode, State.mode, hstation]
      rw [← husable, ← hcomposer]
      rfl
    rw [← hsigns] at hhanded hget hsent
    rw [hchanges] at hget hsent
    rw [e]
    refine ⟨by rw [u.commit_composer, hcomposer], hhanded, fun c => ?_, ?_⟩
    · rw [hget]
      simp only [Chan.mem_all, true_and]
      split
      · rw [← hclock, ← hcfg]
        rfl
      · rfl
    · have hmessages (c : Chan) : (u.setComposer { u.composer with active := u.composer.next }).attemptMessages c =
          (if (u.signs.get c).identified then [] else [(c, SignMessage.identify)]) ++
            [(c, s.aspectSet (u.signs.get c).nextSet (s.composer.next.part c))] := by
        have haspect (n : Nat) (p : Part) : s.aspectSet n p = u.aspectSet n p := by
          unfold State.aspectSet State.limitValue
          rw [hcfg]
        rw [haspect, ← hcomposer]
        rfl
      rw [hsent, funext hmessages]
      rfl
  · rw [e]
    refine ⟨fun _ => ⟨rfl, hcomposer⟩, fun hopen => ?_⟩
    obtain ⟨hd, hne, hset⟩ := (State.gateOpen_iff hcomposer).mp hopen
    rcases hclosed with h | h | h
    · exact nomatch hd.symm.trans h
    · exact absurd h hne
    · exact nomatch hset.symm.trans h

/-- A channel in MISMATCH is left by the tried gate as it is (R144). -/
theorem State.gateTried_mismatch {s t : State} {g : Signs} {c : Chan} (h : s.gateTried g t) (hc : (g.get c).state = .mismatch) :
    t.signs.get c = g.get c := by
  obtain ⟨hclosed, hopen⟩ := h
  by_cases ho : s.gateOpen g
  · obtain ⟨-, -, hget, -⟩ := hopen ho
    rw [hget, if_neg]
    simp [hc]
  · rw [(hclosed ho).1]

end Sys2Proof.Machine
end

section
/-!
PROOFS. What the messages and the deadlines of a sign line do to its channel, to the faults and to the plans (R143, R144, R150 to R161).
-/
namespace Sys2Proof.Machine
-- One proof at a time: the threads of parallel proofs exceed the memory limit of the check.
set_option Elab.async false

/-! ### The outcome of a change of one channel -/

theorem Signs.get_set_withSent (g : Signs) (c : Chan) (x : Channel) (m : List (Chan × SignMessage)) :
    Signs.get { g.set c x with sent := m } c = x := (Signs.get_withSent _ c m).trans (g.get_set c x)

theorem Signs.get_set_withSent_of_ne (g : Signs) {b c : Chan} (x : Channel) (m : List (Chan × SignMessage)) (h : b ≠ c) :
    Signs.get { g.set c x with sent := m } b = g.get b := (Signs.get_withSent _ b m).trans (g.get_set_of_ne x h)

/-- The state after a command that changes the record of one channel, with the messages it sends; the plans stay. -/
structure State.ChannelSet (s : State) (dt : Nat) (c : Chan) (x : Channel) (m : List (Chan × SignMessage)) (f : FaultList)
    (t : State) : Prop where
  signs : t.signs = { s.signs.set c x with sent := m }
  faults : t.faults = f
  slot : Line.slotOnly s.line t.line
  same : SameOutside [.signs, .faults, .line] (s.advance dt) t

section
variable {s t : State} {dt : Nat} {c : Chan} {x : Channel} {m : List (Chan × SignMessage)} {f : FaultList} (h : s.ChannelSet dt c x m f t)
include h

theorem State.ChannelSet.clock : t.clock = s.clock + dt := h.same .clock (by decide)

theorem State.ChannelSet.composer : t.composer = s.composer := h.same .composer (by decide)

theorem State.ChannelSet.sent : t.signs.sent = m := congrArg Signs.sent h.signs

theorem State.ChannelSet.get : t.signs.get c = x := by
  rw [h.signs]
  exact s.signs.get_set_withSent c x m

theorem State.ChannelSet.get_of_ne (d : Chan) (hd : d ≠ c) : t.signs.get d = s.signs.get d := by
  rw [h.signs]
  exact s.signs.get_set_withSent_of_ne x m hd

theorem State.ChannelSet.frame : SameOutside [.clock, .signs, .faults, .line] s t :=
  (s.advance_same dt).trans h.same (by decide) (by decide)

/-- A command that lets a waiting plan commit after it has changed a channel (R143). -/
theorem State.ChannelSet.tried :
    t.tryCommit.clock = s.clock + dt ∧ (s.advance dt).gateTried { s.signs.set c x with sent := m } t.tryCommit ∧
      t.tryCommit.faults = f ∧ Line.slotOnly s.line t.tryCommit.line ∧
      SameOutside [.clock, .signs, .composer, .faults, .line] s t.tryCommit := by
  have hcommit := t.tryCommit_same
  have hhanded : t.signs.handedOver = (s.advance dt).signs.handedOver := by
    rw [h.signs]
    exact Signs.set_handedOver _ _ _
  exact ⟨(hcommit .clock (by decide)).trans h.clock, h.signs ▸ State.tryCommit_gateTried h.same hhanded,
    (hcommit .faults (by decide)).trans h.faults, Line.slotOnly_trans h.slot t.tryCommit_slotGrows.1,
    h.frame.trans hcommit (by decide) (by decide)⟩

end

theorem State.blanked_set (s : State) (dt : Nat) (c : Chan) (x : Channel) (f : FaultList) :
    s.ChannelSet dt c x [blankOn c] f ((s.advance dt).blanked c x f) :=
  ⟨s.advance_blanked_signs dt c x f, State.blanked_faults _ c x f, Line.mayFlag_slotOnly (State.blanked_mayFlag (s.advance dt) c x f),
    State.blanked_same _ c x f⟩

/-- The entry into MISMATCH (R153). -/
theorem State.enterMismatch_set (s : State) (dt : Nat) (c : Chan) (endFirst : Bool) :
    s.ChannelSet dt c (s.signs.get c).mismatched [blankOn c]
      (s.faults.replaced (s.signs.get c).reason .signMismatch c.num ((s.clock + dt) / second) endFirst)
      ((s.advance dt).enterMismatch c endFirst) := by
  rw [State.enterMismatch_eq, State.advance_signs_get]
  exact s.blanked_set dt c _ _

/-- The fault list at the entry into FAILED: the fault of the reason is raised unless the channel has it already (R157). -/
def State.failedFaults (s : State) (c : Chan) (reason : FailureReason) (now : Nat) (endFirst : Bool) : FaultList :=
  if (s.signs.get c).reason = some reason then s.faults
  else s.faults.replaced (s.signs.get c).reason reason.fault c.num (now / second) endFirst

theorem State.enterFailed_advance_eq (s : State) (dt : Nat) (c : Chan) (reason : FailureReason) (endFirst : Bool) :
    (s.advance dt).enterFailed c reason endFirst =
      (s.advance dt).blanked c ((s.signs.get c).failedFor reason (s.clock + dt + s.cfg.retryPeriod * second))
        (s.failedFaults c reason (s.clock + dt) endFirst) := by
  rw [State.enterFailed_eq, State.advance_signs_get]
  rfl

/-- The entry into FAILED (R157). -/
theorem State.enterFailed_set (s : State) (dt : Nat) (c : Chan) (reason : FailureReason) (endFirst : Bool) :
    s.ChannelSet dt c ((s.signs.get c).failedFor reason (s.clock + dt + s.cfg.retryPeriod * second)) [blankOn c]
      (s.failedFaults c reason (s.clock + dt) endFirst) ((s.advance dt).enterFailed c reason endFirst) := by
  rw [s.enterFailed_advance_eq]
  exact s.blanked_set dt c _ _

/-- A displacement that begins with the entry into FAILED is urgent (R161). -/
theorem State.enterFailed_urgent (s : State) (dt : Nat) (k : Lane) (reason : FailureReason) (endFirst : Bool) (ha : s.acting = true)
    (hold : (s.signs.get (.lane k)).state ≠ .failed ∧ (s.signs.get (.lane k)).state ≠ .mismatch)
    (hshown : s.composer.active.aspects.get k = .closed ∨ ∃ n, s.composer.active.aspects.get k = .limit n) :
    ((s.advance dt).enterFailed (.lane k) reason endFirst).line.urgent = true ∧
      ((s.advance dt).enterFailed (.lane k) reason endFirst).line.pending = true := by
  rw [s.enterFailed_advance_eq]
  exact (s.advance dt).blanked_urgent k _ _ ha hold rfl hshown

/-- The identification of a silent channel (R152). -/
theorem State.identify_set (s : State) (dt : Nat) (c : Chan) :
    s.ChannelSet dt c { s.signs.get c with state := .showing, identified := true, identifyBy := none } [blankOn c] s.faults
      ((s.advance dt).identify c) := by
  refine ⟨?_, rfl, rfl, ?_⟩
  · rw [← State.blankMessage_eq (s.advance dt)]
    cases c <;> rfl
  · exact ((State.setChannel_same _ c _).trans (State.send_same _ _) (n := [.signs]) (by decide) (by decide)).mono (by decide)

/-- The identified mark is set without a message (R154, R159). -/
theorem State.markIdentified_set (s : State) (dt : Nat) (c : Chan) :
    s.ChannelSet dt c { s.signs.get c with identified := true } [] s.faults ((s.advance dt).markIdentified c) :=
  ⟨by cases c <;> rfl, rfl, rfl, (State.setChannel_same _ c _).mono (by decide)⟩

/-! ### IDENTITY (R150, R152 to R154) -/

theorem execIdentity_of_identifying {dt : Nat} {c : Chan} {kind : Octet} {check : BitVec 16} {endFirst : Bool} {s : State}
    (hc : check = checkOctets [0x21, kind]) (hu : s.chanUsable c = true) (hs : (s.signs.get c).state = .identifying) :
    execIdentity dt c kind check endFirst s =
      .next (if kind = expectedKind c then (s.advance dt).identify c else (s.advance dt).enterMismatch c endFirst) := by
  have hheard : signCheck typeIdentity [kind] check = true := signCheck_of_eq hc
  simp [execIdentity, hheard, hu, hs]

theorem execIdentity_of_unidentified {dt : Nat} {c : Chan} {kind : Octet} {check : BitVec 16} {endFirst : Bool} {s : State}
    (hc : check = checkOctets [0x21, kind]) (hu : s.chanUsable c = true) (hs : (s.signs.get c).state = .setting)
    (hi : (s.signs.get c).identified = false) :
    execIdentity dt c kind check endFirst s =
      .next (if kind = expectedKind c then (s.advance dt).markIdentified c
        else ((s.advance dt).enterMismatch c endFirst).tryCommit) := by
  have hheard : signCheck typeIdentity [kind] check = true := signCheck_of_eq hc
  simp [execIdentity, hheard, hu, hs, hi]

theorem execIdentity_of_settled {dt : Nat} {c : Chan} {kind : Octet} {check : BitVec 16} {endFirst : Bool} {s : State}
    (hs : (s.signs.get c).state ≠ .identifying)
    (hi : ¬((s.signs.get c).state = .setting ∧ (s.signs.get c).identified = false)) :
    execIdentity dt c kind check endFirst s = .next (s.advance dt) := by
  simp [execIdentity, hs, hi]

/-- Settles O52: the answer to an IDENTITY by the state of its channel. -/
theorem identityActsByTheState : Obligations.IdentityActsByTheState := by
  unfold Obligations.IdentityActsByTheState
  intro expected mismatch
  have hexpected (c : Chan) : expected c = expectedKind c := by cases c <;> rfl
  refine ⟨fun dt c kind check endFirst s hc hu hs => ?identifying, fun dt c kind check endFirst s hc hu hs hor => ?settled,
    fun dt c kind check endFirst s hc hu hs hi hk => ?wrong⟩
  case identifying =>
    have hexec := (exec_identity_eq dt c kind check endFirst s).trans (execIdentity_of_identifying hc hu hs)
    rw [hexpected]
    by_cases hk : kind = expectedKind c
    · rw [if_pos hk] at hexec
      have hset := s.identify_set dt c
      exact ⟨_, hexec, hset.clock, hset.sent, hset.get_of_ne, fun _ => ⟨hset.get, hset.faults⟩, fun h => absurd hk h, hset.slot,
        hset.frame⟩
    · rw [if_neg hk] at hexec
      have hset := s.enterMismatch_set dt c endFirst
      exact ⟨_, hexec, hset.clock, hset.sent, hset.get_of_ne, fun h => absurd h hk, fun _ => ⟨hset.get, hset.faults⟩, hset.slot,
        hset.frame⟩
  case settled =>
    have hquiet (t : State) (h : SameOutside [.signs] (s.advance dt) t) : SameOutside [.clock, .signs] s t :=
      (s.advance_same dt).trans h (by decide) (by decide)
    by_cases hun : (s.signs.get c).state = .setting ∧ (s.signs.get c).identified = false
    · obtain ⟨hsetting, hi⟩ := hun
      have hk : kind = expectedKind c := by
        rw [hsetting, hi, hexpected] at hor
        simpa using hor
      have hexec := (exec_identity_eq dt c kind check endFirst s).trans (execIdentity_of_unidentified hc hu hsetting hi)
      rw [if_pos hk] at hexec
      have hset := s.markIdentified_set dt c
      exact ⟨_, hexec, hset.clock, hset.get.trans (if_pos hsetting).symm, hset.get_of_ne, hset.sent,
        hquiet _ (State.setChannel_same _ c _)⟩
    · have hexec := (exec_identity_eq dt c kind check endFirst s).trans (execIdentity_of_settled hs hun)
      refine ⟨_, hexec, rfl, ?_, fun d _ => s.advance_signs_get dt d, rfl, hquiet _ (.refl _ _)⟩
      rw [State.advance_signs_get]
      split
      · next hsetting =>
        have hi : (s.signs.get c).identified = true := by
          by_contra hi
          exact hun ⟨hsetting, Bool.eq_false_iff.mpr hi⟩
        rw [← hi]
      · rfl
  case wrong =>
    have hexec := (exec_identity_eq dt c kind check endFirst s).trans (execIdentity_of_unidentified hc hu hs hi)
    rw [if_neg (hexpected c ▸ hk)] at hexec
    obtain ⟨hclock, hgate, hfaults, hslot, hframe⟩ := (s.enterMismatch_set dt c endFirst).tried
    have hmismatch := State.gateTried_mismatch hgate (congrArg Channel.state (s.signs.get_set_withSent c _ _))
    exact ⟨_, hexec, hclock, hgate, congrArg Channel.state (hmismatch.trans (s.signs.get_set_withSent c _ _)), hfaults, hslot, hframe⟩

/-! ### PROVING REPORT (R150, R154, R155) -/

/-- A record that shows its aspect: no failure reason, no attempt (R155). -/
def Channel.proved (x : Channel) : Channel := { x with state := .showing, reason := none, attempt := none }

theorem State.clearReason_eq (s : State) (c : Chan) (endFirst : Bool) (kind : FaultKind) :
    s.clearReason c (some kind) endFirst =
      s.setFaults (s.faults.replaced (s.signs.get c).reason kind c.num s.seconds endFirst) := by
  unfold State.clearReason
  cases (s.signs.get c).reason with
  | none => rfl
  | some r => exact s.exchangeFaults_eq endFirst kind r c.num

/-- The fault list when a channel gives up its failure reason, with a further fault or without (R155). -/
def State.clearedFaults (s : State) (c : Chan) (raised : Option FaultKind) (now : Nat) (endFirst : Bool) : FaultList :=
  match raised with
  | some kind => s.faults.replaced (s.signs.get c).reason kind c.num (now / second) endFirst
  | none =>
      match (s.signs.get c).reason with
      | none => s.faults
      | some r => s.faults.close r.fault c.num

theorem State.clearReason_advance_eq (s : State) (dt : Nat) (c : Chan) (raised : Option FaultKind) (endFirst : Bool) :
    (s.advance dt).clearReason c raised endFirst = (s.advance dt).setFaults (s.clearedFaults c raised (s.clock + dt) endFirst) := by
  cases raised with
  | some kind =>
    rw [State.clearReason_eq, State.advance_signs_get]
    rfl
  | none =>
    unfold State.clearReason State.clearedFaults
    rw [State.advance_signs_get]
    cases (s.signs.get c).reason <;> rfl

theorem State.prove_set (s : State) (dt : Nat) (c : Chan) (raised : Option FaultKind) (endFirst : Bool) :
    s.ChannelSet dt c (s.signs.get c).proved [] (s.clearedFaults c raised (s.clock + dt) endFirst)
      ((s.advance dt).prove c raised endFirst) := by
  unfold State.prove
  rw [State.clearReason_advance_eq, State.advance_signs_get]
  refine ⟨by cases c <;> rfl, rfl, rfl, ?_⟩
  exact (State.setFaults_same _ _).trans (State.setChannel_same _ c _) (by decide) (by decide)

theorem provingResult_cases {result : Octet} (h1 : 1 ≤ result.toNat) (h3 : result.toNat ≤ 3) :
    result = 1 ∨ result = 2 ∨ result = 3 := by
  have hof (n : Octet) : result = n ↔ result.toNat = n.toNat := ⟨congrArg _, BitVec.eq_of_toNat_eq⟩
  rw [hof, hof, hof]
  show result.toNat = 1 ∨ result.toNat = 2 ∨ result.toNat = 3
  omega

/-- The state in which a counting report has ended the attempt, before the commit gate is tried (R155). -/
def State.attemptEnded (s : State) (c : Chan) (result : ProvingResult) (endFirst : Bool) : State :=
  match result with
  | .proved => s.prove c none endFirst
  | .reduced => s.prove c (some .signDegraded) endFirst
  | .failed => s.enterFailed c .failed endFirst

theorem State.tryCommit_of_committed {s : State} (h : s.composer.next = s.composer.active) : s.tryCommit = s := by
  rcases s.tryCommit_cases with ⟨-, hne, -, -⟩ | ⟨-, e⟩
  · exact absurd h hne
  · exact e

/-- A report that counts ends the attempt by its result, and then the commit gate is tried. -/
theorem execProvingReport_of_counting {dt : Nat} {c : Chan} {set result : Octet} {check : BitVec 16} {endFirst : Bool} {s : State}
    {a : Attempt} (hc : check = checkOctets [0x22, set, result]) (hu : s.chanUsable c = true)
    (hs : (s.signs.get c).state = .setting) (hi : (s.signs.get c).identified = true) (ha : (s.signs.get c).attempt = some a)
    (hset : a.set = set.toNat) {r : ProvingResult} (hr : provingResultOf result = some r) :
    execProvingReport dt c set result check endFirst s = .next ((s.advance dt).attemptEnded c r endFirst).tryCommit := by
  have hheard : signCheck typeProvingReport [set, result] check = true := signCheck_of_eq hc
  simp only [execProvingReport, hheard, State.advance_chanUsable, hu, State.advance_signs_get, hs, hi, ha, hr, Option.map_some, hset,
    beq_self_eq_true, Bool.and_self, if_true]
  cases r <;> rfl

/-- With no plan waiting a channel that proves its aspect sends nothing and leaves the line (R155). -/
theorem State.prove_tryCommit_quiet {s : State} {dt : Nat} {c : Chan} {raised : Option FaultKind} {endFirst : Bool}
    (h : s.composer.next = s.composer.active) :
    ((s.advance dt).prove c raised endFirst).tryCommit.quiet ∧ ((s.advance dt).prove c raised endFirst).tryCommit.line = s.line := by
  have hset := s.prove_set dt c raised endFirst
  have hline : ((s.advance dt).prove c raised endFirst).line = s.line := (s.advance dt).clearReason_line c raised endFirst
  rw [State.tryCommit_of_committed (by rw [hset.composer]; exact h)]
  exact ⟨hset.sent, hline⟩

/-- Settles O53: the three results of a counting report, each followed by the gate. -/
theorem provingReportEndsTheAttempt : Obligations.ProvingReportEndsTheAttempt := by
  unfold Obligations.ProvingReportEndsTheAttempt
  intro dt c set result check endFirst s a ch now showing failed hc hu hs hi ha hset h1 h3
  have hexec {r : ProvingResult} (hr : provingResultOf result = some r) :=
    (exec_provingReport_eq dt c set result check endFirst s).trans (execProvingReport_of_counting hc hu hs hi ha hset hr)
  rcases provingResult_cases h1 h3 with rfl | rfl | rfl
  · obtain ⟨hclock, hgate, hfaults, hslot, hframe⟩ := (s.prove_set dt c none endFirst).tried
    refine ⟨_, hexec rfl, hclock, fun _ => hgate, nofun, fun _ h => State.prove_tryCommit_quiet h, fun _ => hfaults.trans ?_, nofun,
      nofun, hslot, hframe⟩
    show (match ch.reason with | none => s.faults | some r => s.faults.close r.fault c.num) = _
    rcases ch.reason with - | - | - <;> rfl
  · obtain ⟨hclock, hgate, hfaults, hslot, hframe⟩ := (s.prove_set dt c (some .signDegraded) endFirst).tried
    exact ⟨_, hexec rfl, hclock, fun _ => hgate, nofun, fun _ h => State.prove_tryCommit_quiet h, nofun, fun _ => hfaults, nofun,
      hslot, hframe⟩
  · obtain ⟨hclock, hgate, hfaults, hslot, hframe⟩ := (s.enterFailed_set dt c .failed endFirst).tried
    exact ⟨_, hexec rfl, hclock, fun h => absurd rfl h, fun _ => hgate, fun h => absurd rfl h, nofun, nofun, fun _ => hfaults, hslot,
      hframe⟩

/-! ### Deadlines (R152, R156, R157, R161) -/

theorem State.advance_due (s : State) {dt e : Nat} (h : e ≤ s.clock + dt) : (s.advance dt).due (some e) = true := decide_eq_true h

theorem execIdentificationDeadline_of_due {dt e : Nat} {c : Chan} {s : State} (hu : s.chanUsable c = true)
    (hs : (s.signs.get c).state = .identifying) (hb : (s.signs.get c).identifyBy = some e) (he : e ≤ s.clock + dt) :
    execIdentificationDeadline dt c s = .next ((s.advance dt).enterFailed c .noResponse false) := by
  simp [execIdentificationDeadline, hu, hs, hb, s.advance_due he]

theorem execProvingDeadline_of_due {dt : Nat} {c : Chan} {endFirst : Bool} {s : State} {a : Attempt} (hu : s.chanUsable c = true)
    (hs : (s.signs.get c).state = .setting) (ha : (s.signs.get c).attempt = some a) (he : a.deadline ≤ s.clock + dt) :
    execProvingDeadline dt c endFirst s =
      .next ((s.advance dt).enterFailed c (if (s.signs.get c).identified then .failed else .noResponse) endFirst).tryCommit := by
  simp [execProvingDeadline, hu, hs, ha, s.advance_due he]

theorem State.failedFaults_eq (s : State) (c : Chan) (reason : FailureReason) (now : Nat) (endFirst : Bool) :
    s.failedFaults c reason now endFirst =
      if (s.signs.get c).reason = some reason then s.faults
      else s.faults.replaced (s.signs.get c).reason
        (match reason with | .failed => .signFailed | .noResponse => .signNoResponse) c.num (now / second) endFirst := by
  cases reason <;> rfl

/-- Settles O54: each deadline enters FAILED with its reason, and the gate is tried behind the proving deadline. -/
theorem deadlinesFailTheChannel : Obligations.DeadlinesFailTheChannel := by
  unfold Obligations.DeadlinesFailTheChannel
  intro channel failed
  refine ⟨fun dt e c s hu hs hb he => ?identification, fun dt c endFirst s a hu hs ha he => ?proving⟩
  case identification =>
    have hset := s.enterFailed_set dt c .noResponse false
    refine ⟨_, (exec_identificationDeadline_eq dt c s).trans (execIdentificationDeadline_of_due hu hs hb he),
      ⟨hset.clock, hset.faults.trans (s.failedFaults_eq ..), fun k hk hacting hshown => ?_, hset.slot⟩, hset.signs, hset.frame⟩
    subst hk
    exact s.enterFailed_urgent dt k .noResponse false hacting (by rw [hs]; exact ⟨nofun, nofun⟩) hshown
  case proving =>
    intro reason
    obtain ⟨hclock, hgate, hfaults, hslot, hframe⟩ := (s.enterFailed_set dt c reason endFirst).tried
    refine ⟨_, (exec_provingDeadline_eq dt c endFirst s).trans (execProvingDeadline_of_due hu hs ha he),
      ⟨hclock, hfaults.trans (s.failedFaults_eq ..), fun k hk hacting hshown => ?_, hslot⟩, hgate, hframe⟩
    subst hk
    exact Line.mayFlag_urgent (State.tryCommit_mayFlag _)
      (s.enterFailed_urgent dt k reason endFirst hacting (by rw [hs]; exact ⟨nofun, nofun⟩) hshown)

/-! ### RESTART NOTICE (R159, R160) -/

/-- The state after a RESTART NOTICE that passes its check. -/
def State.noticed (s : State) (dt : Nat) (c : Chan) (kind : Octet) (endFirst : Bool) : State :=
  let u := s.advance dt
  if s.mode = .configFault then u.send [u.blankMessage c]
  else if s.chanUsable c then
    match (s.signs.get c).state with
    | .absent => u
    | .identifying => if kind = expectedKind c then u.identify c else u.enterMismatch c endFirst
    | .setting => if kind = expectedKind c then u.sendAgain c else (u.enterMismatch c endFirst).tryCommit
    | .showing => if kind = expectedKind c then (u.markIdentified c).retry c else u.enterMismatch c endFirst
    | .failed => if kind = expectedKind c then (u.markIdentified c).retry c else u.enterMismatch c endFirst
    | .mismatch => u.send [u.blankMessage c]
  else u

theorem execRestartNotice_of_check {dt : Nat} {c : Chan} {kind : Octet} {check : BitVec 16} {endFirst : Bool} {s : State}
    (hc : check = checkOctets [0x23, kind]) :
    execRestartNotice dt c kind check endFirst s = .next (s.noticed dt c kind endFirst) := by
  have hheard : signCheck typeRestartNotice [kind] check = true := signCheck_of_eq hc
  unfold execRestartNotice State.noticed
  simp only [hheard, if_true, State.advance_mode, State.advance_chanUsable, State.advance_signs_get]
  split
  · rfl
  · split
    · cases (s.signs.get c).state <;> rfl
    · rfl

theorem Signs.set_get (g : Signs) (c : Chan) : g.set c (g.get c) = g := by
  cases c with
  | legend => rfl
  | lane k => exact congrArg (fun l => { g with lanes := l }) (Lanes.set_get _ k)

/-- BLANK goes out, and nothing else happens (R159, R160). -/
theorem State.blank_set (s : State) (dt : Nat) (c : Chan) :
    s.ChannelSet dt c (s.signs.get c) [blankOn c] s.faults ((s.advance dt).send [(s.advance dt).blankMessage c]) := by
  refine ⟨?_, rfl, rfl, (State.send_same _ _).mono (by decide)⟩
  rw [Signs.set_get, State.blankMessage_eq]
  rfl

theorem State.advance_set (s : State) (dt : Nat) (c : Chan) : s.ChannelSet dt c (s.signs.get c) [] s.faults (s.advance dt) := by
  refine ⟨?_, rfl, rfl, .refl _ _⟩
  rw [Signs.set_get]
  rfl

/-- A channel that is set again, identified, under a fresh number (R159). -/
def State.setAgain (s : State) (dt : Nat) (c : Chan) : Channel :=
  { s.signs.get c with
    state := .setting, identified := true, nextSet := nextSetAfter (s.signs.get c).nextSet
    attempt := some { set := (s.signs.get c).nextSet, deadline := s.clock + dt + s.cfg.provingTimeout * 1000 }
    identifyBy := none, retryAt := none }

theorem State.retry_set (s : State) (dt : Nat) (c : Chan) :
    s.ChannelSet dt c (s.setAgain dt c) [(c, s.aspectSet (s.signs.get c).nextSet (s.composer.active.part c))] s.faults
      (((s.advance dt).markIdentified c).retry c) := by
  have hmarked := s.markIdentified_set dt c
  generalize hv : (s.advance dt).markIdentified c = v at hmarked ⊢
  have hattempt := v.beginAttempt_same c
  have hnoted := State.noteDisplacement_same (v.beginAttempt c) v.displacements
  have hclock : v.clock = s.clock + dt := hmarked.clock
  have hcfg : v.cfg = s.cfg := by rw [← hv]; rfl
  refine ⟨?_, ?_, ?_, ?_⟩
  · have hsigns : (v.retry c).signs = (v.beginAttempt c).signs := State.noteDisplacement_signs _ _
    rw [hsigns, ← hv]
    cases c with
    | legend => rfl
    | lane k => cases k <;> rfl
  · exact (hnoted .faults (by decide)).trans ((hattempt .faults (by decide)).trans hmarked.faults)
  · exact Line.slotOnly_trans hmarked.slot ((State.noteDisplacement_slotOnly (v.beginAttempt c) v.displacements))
  · exact hmarked.same.trans (hattempt.trans hnoted (n := [.signs, .line]) (by decide) (by decide)) (by decide) (by decide)

/-- A channel in SETTING whose aspect is sent again under a fresh number, with the deadline it has (R159). -/
def State.sentAgain (s : State) (c : Chan) : Channel :=
  { s.signs.get c with
    identified := true, nextSet := nextSetAfter (s.signs.get c).nextSet
    attempt := (s.signs.get c).attempt.map fun a => { a with set := (s.signs.get c).nextSet } }

theorem State.sendAgain_set (s : State) (dt : Nat) (c : Chan) :
    s.ChannelSet dt c (s.sentAgain c) [(c, s.aspectSet (s.signs.get c).nextSet (s.composer.active.part c))] s.faults
      ((s.advance dt).sendAgain c) := by
  refine ⟨?_, rfl, rfl, ?_⟩
  · cases c with
    | legend => rfl
    | lane k => cases k <;> rfl
  · exact ((State.setChannel_same _ c _).trans (State.send_same _ _) (n := [.signs]) (by decide) (by decide)).mono (by decide)

section
variable {s : State} {dt : Nat} {c : Chan} {kind : Octet} {endFirst : Bool}

theorem State.noticed_of_fault (hm : s.mode = .configFault) :
    s.ChannelSet dt c (s.signs.get c) [blankOn c] s.faults (s.noticed dt c kind endFirst) := by
  rw [State.noticed, if_pos hm]
  exact s.blank_set dt c

variable (hu : s.chanUsable c = true)
include hu

theorem State.noticed_of_mismatch (hs : (s.signs.get c).state = .mismatch) :
    s.ChannelSet dt c (s.signs.get c) [blankOn c] s.faults (s.noticed dt c kind endFirst) := by
  simp only [State.noticed, if_neg (State.mode_ne_of_chanUsable hu), hu, hs, if_true]
  exact s.blank_set dt c

theorem State.noticed_of_absent (hs : (s.signs.get c).state = .absent) :
    s.ChannelSet dt c (s.signs.get c) [] s.faults (s.noticed dt c kind endFirst) := by
  simp only [State.noticed, if_neg (State.mode_ne_of_chanUsable hu), hu, hs, if_true]
  exact s.advance_set dt c

theorem State.noticed_again (hk : kind = expectedKind c) (hs : (s.signs.get c).state = .showing ∨ (s.signs.get c).state = .failed) :
    s.ChannelSet dt c (s.setAgain dt c) [(c, s.aspectSet (s.signs.get c).nextSet (s.composer.active.part c))] s.faults
      (s.noticed dt c kind endFirst) := by
  rcases hs with hs | hs
  all_goals
    simp only [State.noticed, if_neg (State.mode_ne_of_chanUsable hu), hu, hs, hk, if_true]
    exact s.retry_set dt c

theorem State.noticed_of_setting (hk : kind = expectedKind c) (hs : (s.signs.get c).state = .setting) :
    s.ChannelSet dt c (s.sentAgain c) [(c, s.aspectSet (s.signs.get c).nextSet (s.composer.active.part c))] s.faults
      (s.noticed dt c kind endFirst) := by
  simp only [State.noticed, if_neg (State.mode_ne_of_chanUsable hu), hu, hs, hk, if_true]
  exact s.sendAgain_set dt c

theorem State.noticed_of_identifying (hk : kind = expectedKind c) (hs : (s.signs.get c).state = .identifying) :
    s.ChannelSet dt c { s.signs.get c with state := .showing, identified := true, identifyBy := none } [blankOn c] s.faults
      (s.noticed dt c kind endFirst) := by
  simp only [State.noticed, if_neg (State.mode_ne_of_chanUsable hu), hu, hs, hk, if_true]
  exact s.identify_set dt c

/-- Another kind makes a channel outside an attempt MISMATCH (R153). -/
theorem State.noticed_wrong (hk : kind ≠ expectedKind c) (hm : (s.signs.get c).state ≠ .mismatch)
    (ha : (s.signs.get c).state ≠ .absent) (hn : (s.signs.get c).state ≠ .setting) :
    s.ChannelSet dt c (s.signs.get c).mismatched [blankOn c]
      (s.faults.replaced (s.signs.get c).reason .signMismatch c.num ((s.clock + dt) / second) endFirst)
      (s.noticed dt c kind endFirst) := by
  have heq : s.noticed dt c kind endFirst = (s.advance dt).enterMismatch c endFirst := by
    simp only [State.noticed, if_neg (State.mode_ne_of_chanUsable hu), hu, if_neg hk, if_true]
    cases hs : (s.signs.get c).state with
    | absent => exact absurd hs ha
    | setting => exact absurd hs hn
    | mismatch => exact absurd hs hm
    | identifying | showing | failed => rfl
  rw [heq]
  exact s.enterMismatch_set dt c endFirst

/-- Another kind ends an attempt, and the gate is tried (R143, R153). -/
theorem State.noticed_wrong_setting (hk : kind ≠ expectedKind c) (hs : (s.signs.get c).state = .setting) :
    s.noticed dt c kind endFirst = ((s.advance dt).enterMismatch c endFirst).tryCommit := by
  simp only [State.noticed, if_neg (State.mode_ne_of_chanUsable hu), hu, hs, if_neg hk, if_true]

end

/-- Unless it ends an attempt, a notice changes one channel at most (R159). -/
theorem State.noticed_set {s : State} {dt : Nat} {c : Chan} {kind : Octet} {endFirst : Bool}
    (hu : s.mode = .configFault ∨ s.chanUsable c = true)
    (h : s.mode = .configFault ∨ kind = expectedKind c ∨ (s.signs.get c).state ≠ .setting) :
    ∃ x m f, s.ChannelSet dt c x m f (s.noticed dt c kind endFirst) := by
  by_cases hm : s.mode = .configFault
  · exact ⟨_, _, _, State.noticed_of_fault hm⟩
  · have husable := hu.resolve_left hm
    have hor := h.resolve_left hm
    by_cases hk : kind = expectedKind c
    · cases hs : (s.signs.get c).state with
      | absent => exact ⟨_, _, _, State.noticed_of_absent husable hs⟩
      | identifying => exact ⟨_, _, _, State.noticed_of_identifying husable hk hs⟩
      | setting => exact ⟨_, _, _, State.noticed_of_setting husable hk hs⟩
      | showing => exact ⟨_, _, _, State.noticed_again husable hk (.inl hs)⟩
      | failed => exact ⟨_, _, _, State.noticed_again husable hk (.inr hs)⟩
      | mismatch => exact ⟨_, _, _, State.noticed_of_mismatch husable hs⟩
    · have hn := hor.resolve_left hk
      by_cases hs : (s.signs.get c).state = .mismatch
      · exact ⟨_, _, _, State.noticed_of_mismatch husable hs⟩
      · by_cases ha : (s.signs.get c).state = .absent
        · exact ⟨_, _, _, State.noticed_of_absent husable ha⟩
        · exact ⟨_, _, _, State.noticed_wrong husable hk hs ha hn⟩

/-- Whatever a notice does, time passes, and it touches the channels, the plans, the faults and the status slot alone. -/
theorem State.noticed_frame {s : State} {dt : Nat} {c : Chan} {kind : Octet} {endFirst : Bool}
    (hu : s.mode = .configFault ∨ s.chanUsable c = true) :
    (s.noticed dt c kind endFirst).clock = s.clock + dt ∧ Line.slotOnly s.line (s.noticed dt c kind endFirst).line ∧
      SameOutside [.clock, .signs, .faults, .line, .composer] s (s.noticed dt c kind endFirst) := by
  by_cases h : s.mode = .configFault ∨ kind = expectedKind c ∨ (s.signs.get c).state ≠ .setting
  · obtain ⟨x, m, f, hset⟩ := State.noticed_set (dt := dt) (endFirst := endFirst) hu h
    exact ⟨hset.clock, hset.slot, hset.frame.mono (by decide)⟩
  · simp only [not_or, not_not] at h
    obtain ⟨hm, hk, hs⟩ := h
    rw [State.noticed_wrong_setting (hu.resolve_left hm) hk hs]
    obtain ⟨hclock, -, -, hslot, hframe⟩ := (s.enterMismatch_set dt c endFirst).tried
    exact ⟨hclock, hslot, hframe.mono (by decide)⟩

/-- Settles O56: the answer to a RESTART NOTICE by the state of its channel. -/
theorem restartNoticeSetsTheChannelAgain : Obligations.RestartNoticeSetsTheChannelAgain := by
  unfold Obligations.RestartNoticeSetsTheChannelAgain
  intro dt c kind check endFirst s ch fresh mismatch good hc hu
  have hgood : good ↔ kind = expectedKind c := by cases c <;> exact Iff.rfl
  have husable (hm : s.mode ≠ .configFault) : s.chanUsable c = true := hu.resolve_left hm
  obtain ⟨hclock, hslot, hframe⟩ := State.noticed_frame (dt := dt) (kind := kind) (endFirst := endFirst) hu
  refine ⟨_, (exec_restartNotice_eq dt c kind check endFirst s).trans (execRestartNotice_of_check hc), hclock, fun h => ?blank,
    fun hm hg hs => ?again, fun a hm hg hs ha => ?setting, fun hm hg hs => ?identifying, fun hm hg hs ha hn => ?wrong,
    fun hm hg hs => ?ends, fun h => ?others, hslot, hframe⟩
  case blank =>
    have hset : s.ChannelSet dt c ch [blankOn c] s.faults (s.noticed dt c kind endFirst) := by
      by_cases hm : s.mode = .configFault
      · exact State.noticed_of_fault hm
      · exact State.noticed_of_mismatch (husable hm) (h.resolve_left hm)
    exact ⟨hset.sent, hset.get, hset.faults⟩
  case again =>
    have hset := State.noticed_again (dt := dt) (endFirst := endFirst) (husable hm) (hgood.mp hg) hs
    exact ⟨hset.get, hset.sent, hset.faults⟩
  case setting =>
    have hset := State.noticed_of_setting (dt := dt) (endFirst := endFirst) (husable hm) (hgood.mp hg) hs
    refine ⟨hset.get.trans ?_, hset.sent, hset.faults⟩
    rw [State.sentAgain, show (s.signs.get c).attempt = some a from ha]
    rfl
  case identifying =>
    have hset := State.noticed_of_identifying (dt := dt) (endFirst := endFirst) (husable hm) (hgood.mp hg) hs
    exact ⟨hset.get, hset.sent, hset.faults⟩
  case wrong =>
    have hset := State.noticed_wrong (dt := dt) (endFirst := endFirst) (husable hm) (mt hgood.mpr hg) hs ha hn
    exact ⟨hset.get, hset.sent, hset.faults⟩
  case ends =>
    rw [State.noticed_wrong_setting (husable hm) (mt hgood.mpr hg) hs]
    obtain ⟨-, hgate, hfaults, -, -⟩ := (s.enterMismatch_set dt c endFirst).tried
    exact ⟨hgate, (State.gateTried_mismatch hgate (congrArg Channel.state (s.signs.get_set_withSent c _ _))).trans
      (s.signs.get_set_withSent c _ _), hfaults⟩
  case others =>
    obtain ⟨x, m, f, hset⟩ := State.noticed_set (dt := dt) (endFirst := endFirst) hu (h.imp_right (Or.imp_left hgood.mp))
    exact ⟨hset.get_of_ne, hset.composer⟩

end Sys2Proof.Machine
end

section
/-!
PROOFS. What the aspect composer reads of the other blocks, and what its next plan is while a step is under way (R104, R135 to R143).
-/
namespace Sys2Proof.Machine
-- One proof at a time: the threads of parallel proofs exceed the memory limit of the check.
set_option Elab.async false

/-! ### What a plan is composed of (R119 to R122, R132, R135 to R140) -/

/-- Two states give the composition the same inputs, beside the QUEUE candidate (R142). -/
structure State.SameInputs (s t : State) : Prop where
  own : t.own = s.own
  cfg : t.cfg = s.cfg
  downView : t.downView = s.downView
  entries : t.entries = s.entries
  shoulder : t.shoulder.state = s.shoulder.state
  planStep : t.speed.planStep = s.speed.planStep
  condition : t.speed.endCondition = s.speed.endCondition
  override : t.speed.override = s.speed.override

section
variable {s t : State} (h : s.SameInputs t)
include h

theorem State.SameInputs.downLane : t.downLane = s.downLane := by
  funext k
  rw [State.downLane, State.downLane, h.downView]

theorem State.SameInputs.takenOver : t.takenOver = s.takenOver := by
  funext k
  rw [State.takenOver, State.takenOver, h.downLane, h.cfg]

theorem State.SameInputs.laneList : t.laneList = s.laneList := by rw [State.laneList, State.laneList, h.cfg]

theorem State.SameInputs.isShoulder : t.isShoulder = s.isShoulder := by
  funext k
  rw [State.isShoulder, State.isShoulder, h.cfg]

theorem State.SameInputs.shoulderCloses : t.shoulderCloses = s.shoulderCloses := by
  funext k
  rw [State.shoulderCloses, State.shoulderCloses, h.isShoulder, h.shoulder]

theorem State.SameInputs.shoulderClosing : t.shoulderClosing = s.shoulderClosing := by
  funext k
  rw [State.shoulderClosing, State.shoulderClosing, h.isShoulder, h.shoulder]

theorem State.SameInputs.closedByEntry : t.closedByEntry = s.closedByEntry := by
  funext k
  rw [State.closedByEntry, State.closedByEntry, h.entries, h.own]

theorem State.SameInputs.mergedByEntry : t.mergedByEntry = s.mergedByEntry := by
  funext k
  rw [State.mergedByEntry, State.mergedByEntry, h.entries, h.own]

theorem State.SameInputs.applying : t.applying = s.applying := by rw [State.applying, State.applying, h.entries, h.own]

theorem State.SameInputs.interlock : t.interlock = s.interlock := by rw [State.interlock, State.interlock, h.downView]

theorem State.SameInputs.closedCase : t.closedCase = s.closedCase := by
  funext k
  rw [State.closedCase, State.closedCase, h.shoulderCloses, h.closedByEntry, h.takenOver]

theorem State.SameInputs.mergeCase : t.mergeCase = s.mergeCase := by
  funext k
  rw [State.mergeCase, State.mergeCase, h.closedCase, h.mergedByEntry, h.shoulderClosing, h.isShoulder, h.shoulder, h.interlock,
    h.downLane]

theorem State.SameInputs.planRunning : t.planRunning = s.planRunning := by
  rw [State.planRunning, State.planRunning, h.laneList, h.closedCase, h.mergeCase]

theorem State.SameInputs.openAspect : t.openAspect = s.openAspect := by
  rw [State.openAspect, State.openAspect, h.planStep, h.condition]

theorem State.SameInputs.composeAspect : t.composeAspect = s.composeAspect := by
  funext k
  rw [State.composeAspect, State.composeAspect, h.cfg, h.closedCase, h.mergeCase, h.planRunning, h.shoulderClosing, h.openAspect]

theorem State.SameInputs.overrideLegend : t.overrideLegend = s.overrideLegend := by
  rw [State.overrideLegend, State.overrideLegend, h.override]

theorem State.SameInputs.composeLegend (hq : t.composer.queueCandidate = s.composer.queueCandidate) :
    t.composeLegend = s.composeLegend := by
  have hincident : t.incidentRaised = s.incidentRaised := by
    rw [State.incidentRaised, State.incidentRaised, h.applying, h.laneList, h.planRunning, h.overrideLegend]
  have hclosed : t.lanesClosedRaised = s.lanesClosedRaised := by
    rw [State.lanesClosedRaised, State.lanesClosedRaised, h.laneList, h.composeAspect, h.shoulderCloses, h.closedByEntry,
      h.takenOver, h.overrideLegend]
  rw [State.composeLegend, State.composeLegend, hincident, hclosed, h.overrideLegend, hq]

/-- The same inputs and the same QUEUE candidate compose the same plan (R142). -/
theorem State.SameInputs.compose (hq : t.composer.queueCandidate = s.composer.queueCandidate) : t.compose = s.compose := by
  rw [State.compose, State.compose, h.composeAspect, h.takenOver, h.composeLegend hq]

end

/-! ### What the readers are shown of each block -/

/-- Two states agree in what any reader takes of a block: beside what speed control and the queue monitor read, the state of the
shoulder (R63, R85, R103, R142). -/
def Block.shown (b : Block) (s t : State) : Prop :=
  if b = .shoulder then t.shoulder.state = s.shoulder.state else b.told s t

theorem Block.shown_of_ne {b : Block} (h : b ≠ .shoulder) (s t : State) : b.shown s t ↔ b.told s t := by rw [Block.shown, if_neg h]

theorem Block.shown_refl (b : Block) (s : State) : b.shown s s := by
  unfold Block.shown
  split
  · rfl
  · exact b.told_refl s

theorem Block.shown_trans {b : Block} {s t u : State} (h : b.shown s t) (k : b.shown t u) : b.shown s u := by
  unfold Block.shown at *
  split
  · next hb =>
    rw [if_pos hb] at h k
    exact k.trans h
  · next hb =>
    rw [if_neg hb] at h k
    exact Block.told_trans h k

theorem Block.shown_symm {b : Block} {s t : State} (h : b.shown s t) : b.shown t s := by
  unfold Block.shown at *
  split
  · next hb =>
    rw [if_pos hb] at h
    exact h.symm
  · next hb =>
    rw [if_neg hb] at h
    exact Block.told_symm h

theorem Block.told_of_shown {b : Block} {s t : State} (h : b.shown s t) : b.told s t := by
  by_cases hb : b = .shoulder
  · subst hb
    trivial
  · exact (b.shown_of_ne hb s t).mp h

/-- A step reports nothing exactly where every block shows what it showed before (R63, R85, R103, R142). -/
theorem State.reported_eq_false_iff (s before : State) : s.reported before = false ↔ ∀ b : Block, b.shown before s := by
  constructor
  · intro h b
    by_cases hb : b = .shoulder
    · subst hb
      simp only [State.reported, decide_eq_false_iff_not, not_or, not_not] at h
      obtain ⟨-, -, -, -, -, -, hshoulder⟩ := h
      exact hshoulder
    · exact (b.shown_of_ne hb before s).mpr (State.told_of_not_reported h b)
  · intro h
    have hmode : s.mode = before.mode := h .station
    have hentries : s.neighbours.entries.map Neighbour.content = before.neighbours.entries.map Neighbour.content := h .neighbours
    have hclosures : s.closures = before.closures := h .closures
    have hqueue : s.queue.state = before.queue.state := h .queue
    have hspeed : s.speed.demand = before.speed.demand ∧ s.speed.override = before.speed.override := h .speed
    have hshoulder : s.shoulder.state = before.shoulder.state := h .shoulder
    simp [State.reported, hmode, hentries, hclosures, hqueue, hspeed, hshoulder]

theorem State.SameDerived.inputs {s t : State} (h : s.SameDerived t) (hs : ∀ b : Block, b.shown s t) : s.SameInputs t := by
  obtain ⟨-, hoverride⟩ := Block.told_of_shown (hs .speed)
  exact ⟨h.own, h.cfg, State.downView_congr h.own (hs .neighbours), State.entries_congr (hs .closures), hs .shoulder, h.planStep,
    h.condition, hoverride⟩

/-! ### The composer in tune with its inputs -/

/-- The next plan is the composition of its inputs, with the QUEUE candidate as the queue term, and waits only for a channel in
SETTING (R104, R142, R143). -/
structure State.Planned (s : State) : Prop where
  candidate : s.composer.queueCandidate = s.queue.term
  composed : s.composer.next = s.compose
  gate : s.composer.next = s.composer.active ∨ s.signs.anySetting = true

/-- The display is on exactly while the station acts, and off it shows nothing (R141). -/
structure State.Displayed (s : State) : Prop where
  display : s.composer.display = s.acting
  dark : s.acting = false → s.composer.next = Plan.allBlank ∧ s.composer.active = Plan.allBlank

theorem State.composerSound_iff (s : State) : s.composerSound ↔ s.Displayed ∧ (s.acting = true → s.Planned) := by
  constructor
  · rintro ⟨hd, hdark, hplanned⟩
    refine ⟨⟨hd, hd ▸ hdark⟩, fun ha => ?_⟩
    obtain ⟨hq, hc, hg⟩ := hplanned (hd.trans ha)
    exact ⟨hq, hc, hg⟩
  · rintro ⟨⟨hd, hdark⟩, hplanned⟩
    refine ⟨hd, hd ▸ hdark, fun ha => ?_⟩
    obtain ⟨hq, hc, hg⟩ := hplanned (hd ▸ ha)
    exact ⟨hq, hc, hg⟩

/-- A block has acted: what the readers derive and the plans stay, the station goes on acting or not, no channel leaves SETTING, and
nothing is shown anew but of the blocks of a list. -/
structure State.Shows (l : List Block) (s t : State) : Prop where
  derived : s.SameDerived t
  shown : ∀ b, b ∉ l → b.shown s t
  acting : t.acting = s.acting
  composer : t.composer = s.composer
  setting : s.signs.anySetting = true → t.signs.anySetting = true

theorem State.Shows.refl (l : List Block) (s : State) : State.Shows l s s := ⟨.refl s, fun b _ => b.shown_refl s, rfl, rfl, id⟩

theorem State.Shows.trans {l : List Block} {s t u : State} (h : State.Shows l s t) (k : State.Shows l t u) : State.Shows l s u :=
  ⟨h.derived.trans k.derived, fun b hb => Block.shown_trans (h.shown b hb) (k.shown b hb), k.acting.trans h.acting,
    k.composer.trans h.composer, k.setting ∘ h.setting⟩

theorem State.Shows.mono {l m : List Block} {s t : State} (h : State.Shows l s t) (hl : ∀ b ∈ l, b ∈ m := by decide) :
    State.Shows m s t := ⟨h.derived, fun b hb => h.shown b fun hb' => hb (hl b hb'), h.acting, h.composer, h.setting⟩

theorem State.anySetting_of_same {l : List Block} {s t : State} (h : SameOutside l s t) (hl : Block.signs ∉ l) :
    t.signs.anySetting = s.signs.anySetting := by
  have hsigns : { t.signs with sent := [] } = { s.signs with sent := [] } := h .signs hl
  have hset := congrArg Signs.anySetting hsigns
  exact hset

/-- What an action tells speed control, and the blocks that it touches, say what it shows. -/
theorem State.Tells.shows {l m : List Block} (n : List Block) {s t : State} (h : State.Tells l s t) (hs : SameOutside m s t)
    (ha : t.acting = s.acting) (hl : ∀ b ∈ l, b ∈ n := by decide)
    (hm : Block.composer ∉ m ∧ Block.signs ∉ m ∧ (Block.shoulder ∈ m → Block.shoulder ∈ n) := by decide) : State.Shows n s t := by
  obtain ⟨hcomposer, hsigns, hshoulder⟩ := hm
  refine ⟨h.derived, fun b hb => ?_, ha, hs .composer hcomposer, fun hset => (State.anySetting_of_same hs hsigns).trans hset⟩
  by_cases hsh : b = .shoulder
  · subst hsh
    exact congrArg Shoulder.state (hs .shoulder fun hmem => hb (hshoulder hmem))
  · exact (b.shown_of_ne hsh s t).mpr (h.told b fun hmem => hb (hl b hmem))

theorem State.Tells.acting {l : List Block} {s t : State} (h : State.Tells l s t) (hl : Block.station ∉ l := by decide) :
    t.acting = s.acting := State.acting_of_told (h.told .station hl)

/-- Work outside the blocks of which anything is shown. -/
theorem State.Shows.of_same {l : List Block} {s t : State} (h : SameOutside l s t)
    (hl : ∀ b ∈ [Block.station, .neighbours, .closures, .queue, .speed, .shoulder, .composer, .signs], b ∉ l := by decide) :
    State.Shows [] s t :=
  have htells : State.Tells [] s t := .of_same h fun b hb => hl b (List.mem_append_left [Block.shoulder, .composer, .signs] hb)
  htells.shows [] h (htells.acting List.not_mem_nil) (fun _ x => x)
    ⟨hl _ (by decide), hl _ (by decide), fun hsh => absurd hsh (hl _ (by decide))⟩

theorem State.Planned.of_shows {s t : State} (h : s.Planned) (k : State.Shows [] s t) : t.Planned where
  candidate := by rw [k.composer, k.derived.term, h.candidate]
  composed := by
    have hq : t.composer.queueCandidate = s.composer.queueCandidate := congrArg Composer.queueCandidate k.composer
    rw [(k.derived.inputs fun b => k.shown b List.not_mem_nil).compose hq, k.composer, h.composed]
  gate := by
    rw [k.composer]
    exact h.gate.imp_right k.setting

theorem State.Displayed.of_shows {l : List Block} {s t : State} (h : s.Displayed) (k : State.Shows l s t) : t.Displayed :=
  ⟨by rw [k.composer, k.acting, h.display], fun ha => k.composer ▸ h.dark (k.acting ▸ ha)⟩

theorem State.composerSound.of_shows {s t : State} (h : s.composerSound) (k : State.Shows [] s t) : t.composerSound := by
  rw [State.composerSound_iff] at h ⊢
  obtain ⟨hdisplayed, hplanned⟩ := h
  exact ⟨hdisplayed.of_shows k, fun ha => (hplanned (k.acting ▸ ha)).of_shows k⟩

/-! ### What the readers leave -/

/-- The composer that takes all its reports is in tune with its inputs (R104, R142, R143). -/
theorem State.serveComposer_planned (s : State) (hd : s.composer.display = true) : s.serveComposer.Planned := by
  have hdisplay : s.takeCandidate.composer.display = true := hd
  obtain ⟨-, hnext, hgate⟩ := s.takeCandidate.servePlan_spec hdisplay
  have hqueue : s.serveComposer.queue = s.queue := s.serveComposer_same .queue (by decide)
  have hrecomputed := s.takeCandidate.recompute_composer hdisplay
  obtain ⟨htried, -⟩ := s.takeCandidate.recompute.tryCommit_spec (by rw [hrecomputed]; exact hdisplay)
  refine ⟨?_, hnext, hgate⟩
  rw [hqueue]
  show s.takeCandidate.recompute.tryCommit.composer.queueCandidate = _
  rw [htried, hrecomputed]
  rfl

theorem State.servePlan_display (s : State) : s.servePlan.composer.display = s.composer.display := by
  by_cases hd : s.composer.display = true
  · obtain ⟨hdisplay, -⟩ := s.servePlan_spec hd
    exact hdisplay.trans hd.symm
  · have hrecompute : s.recompute = s := if_neg hd
    have hcommit : s.tryCommit = s := by
      rcases s.tryCommit_cases with ⟨h, -⟩ | ⟨-, e⟩
      · exact absurd h hd
      · exact e
    rw [State.servePlan, hrecompute, hcommit]

/-- No reader turns the display on or off (R141). -/
theorem State.serve_display (s before : State) (r : Reader) : (s.serve before r).composer.display = s.composer.display := by
  cases r with
  | queue => rfl
  | speed => exact congrArg Composer.display (s.serveSpeed_same .composer (by decide))
  | plan => exact s.servePlan_display
  | composer => exact s.takeCandidate.servePlan_display
  | shoulder => exact congrArg Composer.display (s.serveShoulder_same before .composer (by decide))

theorem State.serveAll_display (s before : State) (rs : List Reader) :
    (s.serveAll before rs).composer.display = s.composer.display := by
  induction rs generalizing s with
  | nil => rfl
  | cons r rs ih => exact (ih (s.serve before r)).trans (s.serve_display before r)

theorem State.serveAll_told (s before : State) (rs : List Reader) (b : Block) : b.told s (s.serveAll before rs) := by
  induction rs generalizing s with
  | nil => exact b.told_refl s
  | cons r rs ih => exact Block.told_trans (s.serve_told before r b) (ih (s.serve before r))

/-- Readers show nothing anew, but that an entry into ISOLATED closes the shoulder by force (R130). -/
theorem State.serveAll_shown (s before : State) (rs : List Reader) (b : Block) (h : b = .shoulder → s.notEntered before) :
    b.shown s (s.serveAll before rs) := by
  by_cases hb : b = .shoulder
  · subst hb
    exact congrArg Shoulder.state ((s.serveAll_served before rs (h rfl)).same .shoulder (by decide))
  · exact (b.shown_of_ne hb _ _).mpr (s.serveAll_told before rs b)

/-! ### A step under way -/

theorem State.notEntered_of_shown {s before : State} (h : Block.station.shown before s) : s.notEntered before :=
  have hmode : s.mode = before.mode := h
  fun hi => hmode ▸ hi

/-- A step that began in `before` has shown something of some blocks, readers may have taken reports meanwhile, and the composer is in
tune with its inputs as soon as there is nothing to report. -/
structure State.PlanUnderWay (before : State) (l : List Block) (s : State) : Prop where
  shown : ∀ b, b ∉ l → (b = .shoulder → s.notEntered before) → b.shown before s
  displayed : s.Displayed
  planned : s.acting = true → (∀ b : Block, b.shown before s) → s.Planned

theorem State.composerSound.underWay {s : State} (h : s.composerSound) : State.PlanUnderWay s [] s := by
  obtain ⟨hdisplayed, hplanned⟩ := s.composerSound_iff.mp h
  exact ⟨fun b _ _ => b.shown_refl s, hdisplayed, fun ha _ => hplanned ha⟩

/-- Blocks that have shown nothing before act: what they show takes back nothing that was shown. -/
theorem State.PlanUnderWay.act {before s t : State} {l m : List Block} (h : State.PlanUnderWay before l s) (k : State.Shows m s t)
    (hd : ∀ b ∈ l, b ∉ m := by decide) : State.PlanUnderWay before (l ++ m) t where
  shown b hb hn := by
    rw [List.mem_append, not_or] at hb
    refine Block.shown_trans (h.shown b hb.1 fun hsh => ?_) (k.shown b hb.2)
    by_cases hl : Block.station ∈ l
    · have hmode : t.mode = s.mode := k.shown .station (hd _ hl)
      exact fun hi => hn hsh (hmode.trans hi)
    · exact State.notEntered_of_shown (h.shown .station hl nofun)
  displayed := h.displayed.of_shows k
  planned ha hall := by
    have hback (b : Block) (hn : b = .shoulder → s.notEntered before) : b.shown before s := by
      by_cases hb : b ∈ l
      · exact Block.shown_trans (hall b) (Block.shown_symm (k.shown b (hd b hb)))
      · exact h.shown b hb hn
    have hbefore (b : Block) : b.shown before s := hback b fun _ => State.notEntered_of_shown (hback .station nofun)
    have hstep : State.Shows [] s t :=
      ⟨k.derived, fun b _ => Block.shown_trans (Block.shown_symm (hbefore b)) (hall b), k.acting, k.composer, k.setting⟩
    exact (h.planned (k.acting ▸ ha) hbefore).of_shows hstep

/-- Readers that have been served leave something to report, as they found it. -/
theorem State.PlanUnderWay.serveSome {before s : State} {l : List Block} (h : State.PlanUnderWay before l s) (rs : List Reader) :
    State.PlanUnderWay before l (s.serveSome before rs) := by
  unfold State.serveSome
  split
  · next hc =>
    obtain ⟨ha, hr⟩ := Bool.and_eq_true _ _ ▸ hc
    have hmode : (s.serveAll before rs).mode = s.mode := s.serveAll_mode before rs
    have hacting : (s.serveAll before rs).acting = s.acting := congrArg Mode.acting hmode
    have hentered : (s.serveAll before rs).notEntered before ↔ s.notEntered before := by
      rw [State.notEntered, State.notEntered, hmode]
    refine ⟨fun b hb hn => ?_, ⟨?_, fun hf => nomatch (hacting.trans ha).symm.trans hf⟩, fun _ hall => ?_⟩
    · have hn' : b = .shoulder → s.notEntered before := fun hsh => hentered.mp (hn hsh)
      exact Block.shown_trans (h.shown b hb hn') (s.serveAll_shown before rs b hn')
    · rw [s.serveAll_display, hacting, h.displayed.display]
    · have hn : s.notEntered before := hentered.mp (State.notEntered_of_shown (hall .station))
      have hnone : s.reported before = false := (s.reported_eq_false_iff before).mpr fun b =>
        Block.shown_trans (hall b) (Block.shown_symm (s.serveAll_shown before rs b fun _ => hn))
      exact nomatch hr.symm.trans hnone
  · exact h

/-- Two blocks act in either order, with readers served between them (R38, R62). -/
theorem State.PlanUnderWay.inOrder {before s : State} {l m n : List Block} (h : State.PlanUnderWay before l s) (o : Order)
    {f g : State → State} (hf : ∀ t, State.Shows m t (f t)) (hg : ∀ t, State.Shows n t (g t))
    (hlm : ∀ b ∈ l, b ∉ m := by decide) (hln : ∀ b ∈ l, b ∉ n := by decide) (hmn : ∀ b ∈ m, b ∉ n := by decide) :
    ∃ k, State.PlanUnderWay before k (s.inOrder before o f g) := by
  have hthird {p q : List Block} (hlq : ∀ b ∈ l, b ∉ q) (hpq : ∀ b ∈ p, b ∉ q) : ∀ b ∈ l ++ p, b ∉ q := fun b hb =>
    (List.mem_append.mp hb).elim (hlq b) (hpq b)
  rcases s.inOrder_cases before o f g with ⟨-, e⟩ | ⟨-, e⟩
  · rw [e]
    exact ⟨_, ((h.act (hf s) hlm).serveSome o.between).act (hg _) (hthird hln hmn)⟩
  · rw [e]
    exact ⟨_, ((h.act (hg s) hln).serveSome o.between).act (hf _) (hthird hlm fun b hb hm => hmn b hm hb)⟩

/-- When the reports of the step have been taken, the composer is in tune with its inputs again. -/
theorem State.PlanUnderWay.settle {before s : State} {l : List Block} (h : State.PlanUnderWay before l s) (late : List Reader) :
    (s.settle before late).composerSound := by
  rw [State.composerSound_iff]
  rcases s.settle_cases before late with ⟨ha, -, e⟩ | ⟨hn, e⟩
  · have hacting : ((s.serveAll before late).serveEvery before).acting = true := by
      rw [State.serveEvery_eq, State.acting, State.serveAll_mode, State.serveAll_mode]
      exact ha
    have hdisplay : ((s.serveAll before late).serveEvery before).composer.display = true := by
      rw [State.serveEvery_eq, State.serveAll_display, State.serveAll_display, h.displayed.display]
      exact ha
    rw [e]
    refine ⟨⟨hdisplay.trans hacting.symm, fun hf => nomatch hacting.symm.trans hf⟩, fun _ => State.serveComposer_planned _ ?_⟩
    exact (State.takeCandidate_display _).symm.trans ((State.servePlan_display _).symm.trans hdisplay)
  · rw [e]
    refine ⟨h.displayed, fun ha => h.planned ha ((s.reported_eq_false_iff before).mp ?_)⟩
    exact hn.resolve_left fun hf => nomatch ha.symm.trans hf

end Sys2Proof.Machine
end

section
/-!
PROOFS. What the operations of each block show the aspect composer (R38, R61, R77 to R82, R89, R97 to R100, R111, R113 to R115, R126).
-/
namespace Sys2Proof.Machine
-- One proof at a time: the threads of parallel proofs exceed the memory limit of the check.
set_option Elab.async false

/-! ### Work in one block -/

theorem State.DetectorWork.shows {s t : State} (h : s.DetectorWork t) : State.Shows [] s t :=
  h.tells.shows [] h.same (h.tells.acting List.not_mem_nil) (fun _ hb => hb)

/-- The blocks whose records the composer's inputs are taken of, with the plans and what the commit gate asks of the channels. -/
def State.planSources (s : State) :
    Station × Neighbours × Slots (Option Closure) × QueueMonitor × Speed × Shoulder × Composer × Bool :=
  (s.station, s.neighbours, s.closures, s.queue, s.speed, s.shoulder, s.composer, s.signs.anySetting)

theorem State.Shows.of_sources {s t : State} (h : t.planSources = s.planSources) : State.Shows [] s t := by
  simp only [State.planSources, Prod.mk.injEq] at h
  obtain ⟨hstation, hneighbours, hclosures, hqueue, hspeed, hshoulder, hcomposer, hsetting⟩ := h
  have htells : State.Tells [] s t := .of_eq hstation hneighbours hclosures hqueue hspeed
  refine ⟨htells.derived, fun b _ => ?_, htells.acting List.not_mem_nil, hcomposer, fun h => hsetting.trans h⟩
  by_cases hb : b = .shoulder
  · subst hb
    exact congrArg Shoulder.state hshoulder
  · exact (b.shown_of_ne hb s t).mpr (htells.told b List.not_mem_nil)

/-- A block shows at most what its operation tells, where the shoulder, the plans and the channels are left alone. -/
theorem State.Tells.shows_self {l m : List Block} {s t : State} (h : State.Tells l s t) (hs : SameOutside m s t)
    (hl : Block.station ∉ l := by decide)
    (hm : Block.composer ∉ m ∧ Block.signs ∉ m ∧ (Block.shoulder ∈ m → Block.shoulder ∈ l) := by decide) : State.Shows l s t :=
  h.shows l hs (h.acting hl) (fun _ hb => hb) hm

/-! ### The detector unit -/

theorem State.settleMode_shows (s : State) (k : Lane) (moment : Tick) : State.Shows [.shoulder] s (s.settleMode k moment) :=
  have htells := s.settleMode_tells k moment
  htells.shows [.shoulder] (s.settleMode_same k moment) (htells.acting List.not_mem_nil)

theorem State.qualifyInOrder_shows (s : State) (l : Loop) (p : Presence) : State.Shows [.shoulder] s (s.qualifyInOrder l p) := by
  have htells := s.qualifyInOrder_tells l p
  obtain ⟨hwork, -⟩ := s.qualifyInOrder_checkWork l p
  exact htells.shows [.shoulder] hwork.same (htells.acting List.not_mem_nil)

theorem State.releaseSingle_work (s : State) (k : Lane) (pairedCounts : Bool) : s.DetectorWork (s.releaseSingle k pairedCounts) := by
  unfold State.releaseSingle
  split
  · exact .refl s
  · dsimp only
    split
    · exact (s.setLane_work k _).trans (State.completeVehicle_laneWork _ k _).work
    · exact (s.setLane_work k _).trans (State.completeSingle_laneWork _ k _).work

theorem State.takeRelease_work (s : State) (l : Loop) : s.DetectorWork (s.takeRelease l) := by
  unfold State.takeRelease
  dsimp only
  generalize hu : (if (s.detector.lanes.get l.lane).mode.counting = some l.side then _ else _) = u
  have hcount : s.DetectorWork u := by
    subst hu
    split
    · exact s.setLane_work _ _
    · exact .refl s
  split
  · exact hcount.trans ((u.setLane_work l.lane _).trans (State.drainArrivals_laneWork _ l.lane).work)
  · exact hcount.trans (u.releaseSingle_work l.lane true)
  · exact hcount.trans (u.releaseSingle_work l.lane false)
  · exact hcount

theorem State.releaseQualified_shows (s : State) (l : Loop) : State.Shows [.shoulder] s (s.releaseQualified l) := by
  unfold State.releaseQualified
  dsimp only
  split
  · exact ((s.setLane_work l.lane _).trans (State.takeRelease_work _ l)).shows.mono
  · exact (s.setLane_work l.lane _).shows.mono
  · refine State.Shows.trans (.mono (l := []) ?_ nofun) (State.settleMode_shows _ l.lane _)
    exact .of_sources rfl

theorem State.closeInterval_shows (s : State) (stop : Tick) (lanes : List Lane) (loops : List Loop) :
    State.Shows [.shoulder] s (s.closeInterval stop lanes loops) := by
  have htells := s.closeInterval_tells stop lanes loops
  refine htells.shows [.shoulder] (m := [.detector, .trace, .requests, .queue, .faults, .shoulder, .line]) ?_
    (htells.acting List.not_mem_nil)
  rw [s.closeInterval_eq]
  have hopened := (s.opened_work stop lanes loops).same
  exact (hopened.trans (State.remeasured_checkWork _ stop).same (by decide) (fun _ hb => hb)).trans (State.setDetector_same _ _)
    (fun _ hb => hb) (by decide)

/-! ### The queue monitor, the measures and speed control -/

theorem State.finishRecord_shows (s : State) (r : VehicleRecord) : State.Shows [.queue] s (s.finishRecord r) :=
  (s.finishRecord_tells r).shows_self (s.finishRecord_same r)

theorem State.evaluateQueue_same (s : State) : SameOutside [.queue, .line] s s.evaluateQueue := by
  rw [s.evaluateQueue_eq]
  exact SameOutside.ite (s.queueTaken_same.mono (by decide)) (s.queueTaken_same.trans (State.flagUrgent_same _) (by decide) (by decide))

theorem State.evaluateQueue_shows (s : State) : State.Shows [.queue] s s.evaluateQueue :=
  s.evaluateQueue_tells.shows_self s.evaluateQueue_same

theorem State.takeMeasures_shows (s : State) : State.Shows [.speed] s s.takeMeasures :=
  s.takeMeasures_tells.shows_self (s.takeMeasures_eq ▸ s.demandTaken_same)

theorem State.evaluateDemand_same (s : State) : SameOutside [.speed, .faults] s s.evaluateDemand := by
  unfold State.evaluateDemand
  dsimp only
  have hset (x : Speed) : SameOutside [.speed, .faults] s (s.setSpeed x) := (s.setSpeed_same x).mono (by decide)
  split
  · exact SameOutside.ite (hset _) ((s.setSpeed_same _).trans (State.raiseFault_same _ _ _) (by decide) (by decide))
  · exact SameOutside.ite ((s.setSpeed_same _).trans (State.endFault_same _ _ _) (by decide) (by decide)) (hset _)

theorem State.evaluateDemand_shows (s : State) : State.Shows [.speed] s s.evaluateDemand :=
  s.evaluateDemand_tells.shows_self s.evaluateDemand_same

theorem State.measured_shows (s : State) : State.Shows [] s s.measured := by
  have htells : State.Tells [] s s.measured := s.computeMeasures_tells.trans (State.markEvaluation_tells _)
  exact htells.shows_self s.measured_same

theorem State.setOverride_shows (s : State) (r : Option Override) (h : ∀ o, r = some o → o.step ≤ 6) :
    State.Shows [.speed] s (s.setOverride r) :=
  (s.setOverride_tells r h).shows_self (m := [.speed]) (s.setSpeed_same _)

theorem State.takeOverride_shows (s : State) (step legend minutes : Nat) :
    State.Shows [.speed] s (s.takeOverride step legend minutes).1 := by
  have hsame : SameOutside [.speed] s (s.takeOverride step legend minutes).1 := by
    unfold State.takeOverride
    split
    · exact .refl _ s
    · split
      · exact .refl _ s
      · split <;> exact s.setSpeed_same _
  exact (s.takeOverride_tells step legend minutes).shows_self hsame

/-! ### The closure table and the shoulder -/

/-- A change of the closure table shows the table, and the shoulder whose opening check it may end (R117, R127). -/
theorem State.ClosureWork.shows {s t : State} (h : s.ClosureWork t) (k : State.Tells [.closures] s t) :
    State.Shows [.closures, .shoulder] s t := k.shows [.closures, .shoulder] h.same k.acting

theorem State.learn_shows (s : State) (n : Nat) {r : StatusRecord} (h : r.StepsInRange) :
    State.Shows [.closures, .shoulder] s (s.learn n r) := (s.learn_work n r).shows (s.learn_tells n h)

theorem State.ShoulderWork.shows {s t : State} (h : s.ShoulderWork t) : State.Shows [.shoulder] s t :=
  have htells : State.Tells [] s t := .of_same h.same
  htells.shows [.shoulder] h.same (htells.acting List.not_mem_nil)

/-! ### The neighbour table and station control -/

theorem State.storeRecord_shows (s : State) (n : Nat) {r : StatusRecord} (h : r.StepsInRange) :
    State.Shows [.neighbours] s (s.storeRecord n r) := (s.storeRecord_tells n h).shows_self (s.storeRecord_same n r)

/-- A neighbour table whose entries keep their content shows nothing. -/
theorem State.setNeighbours_shows_nothing (s : State) (x : Neighbours)
    (h : x.entries.map Neighbour.content = s.neighbours.entries.map Neighbour.content) : State.Shows [] s (s.setNeighbours x) :=
  (s.setNeighbours_tells_nothing x h).shows_self (s.setNeighbours_same x)

/-- Station control that keeps its mode, its number and its configuration shows nothing. -/
theorem State.setStation_shows (s : State) (x : Station) (hm : x.mode = s.station.mode) (hs : x.straps = s.station.straps)
    (hc : x.config = s.station.config) : State.Shows [] s (s.setStation x) :=
  (s.setStation_tells x hm hs hc).shows_self (s.setStation_same x)

theorem State.makeStale_shows (s : State) (n : Nat) : State.Shows [] s (s.makeStale n) :=
  (s.makeStale_tells n).shows_self (m := [.neighbours]) (s.setNeighbours_same _)

theorem State.removeEntry_shows (s : State) (n : Nat) : State.Shows [.neighbours] s (s.removeEntry n) :=
  (s.removeEntry_tells n).shows_self (m := [.neighbours]) (s.setNeighbours_same _)

theorem State.becomeIsolated_shows (s : State) : State.Shows [.station] s s.becomeIsolated := by
  refine s.becomeIsolated_tells.shows [.station] s.becomeIsolated_same ?_
  obtain ⟨-, hstation⟩ := s.becomeIsolated_spec
  show s.becomeIsolated.station.mode.acting = s.mode.acting
  rw [hstation]
  split
  · next hm => exact (congrArg Mode.acting hm).symm
  · rfl

theorem State.stuckIsolated_shows (s : State) (holds : List Nat) : State.Shows [.station] s (s.stuckIsolated holds) := by
  have hmade : State.Shows [.station] s (s.madeLineStuck holds) := (State.Shows.of_same (s.madeLineStuck_same holds)).mono
  unfold State.stuckIsolated
  split
  · exact hmade.trans (State.becomeIsolated_shows _)
  · exact hmade

/-- The arrival of a frame shows the mode: it ends the isolation (R71). -/
theorem State.noteArrival_shows (s : State) (n : Nat) : State.Shows [.station] s (s.noteArrival n) :=
  (s.noteArrival_tells n).shows [.station] (s.noteArrival_same n) (s.noteArrival_sameHeld n).acting

theorem State.exited_shows (s : State) (h : s.acting = true) : State.Shows [.station] s s.exited := by
  refine (s.exited_tells h).shows [.station] (m := [.station]) ?_ ?_
  · rw [s.exited_eq]
    exact s.setMode_same _
  · rw [s.exited_eq, h]
    show (if s.neighbours.isolation then Mode.isolated else Mode.running).acting = true
    split <;> rfl

/-! ### The owners of commands -/

theorem State.record_shows (s : State) (kind : CommandKind) (r : ResultCode) : State.Shows [] s (s.record kind r) :=
  (s.record_tells kind r).shows_self (s.record_same kind r)

/-- A command that is obeyed shows what its owner shows (R175, R176). -/
theorem State.obey_shows {l : List Block} (s : State) (c : Command) (inFault : Bool) {owner : State → State × ResultCode}
    (h : ∀ t : State, State.Shows l t (owner t).1) : State.Shows l s (s.obey c inFault owner) := by
  unfold State.obey
  split
  · split
    · exact (h s).trans ((State.record_shows _ _ _).mono nofun)
    · exact (s.record_shows _ _).mono nofun
  · exact .refl l s

theorem State.acknowledgeKey_shows (s : State) (code unit : Nat) : State.Shows [] s (s.acknowledgeKey code unit).1 := by
  unfold State.acknowledgeKey
  split <;> exact .of_sources rfl

theorem State.answer_shows (s : State) (bodies : List (List Octet)) : State.Shows [] s (s.answer bodies).1 := by
  unfold State.answer
  split
  · exact .refl [] s
  · exact .of_same (s.enqueue_same bodies)

theorem State.startTrace_shows (s : State) (lane count : Nat) : State.Shows [] s (s.startTrace lane count).1 := by
  unfold State.startTrace
  split
  · exact .refl [] s
  · split <;> exact .of_sources rfl

end Sys2Proof.Machine
end

section
/-!
PROOFS. The outcome of a command keeps the composer in tune with its inputs (R141 to R143): the sign lines, the reception of frames, the
commands of the centre, the line and the neighbour table.
-/
namespace Sys2Proof.Machine
-- One proof at a time: the threads of parallel proofs exceed the memory limit of the check.
set_option Elab.async false

/-! ### The outcome of a command -/

/-- A command's outcome keeps the composer in tune with its inputs. -/
def PlanKept (s : State) (r : Result) : Prop := ∀ t, r = .next t → s.composerSound → t.composerSound

theorem State.advance_shows (s : State) (dt : Nat) : State.Shows [] s (s.advance dt) := .of_same (s.advance_same dt)

theorem PlanKept.next {s t : State} {dt : Nat} (h : (s.advance dt).composerSound → t.composerSound) : PlanKept s (.next t) := by
  rintro _ ⟨⟩ hs
  exact h (hs.of_shows (s.advance_shows dt))

/-- A command that shows nothing. -/
theorem PlanKept.quiet {s t : State} {dt : Nat} (h : State.Shows [] (s.advance dt) t) : PlanKept s (.next t) :=
  .next fun hs => hs.of_shows h

theorem PlanKept.idle {s : State} {dt : Nat} : PlanKept s (.next (s.advance dt)) := .quiet (.refl [] _)

/-- A command that works beside the inputs of the composer. -/
theorem PlanKept.aside {s t : State} (h : t.planSources = s.planSources) : PlanKept s (.next t) := by
  rintro _ ⟨⟩ hs
  exact hs.of_shows (.of_sources h)

/-- A command whose step is told to the readers. -/
theorem PlanKept.settled {s t : State} {dt : Nat} {l : List Block} {late : List Reader} (h : State.Shows l (s.advance dt) t) :
    PlanKept s (.next (t.settle (s.advance dt) late)) := .next fun hs => (hs.underWay.act h nofun).settle late

theorem PlanKept.guarded {s t : State} {dt : Nat} {c : Prop} [Decidable c] (h : c → PlanKept s (.next t)) :
    PlanKept s (if c then .next t else .next (s.advance dt)) := by
  split
  · next hc => exact h hc
  · exact .idle

/-! ### The sign lines (R143) -/

theorem State.shown_of_signs {s t : State} (h : SameOutside [.signs, .faults, .line] s t) (b : Block) : b.shown s t := by
  by_cases hb : b = .shoulder
  · subst hb
    exact congrArg Shoulder.state (h .shoulder (by decide))
  · exact (b.shown_of_ne hb s t).mpr (told_of_sameOutside h (by decide) b)

/-- Work on the sign lines in which no channel leaves SETTING shows nothing. -/
theorem State.Shows.of_signs {s t : State} (h : SameOutside [.signs, .faults, .line] s t)
    (hset : s.signs.anySetting = true → t.signs.anySetting = true) : State.Shows [] s t :=
  ⟨.of_same h, fun b _ => State.shown_of_signs h b, State.acting_of_told (Block.told_of_same (h .station (by decide))),
    h .composer (by decide), hset⟩

/-- When a channel may have left SETTING, the gate that is tried restores what the composer keeps (R143). -/
theorem State.composerSound.tryCommit {s t : State} (h : s.composerSound) (k : SameOutside [.signs, .faults, .line] s t) :
    t.tryCommit.composerSound := by
  obtain ⟨hdisplayed, hplanned⟩ := s.composerSound_iff.mp h
  have hcomposer : t.composer = s.composer := k .composer (by decide)
  have hacting : t.acting = s.acting := State.acting_of_told (Block.told_of_same (k .station (by decide)))
  have hstays : t.tryCommit.acting = t.acting :=
    State.acting_of_told (Block.told_of_same (t.tryCommit_same .station (by decide)))
  rw [State.composerSound_iff]
  by_cases ha : s.acting = true
  · have hdisplay : t.composer.display = true := by rw [hcomposer, hdisplayed.display, ha]
    obtain ⟨hplans, hgate⟩ := t.tryCommit_spec hdisplay
    have hdisplay' : t.tryCommit.composer.display = true := by rw [hplans]; exact hdisplay
    have hacts : t.tryCommit.acting = true := hstays.trans (hacting.trans ha)
    have hnext : t.tryCommit.composer.next = t.composer.next := by rw [hplans]
    have hcandidate : t.tryCommit.composer.queueCandidate = t.composer.queueCandidate := by rw [hplans]
    refine ⟨⟨hdisplay'.trans hacts.symm, fun hf => nomatch hacts.symm.trans hf⟩, fun _ => ⟨?_, ?_, ?_⟩⟩
    · have hqueue : t.tryCommit.queue = s.queue := (t.tryCommit_same .queue (by decide)).trans (k .queue (by decide))
      rw [hcandidate, hcomposer, hqueue, (hplanned ha).candidate]
    · have hinputs : s.SameInputs t := (State.SameDerived.of_same k).inputs (State.shown_of_signs k)
      calc t.tryCommit.composer.next = t.composer.next := hnext
        _ = s.compose := by rw [hcomposer, (hplanned ha).composed]
        _ = t.compose := (hinputs.compose (congrArg Composer.queueCandidate hcomposer)).symm
        _ = t.tryCommit.compose := (State.compose_of_composer_same t.tryCommit_same hcandidate).symm
    · rw [hnext]
      exact hgate
  · have hrest : s.acting = false := Bool.eq_false_iff.mpr ha
    have hdark : t.composer.display = false := by rw [hcomposer, hdisplayed.display, hrest]
    have hstill : t.tryCommit = t := by
      rcases t.tryCommit_cases with ⟨hd, -⟩ | ⟨-, e⟩
      · exact nomatch hd.symm.trans hdark
      · exact e
    rw [hstill]
    exact ⟨⟨by rw [hdark, hacting, hrest], fun _ => hcomposer ▸ hdisplayed.dark hrest⟩,
      fun hf => nomatch (hacting.trans hrest).symm.trans hf⟩

theorem State.ChannelSet.tryCommit_planKept {s t : State} {dt : Nat} {c : Chan} {x : Channel} {m : List (Chan × SignMessage)}
    {f : FaultList} (h : s.ChannelSet dt c x m f t) : PlanKept s (.next t.tryCommit) :=
  .next fun hs => hs.tryCommit h.same

/-- A command on a channel that was not in SETTING, or stays there. -/
theorem State.ChannelSet.planKept {s t : State} {dt : Nat} {c : Chan} {x : Channel} {m : List (Chan × SignMessage)} {f : FaultList}
    (h : s.ChannelSet dt c x m f t) (hx : (s.signs.get c).state = .setting → x.state = .setting) : PlanKept s (.next t) := by
  refine .quiet (.of_signs h.same fun hset => ?_)
  obtain ⟨d, hd⟩ := (Signs.anySetting_iff s.signs).mp hset
  refine (Signs.anySetting_iff t.signs).mpr ⟨d, ?_⟩
  by_cases hdc : d = c
  · subst hdc
    rw [h.get]
    exact hx hd
  · rw [h.get_of_ne d hdc]
    exact hd

/-- A retry brings its channel into SETTING (R158). -/
theorem State.retry_shows (s : State) (c : Chan) : State.Shows [] s (s.retry c) := by
  refine .of_signs ((s.beginAttempt_same c).trans (State.noteDisplacement_same _ _) (by decide) (by decide)) fun _ => ?_
  obtain ⟨hset, -⟩ := s.beginAttempt_spec c
  have hsigns : (s.retry c).signs = (s.beginAttempt c).signs := State.noteDisplacement_signs _ _
  exact (Signs.anySetting_iff _).mpr ⟨c, by rw [hsigns, hset]⟩

theorem execIdentity_planKept (dt : Nat) (c : Chan) (kind : Octet) (check : BitVec 16) (endFirst : Bool) (s : State) :
    PlanKept s (execIdentity dt c kind check endFirst s) := by
  unfold execIdentity
  dsimp only
  split
  · split
    · next hs =>
      have hne : (s.signs.get c).state ≠ .setting := fun h => nomatch hs.symm.trans h
      split
      · exact (s.identify_set dt c).planKept fun h => absurd h hne
      · exact (s.enterMismatch_set dt c endFirst).planKept fun h => absurd h hne
    · split
      · split
        · exact (s.markIdentified_set dt c).planKept id
        · exact (s.enterMismatch_set dt c endFirst).tryCommit_planKept
      · exact .idle
  · exact .idle

theorem execIdentificationDeadline_planKept (dt : Nat) (c : Chan) (s : State) : PlanKept s (execIdentificationDeadline dt c s) := by
  refine .guarded fun hc => (s.enterFailed_set dt c _ _).planKept fun h => ?_
  simp only [Bool.and_eq_true, beq_iff_eq] at hc
  obtain ⟨⟨-, hs⟩, -⟩ := hc
  exact nomatch hs.symm.trans h

theorem execProvingReport_planKept (dt : Nat) (c : Chan) (set result : Octet) (check : BitVec 16) (endFirst : Bool) (s : State) :
    PlanKept s (execProvingReport dt c set result check endFirst s) := by
  unfold execProvingReport
  dsimp only
  split
  · split
    · exact (s.prove_set dt c _ endFirst).tryCommit_planKept
    · exact (s.prove_set dt c _ endFirst).tryCommit_planKept
    · exact (s.enterFailed_set dt c _ endFirst).tryCommit_planKept
    · exact .idle
  · exact .idle

theorem execProvingDeadline_planKept (dt : Nat) (c : Chan) (endFirst : Bool) (s : State) :
    PlanKept s (execProvingDeadline dt c endFirst s) :=
  .guarded fun _ => (s.enterFailed_set dt c _ endFirst).tryCommit_planKept

theorem execRestartNotice_planKept (dt : Nat) (c : Chan) (kind : Octet) (check : BitVec 16) (endFirst : Bool) (s : State) :
    PlanKept s (execRestartNotice dt c kind check endFirst s) := by
  have hmismatch (h : (s.signs.get c).state ≠ .setting) : PlanKept s (.next ((s.advance dt).enterMismatch c endFirst)) :=
    (s.enterMismatch_set dt c endFirst).planKept fun hs => absurd hs h
  have hagain (h : (s.signs.get c).state ≠ .setting) : PlanKept s (.next (if kind = expectedKind c then
      ((s.advance dt).markIdentified c).retry c else (s.advance dt).enterMismatch c endFirst)) := by
    split
    · exact (s.retry_set dt c).planKept fun _ => rfl
    · exact hmismatch h
  unfold execRestartNotice
  dsimp only
  split
  · split
    · exact (s.blank_set dt c).planKept id
    · split
      · split
        case h_1 => exact .idle
        case h_2 hs =>
          split
          · exact (s.identify_set dt c).planKept fun h => nomatch hs.symm.trans h
          · exact hmismatch fun h => nomatch hs.symm.trans h
        case h_3 hs =>
          split
          · exact (s.sendAgain_set dt c).planKept id
          · exact (s.enterMismatch_set dt c endFirst).tryCommit_planKept
        case h_4 hs => exact hagain fun h => nomatch hs.symm.trans h
        case h_5 hs => exact hagain fun h => nomatch hs.symm.trans h
        case h_6 => exact (s.blank_set dt c).planKept id
      · exact .idle
  · exact .idle

/-! ### The reception of a frame -/

/-- A frame that is heard shows the mode of its arrival, and then what its delivery shows. -/
theorem State.receive_planKept (s : State) (dt : Nat) (f : Frame) (o : Order) {deliver : State → State}
    (h : ∀ u, State.PlanUnderWay (s.advance dt) [.station] u → ∃ l, State.PlanUnderWay (s.advance dt) l (deliver u)) :
    PlanKept s (.next ((s.advance dt).receive f o deliver)) := by
  refine .next (dt := dt) fun hs => ?_
  generalize s.advance dt = u at hs h ⊢
  unfold State.receive
  split
  · split
    · exact hs.of_shows (.of_sources rfl)
    · have hidle : State.Shows [] u (u.setLine (u.line.toIdle u.clock)) := .of_sources rfl
      have harrived : State.Shows [.station] u ((u.setLine (u.line.toIdle u.clock)).noteArrival f.source.toNat) :=
        (hidle.mono nofun).trans (State.noteArrival_shows _ _)
      obtain ⟨l, hdelivered⟩ := h _ ((hs.underWay.act harrived nofun).serveSome o.early)
      exact hdelivered.settle o.late
  · exact hs

theorem State.heard_planKept (s : State) (dt : Nat) (f : Frame) :
    PlanKept s (.next ((s.advance dt).receive f Order.plain (fun t => t))) :=
  s.receive_planKept dt f Order.plain fun _ hu => ⟨_, hu⟩

/-- A readable status record shows the neighbour table and the closure table, in either order (R62, R113). -/
theorem execStatusFrame_planKept (dt : Nat) (cls : BitVec 2) (source : BitVec 6) (body : List Octet) (o : Order) (s : State) :
    PlanKept s (execStatusFrame dt cls source body o s) := by
  refine s.receive_planKept dt _ o fun u hu => ?_
  unfold State.takeStatus
  split
  · split
    · next r hr =>
      have hsteps := readStatus_stepsInRange hr
      exact hu.inOrder o (fun t => t.storeRecord_shows _ hsteps) (fun t => t.learn_shows _ hsteps)
    · exact ⟨_, hu⟩
  · exact ⟨_, hu⟩

/-! ### The commands of the centre -/

/-- A command is obeyed by an owner that shows what the arrival of the command has not shown (R175, R176). -/
theorem State.command_planKept (s : State) (dt : Nat) (c : Command) (body : List Octet) (o : Order) (inFault : Bool) (l : List Block)
    {owner : State → State × ResultCode} (h : ∀ t : State, State.Shows l t (owner t).1) (hl : Block.station ∉ l := by decide) :
    PlanKept s (.next ((s.advance dt).command c body o inFault owner)) :=
  s.receive_planKept dt _ o fun u hu => ⟨_, hu.act (u.obey_shows c inFault h) fun _ hb => List.mem_singleton.mp hb ▸ hl⟩

theorem execCommandNotAddressed_planKept (dt : Nat) (kind : BitVec 4) (body : List Octet) (s : State) :
    PlanKept s (execCommandNotAddressed dt kind body s) := by
  unfold execCommandNotAddressed
  dsimp only
  split
  · split
    · split
      · exact .idle
      · exact s.heard_planKept dt _
    · exact s.heard_planKept dt _
  · exact .idle

theorem execCloseSet_planKept (dt : Nat) (origin serial lanes taper extent step : Octet) (o : Order) (s : State) :
    PlanKept s (execCloseSet dt origin serial lanes taper extent step o s) :=
  s.command_planKept dt _ _ o false [.closures, .shoulder] fun t => (t.closeSet_work _).shows (t.closeSet_tells _ (Nat.min_le_right _ 6))

theorem execCloseClear_planKept (dt : Nat) (origin serial : Octet) (o : Order) (s : State) :
    PlanKept s (execCloseClear dt origin serial o s) :=
  s.command_planKept dt _ _ o false [.closures, .shoulder] fun t => (t.closeClear_work _ _).shows (t.closeClear_tells _ _)

theorem execShoulderOtherAction_planKept (dt : Nat) (low high action : Octet) (s : State) :
    PlanKept s (execShoulderOtherAction dt low high action s) := by
  unfold execShoulderOtherAction
  dsimp only
  split
  · exact .idle
  · exact s.command_planKept dt _ _ _ _ [] fun t => by rw [t.takeOtherAction_eq]; exact .refl [] t

theorem execFaultAck_planKept (dt : Nat) (station kind unit : Octet) (s : State) : PlanKept s (execFaultAck dt station kind unit s) := by
  unfold execFaultAck
  dsimp only
  split
  · exact .idle
  · exact s.command_planKept dt _ _ _ _ [] fun t => t.acknowledgeKey_shows _ _

theorem execRequestOtherType_planKept (dt : Nat) (station type lane count : Octet) (s : State) :
    PlanKept s (execRequestOtherType dt station type lane count s) := by
  unfold execRequestOtherType
  dsimp only
  split
  · exact .idle
  · exact s.command_planKept dt _ _ _ _ [] (State.Shows.refl [])

/-! ### The line interface and the neighbour table -/

theorem execLineStuck_planKept (dt : Nat) (holds : List Nat) (o : Order) (s : State) : PlanKept s (execLineStuck dt holds o s) := by
  have hsettled : PlanKept s (.next (((s.advance dt).stuckIsolated holds).settle (s.advance dt) o.late)) :=
    .settled ((s.advance dt).stuckIsolated_shows holds)
  exact .guarded fun _ => hsettled

theorem execNeighbourExpiry_planKept (dt : Nat) (station : Nat) (s : State) : PlanKept s (execNeighbourExpiry dt station s) := by
  unfold execNeighbourExpiry
  dsimp only
  split
  · exact .guarded fun _ => .quiet ((s.advance dt).makeStale_shows station)
  · exact .idle

theorem execNeighbourRemoval_planKept (dt : Nat) (station : Nat) (o : Order) (s : State) :
    PlanKept s (execNeighbourRemoval dt station o s) := by
  unfold execNeighbourRemoval
  dsimp only
  split
  · have hlost (u : State) : State.Shows [.neighbours] u (u.raiseFault .neighbourLost station) :=
      (State.Shows.of_same (u.raiseFault_same _ _)).mono nofun
    exact .guarded fun _ => .settled (((s.advance dt).removeEntry_shows station).trans (hlost _))
  · exact .idle

theorem execIsolationTimerExpiry_planKept (dt : Nat) (o : Order) (s : State) : PlanKept s (execIsolationTimerExpiry dt o s) := by
  have htimer : State.Shows [.station] (s.advance dt)
      ((s.advance dt).setNeighbours { (s.advance dt).neighbours with isolationTimer := none }) :=
    .mono (l := []) ((s.advance dt).setNeighbours_shows_nothing _ rfl) nofun
  exact .guarded fun _ => .settled (htimer.trans (State.becomeIsolated_shows _))

end Sys2Proof.Machine
end

section
/-!
PROOFS. The next plan is the composition, and waits only for a channel in SETTING (R141 to R143): the other commands, and every command.
-/
namespace Sys2Proof.Machine
-- One proof at a time: the threads of parallel proofs exceed the memory limit of the check.
set_option Elab.async false

/-! ### The detector unit and the arithmetic unit -/

theorem State.setInput_shows (s : State) (l : Loop) (level : Bool) : State.Shows [] s (s.setInput l level) :=
  .of_same (s.setInput_same l level)

theorem execQualifiedOnEdge_planKept (dt : Nat) (l : Loop) (s : State) : PlanKept s (execQualifiedOnEdge dt l s) := by
  unfold execQualifiedOnEdge
  dsimp only
  split
  · exact .guarded fun _ => .settled ((s.advance dt).qualifyInOrder_shows l _)
  · exact .idle

theorem execReleaseEdge_planKept (dt : Nat) (l : Loop) (s : State) : PlanKept s (execReleaseEdge dt l s) := by
  have hinput := (s.advance dt).setInput_shows l false
  have hinput' : State.Shows [.shoulder] (s.advance dt) ((s.advance dt).setInput l false) := hinput.mono nofun
  unfold execReleaseEdge
  dsimp only
  split
  · split
    · split
      · next p _ =>
        split
        · exact .settled (hinput'.trans (State.releaseQualified_shows _ l))
        · split
          · exact .settled ((hinput'.trans (State.qualifyInOrder_shows _ l p)).trans (State.releaseQualified_shows _ l))
          · exact .aside rfl
      · exact .quiet hinput
    · exact .quiet hinput
  · exact .idle

theorem execPresenceTimeout_planKept (dt : Nat) (l : Loop) (endFirst : Bool) (s : State) :
    PlanKept s (execPresenceTimeout dt l endFirst s) := by
  have hstuck (c : Prop) [Decidable c] (x : LoopRecord) (d : LaneDetector) : (s.advance dt).DetectorWork
      (if c then ((s.advance dt).setLoop l x).setLane l.lane d else (s.advance dt).setLoop l x) := by
    split <;> rfl
  have hchatter {u : State} (h : (s.advance dt).DetectorWork u) :
      State.Shows [.shoulder] (s.advance dt) (u.exchangeFaults endFirst .loopStuck .loopChatter (loopNumber l)) :=
    (h.shows.trans (.of_same (u.exchangeFaults_same _ _ _ _))).mono nofun
  unfold execPresenceTimeout
  dsimp only
  split
  · refine .guarded fun _ => .settled (State.Shows.trans ?_ (State.settleMode_shows _ _ _))
    split
    · exact ((hstuck _ _ _).trans (State.setFaults_work _ _)).shows.mono nofun
    · exact hchatter (hstuck _ _ _)
    · exact (hstuck _ _ _).shows.mono nofun
  · exact .idle

theorem execPairingDeadline_planKept (dt : Nat) (k : Lane) (s : State) : PlanKept s (execPairingDeadline dt k s) :=
  .guarded fun _ => .quiet (((s.advance dt).setArrivals_laneWork k _).trans (State.drainArrivals_laneWork _ k)).work.shows

theorem execIntervalEnd_planKept (dt : Nat) (lanes : List Lane) (loops : List Loop) (s : State) :
    PlanKept s (execIntervalEnd dt lanes loops s) := by
  unfold execIntervalEnd
  dsimp only
  split
  · exact .guarded fun _ => .settled ((s.advance dt).closeInterval_shows _ lanes loops)
  · exact .idle

theorem execVehicleRequestCompletion_planKept (dt : Nat) (o : Order) (s : State) :
    PlanKept s (execVehicleRequestCompletion dt o s) := by
  have hserved (u : State) (q : List Request) : State.Shows [.queue] u (u.setRequests q) := (u.setRequests_work q).shows.mono nofun
  unfold execVehicleRequestCompletion
  dsimp only
  split
  · exact .settled ((hserved _ _).trans (State.finishRecord_shows _ _))
  · exact .idle

/-- The station evaluation shows the demand and the queue state, in either order (R38, R96). -/
theorem State.PlanUnderWay.completeInterval {s : State} (h : State.PlanUnderWay s [] s) (k : Lane) (x : Snapshot)
    (rest : List Request) (o : Order) : ∃ l, State.PlanUnderWay s l (s.completeInterval k x rest o) := by
  have hrecord : State.Shows [] s (s.recorded k x rest) := .of_same (s.recorded_same k x rest)
  unfold State.completeInterval
  dsimp only
  split
  · exact (h.act (hrecord.trans (State.measured_shows _))).inOrder o State.takeMeasures_shows State.evaluateQueue_shows
  · exact ⟨_, h.act hrecord⟩

theorem execIntervalRequestCompletion_planKept (dt : Nat) (o : Order) (s : State) :
    PlanKept s (execIntervalRequestCompletion dt o s) := by
  unfold execIntervalRequestCompletion
  dsimp only
  split
  · next k x rest _ =>
    refine .next (dt := dt) fun hs => ?_
    obtain ⟨l, hdone⟩ := hs.underWay.completeInterval k x rest o
    exact hdone.settle o.late
  · exact .idle

/-! ### Speed control -/

/-- At its expiry the hold lets the plan step fall, and the composer takes the plan step and the END condition up (R87, R104). -/
theorem execHoldExpiry_planKept (dt : Nat) (s : State) : PlanKept s (execHoldExpiry dt s) := by
  unfold execHoldExpiry
  dsimp only
  split
  · next hc =>
    obtain ⟨ha, -⟩ := Bool.and_eq_true _ _ ▸ hc
    split
    · refine .next (dt := dt) fun hs => (State.composerSound_iff _).mpr ?_
      obtain ⟨hdisplayed, -⟩ := (State.composerSound_iff _).mp hs
      generalize hu : (s.advance dt).fall.updateEnd = u
      have hdisplay : u.composer.display = true := by
        subst hu
        exact hdisplayed.display.trans ha
      have hacting : u.serveComposer.acting = true := by
        have hstays : u.serveComposer.acting = u.acting :=
          State.acting_of_told (Block.told_of_same (u.serveComposer_same .station (by decide)))
        rw [hstays, ← hu]
        exact ha
      refine ⟨⟨?_, fun hf => nomatch hacting.symm.trans hf⟩, fun _ => u.serveComposer_planned hdisplay⟩
      exact (u.takeCandidate.servePlan_display.trans hdisplay).trans hacting.symm
    · refine .quiet (State.Tells.shows_self (m := [.speed]) ?_ (State.setSpeed_same _ _))
      exact .of_told ⟨rfl, rfl, rfl, rfl, rfl, rfl⟩ fun b => by cases b <;> trivial
  · exact .idle

/-! ### Station control -/

/-- While the station stands still the display is off, and its plans are left alone (R141). -/
theorem State.composerSound.atRest {s t : State} (h : s.composerSound) (hs : s.acting = false) (ht : t.acting = false)
    (hc : t.composer = s.composer) : t.composerSound := by
  obtain ⟨hdisplayed, -⟩ := s.composerSound_iff.mp h
  refine t.composerSound_iff.mpr ⟨⟨?_, fun _ => hc ▸ hdisplayed.dark hs⟩, fun hf => nomatch ht.symm.trans hf⟩
  rw [hc, hdisplayed.display, hs, ht]

/-- A reset blanks both plans and turns the display off (R141, R174). -/
theorem State.restart_planKept (s : State) (straps : Straps) : PlanKept s (.next (s.restart straps)) := by
  rintro _ ⟨⟩ -
  have hcomposer : (s.restart straps).composer = Composer.reset := by
    unfold State.restart
    dsimp only
    split <;> rfl
  have hmode : (s.restart straps).mode = .starting := by
    unfold State.restart
    dsimp only
    split <;> rfl
  have hrest : (s.restart straps).acting = false := congrArg Mode.acting hmode
  refine (State.composerSound_iff _).mpr ⟨⟨?_, fun _ => ?_⟩, fun hf => nomatch hrest.symm.trans hf⟩
  · rw [hcomposer, hrest]
    rfl
  · rw [hcomposer]
    exact ⟨rfl, rfl⟩

theorem execStartUpCheck_planKept (dt : Nat) (image : List Octet) (s : State) : PlanKept s (execStartUpCheck dt image s) := by
  have hfault (u : State) (hc : u.composer = s.composer) :
      u.enterConfigFault.acting = false ∧ u.enterConfigFault.composer = s.composer := by
    obtain ⟨hstation, -, -, -, -, hsame⟩ := u.enterConfigFault_spec
    exact ⟨congrArg (fun c : Station => c.mode.acting) hstation, (hsame .composer (by decide)).trans hc⟩
  unfold execStartUpCheck
  dsimp only
  split
  · next hc =>
    simp only [Bool.and_eq_true, beq_iff_eq] at hc
    obtain ⟨⟨hm, -⟩, -⟩ := hc
    have hstarting : s.mode = .starting := hm
    have hrest : s.acting = false := congrArg Mode.acting hstarting
    have outcome {t : State} : t.acting = false ∧ t.composer = s.composer → PlanKept s (.next t) := fun ⟨ha, hc⟩ =>
      .next (dt := dt) fun hs => hs.atRest hrest ha hc
    split
    · refine outcome ?_
      unfold State.judgeImage
      dsimp only
      rw [State.raiseImageFaults_eq]
      split
      · generalize hu : State.setStation _ _ = u
        have hjudged : u.acting = false ∧ u.composer = s.composer := by
          subst hu
          exact ⟨hrest, rfl⟩
        have hsame := u.handOver_same
        exact ⟨(State.acting_of_told (Block.told_of_same (hsame .station (by decide)))).trans hjudged.1,
          (hsame .composer (by decide)).trans hjudged.2⟩
      · exact hfault _ rfl
    · exact outcome (hfault _ rfl)
  · exact .idle

theorem execRestoreComplete_planKept (dt : Nat) (s : State) : PlanKept s (execRestoreComplete dt s) := by
  have hslots : SameOutside [.faults, .retention, .closures] (s.advance dt) (Pos.all.foldl State.restoreSlot (s.advance dt)) :=
    .foldl State.restoreSlot_same _ _
  unfold execRestoreComplete
  dsimp only
  generalize Pos.all.foldl State.restoreSlot (s.advance dt) = u at hslots ⊢
  refine .guarded fun hc => ?_
  simp only [Bool.and_eq_true, beq_iff_eq] at hc
  obtain ⟨⟨hm, -⟩, -⟩ := hc
  have hstarting : s.mode = .starting := hm
  have hrest : s.acting = false := congrArg Mode.acting hstarting
  have hwritten := (u.setStation { u.station with restored := true }).startWrite_same
  have hacting : u.acting = s.acting := State.acting_of_told (Block.told_of_same (hslots .station (by decide)))
  refine .next (dt := dt) fun hs => hs.atRest hrest ?_ ((hwritten .composer (by decide)).trans (hslots .composer (by decide)))
  rw [State.acting_of_told (Block.told_of_same (hwritten .station (by decide)))]
  exact hacting.trans hrest

/-- The entry into WARMING turns the display on, and its report lets the composer compose (R141, R142, R168). -/
theorem execWarmingEntry_planKept (dt : Nat) (s : State) : PlanKept s (execWarmingEntry dt s) := by
  refine .guarded fun hc => .next (dt := dt) fun hs => ?_
  simp only [Bool.and_eq_true, beq_iff_eq] at hc
  obtain ⟨⟨⟨hm, -⟩, -⟩, -⟩ := hc
  have hstarted : State.PlanUnderWay (s.advance dt) [.station] (s.advance dt).warmingStarted := by
    refine ⟨fun b hb _ => ?_, ⟨rfl, nofun⟩, fun _ hall => ?_⟩
    · cases b
      case station => exact absurd (List.mem_singleton.mpr rfl) hb
      case speed => exact ⟨rfl, rfl⟩
      case neighbours | closures | queue | shoulder => exact rfl
      all_goals trivial
    · have hmode : (s.advance dt).warmingStarted.mode = (s.advance dt).mode := hall .station
      exact nomatch hmode.trans hm
  exact hstarted.settle []

theorem execWarmUpTimerExpiry_planKept (dt : Nat) (s : State) : PlanKept s (execWarmUpTimerExpiry dt s) :=
  .guarded fun _ => .quiet ((s.advance dt).setStation_shows _ rfl rfl rfl)

/-- The exit shows the mode and then, at an evaluation of the same moment, the demand (R71, R77, R169). -/
theorem execWarmingExit_planKept (dt : Nat) (modeFirst : Bool) (o : Order) (s : State) :
    PlanKept s (execWarmingExit dt modeFirst o s) := by
  refine .guarded fun hc => .next (dt := dt) fun hs => ?_
  simp only [Bool.and_eq_true, beq_iff_eq] at hc
  obtain ⟨⟨hm, -⟩, -⟩ := hc
  have ha : (s.advance dt).acting = true := congrArg Mode.acting hm
  have hexited := hs.underWay.act (State.exited_shows _ ha) nofun
  split
  · exact ((hexited.serveSome o.between).act (State.evaluateDemand_shows _)).settle o.late
  · exact hexited.settle o.late

theorem execSlotWriteCompletion_planKept (dt : Nat) (s : State) : PlanKept s (execSlotWriteCompletion dt s) := by
  unfold execSlotWriteCompletion
  dsimp only
  split
  · exact .guarded fun _ => .quiet ((State.Shows.of_same (State.setRetention_same _ _)).trans (.of_same (State.startWrite_same _)))
  · exact .idle

/-! ### Every command -/

theorem exec_planKept (i : Instr) (s : State) : PlanKept s (exec i s) := by
  cases i with
  | powerOnReset straps | resetPin straps => exact s.restart_planKept straps
  | loopPresenceStart | traceFramePlaced | idleGap | transmitStart | arbitrationLost | transmitAbort | abortHoldEnd | transmitComplete
  | publicationTimerExpiry | lapse | frameAborted | frameRejected | lineStuckEnd | frameLengthRejected | firstHoldWrongClass
  | arbitrationWon =>
    dsimp only [exec, execLoopPresenceStart, execTraceFramePlaced, execIdleGap, execTransmitStart, execArbitrationLost, execTransmitAbort,
      execAbortHoldEnd, execTransmitComplete, execPublicationTimerExpiry, execLapse, execFrameAborted, execFrameRejected,
      execLineStuckEnd, execFrameLengthRejected, execFirstHoldWrongClass, execArbitrationWon]
    repeat' split
    all_goals exact .aside rfl
  | startUpCheck dt image => exact execStartUpCheck_planKept dt image s
  | restoreComplete dt => exact execRestoreComplete_planKept dt s
  | warmingEntry dt => exact execWarmingEntry_planKept dt s
  | warmUpTimerExpiry dt => exact execWarmUpTimerExpiry_planKept dt s
  | warmingExit dt modeFirst o => exact execWarmingExit_planKept dt modeFirst o s
  | qualifiedOnEdge dt l => exact execQualifiedOnEdge_planKept dt l s
  | releaseEdge dt l => exact execReleaseEdge_planKept dt l s
  | presenceTimeout dt l endFirst => exact execPresenceTimeout_planKept dt l endFirst s
  | pairingDeadline dt k => exact execPairingDeadline_planKept dt k s
  | intervalEnd dt lanes loops => exact execIntervalEnd_planKept dt lanes loops s
  | vehicleRequestCompletion dt o => exact execVehicleRequestCompletion_planKept dt o s
  | intervalRequestCompletion dt o => exact execIntervalRequestCompletion_planKept dt o s
  | lineStuck dt holds o => exact execLineStuck_planKept dt holds o s
  | statusFrame dt cls source body o => exact execStatusFrame_planKept dt cls source body o s
  | reportFrameHeard dt cls source body => exact s.heard_planKept dt _
  | neighbourExpiry dt station => exact execNeighbourExpiry_planKept dt station s
  | neighbourRemoval dt station o => exact execNeighbourRemoval_planKept dt station o s
  | isolationTimerExpiry dt o => exact execIsolationTimerExpiry_planKept dt o s
  | holdExpiry dt => exact execHoldExpiry_planKept dt s
  | override dt low high step legend minutes o =>
    exact s.command_planKept dt _ _ _ _ [.speed] fun t => t.takeOverride_shows _ _ _
  | overrideExpiry dt o => exact .guarded fun _ => .settled ((s.advance dt).setOverride_shows none nofun)
  | closeSet dt origin serial lanes taper extent step o => exact execCloseSet_planKept dt origin serial lanes taper extent step o s
  | closeClear dt origin serial o => exact execCloseClear_planKept dt origin serial o s
  | shoulderOpen dt low high o => exact s.command_planKept dt _ _ _ _ [.shoulder] fun t => t.takeOpen_work.shows
  | shoulderClose dt low high o => exact s.command_planKept dt _ _ _ _ [.shoulder] fun t => t.takeClose_work.shows
  | checkTimerExpiry dt => exact .guarded fun _ => .settled (State.moveShoulder_work _ _).shows
  | clearanceTimerExpiry dt => exact .guarded fun _ => .settled (State.moveShoulder_work _ _).shows
  | faultAck dt station kind unit => exact execFaultAck_planKept dt station kind unit s
  | faultAckAll dt station unit => exact s.command_planKept dt _ _ _ _ [] fun _ => .of_sources rfl
  | requestFaults dt station lane count => exact s.command_planKept dt _ _ _ _ [] fun t => t.answer_shows _
  | requestLanes dt station lane count => exact s.command_planKept dt _ _ _ _ [] fun t => t.answer_shows _
  | requestTrace dt station lane count => exact s.command_planKept dt _ _ _ _ [] fun t => t.startTrace_shows _ _
  | identity dt c kind check endFirst => exact execIdentity_planKept dt c kind check endFirst s
  | identificationDeadline dt c => exact execIdentificationDeadline_planKept dt c s
  | provingReport dt c set result check endFirst => exact execProvingReport_planKept dt c set result check endFirst s
  | provingDeadline dt c endFirst => exact execProvingDeadline_planKept dt c endFirst s
  | retryTimerExpiry dt c => exact .guarded fun _ => .quiet ((s.advance dt).retry_shows c)
  | restartNotice dt c kind check endFirst => exact execRestartNotice_planKept dt c kind check endFirst s
  | slotWriteCompletion dt => exact execSlotWriteCompletion_planKept dt s
  | commandNotAddressed dt kind body => exact execCommandNotAddressed_planKept dt kind body s
  | shoulderOtherAction dt low high action => exact execShoulderOtherAction_planKept dt low high action s
  | requestOtherType dt station type lane count => exact execRequestOtherType_planKept dt station type lane count s

/-- Settles O13: every command keeps the composer in tune with its inputs, and a step without one leaves the state. -/
theorem planWaitsOnlyForAChannelInSetting : Obligations.PlanWaitsOnlyForAChannelInSetting := by
  intro s t hs ht
  unfold step at ht
  split at ht
  · next i rest _ => exact exec_planKept i (s.setPending rest) t ht hs
  · cases ht
    exact hs

end Sys2Proof.Machine
end
